-- ==== Sys2Proof/Word.lean ====
section
/-! DEFINITION. Word.lean: the byte of the serial frames and its plainest arithmetic. -/

namespace Sys2Proof

/-- One byte of a frame (R198). -/
abbrev Byte := BitVec 8

/-- A two-byte frame field (R198). -/
abbrev Word16 := BitVec 16

/-- The byte that holds the number `n`. -/
abbrev byte (n : Nat) : Byte := BitVec.ofNat 8 n

end Sys2Proof
end

