-- ==== Sys2Proof/Syntax.lean ====
section
/-! DEFINITION. Syntax.lean: the commands of the gateway, one constructor per row of spec/opcode_table.json.
Physical positions (a slot, a lane, a node, a class) are bounded numbers. What a frame carries stays the
frame's own bytes wherever the gateway itself checks them (R120, R185, R188), so that each check is the model's. -/

namespace Sys2Proof

/-- A slot number, 0 to 23; a carrier lane has its slot's number (R1, R49). -/
abbrev SlotId := Fin 24
/-- A zone number, 0 to 3 (R1). -/
abbrev ZoneId := Fin 4
/-- A sensor node number, 0 to 3; a sensor lane has its node's number (section 4.1). -/
abbrev NodeId := Fin 4
/-- A class number, 0 to 7 (R103). -/
abbrev ClassId := Fin 8

/-- The level of a line (R201). -/
inductive Level
  | low
  | high
deriving DecidableEq, Repr

/-- The destination of a group frame (R142): a zone or the whole case. -/
inductive GroupDest
  | zone (z : ZoneId)
  | all
deriving DecidableEq, Repr

/-- The fields of a trunk request frame after its destination, as received (R120, R198). -/
structure FrameBody where
  /-- the kind byte, taken when at most 15 -/
  kind : Byte
  tag : Byte
  /-- the priority byte, taken when at most 7 -/
  priority : Byte
  /-- 0 for none, or 1 to 255 steps of 100 ms -/
  waitLimit : Byte
  /-- taken when at most 16 bytes long -/
  payload : List Byte
deriving DecidableEq, Repr

/-- A trunk request frame that passed its CRC and length check (R120). -/
structure TrunkFrame where
  destination : Byte
  body : FrameBody
deriving DecidableEq, Repr

/-- The outcome a COMPLETION frame carries (R49, R199). -/
inductive CompletionOutcome
  | done
  | failed (code : Byte)
  | aborted
deriving DecidableEq, Repr

/-- The commands: every row of the opcode table, in the table's order. -/
inductive Instr
  /-- POWER_ON_RESET (R179) -/
  | powerOnReset
  /-- SLOT_REQUEST (R127): a checked frame addressed to a slot -/
  | slotRequest (slot : SlotId) (frame : FrameBody)
  /-- PLAIN_FRAME (R62): a checked frame addressed to a slot -/
  | plainFrame (slot : SlotId) (frame : FrameBody)
  /-- GROUP_FRAME (R142): a checked frame addressed to a zone or ALL -/
  | groupFrame (dest : GroupDest) (frame : FrameBody)
  /-- ANSWER_SENT (R136): the last byte of the frame in transmission has been sent -/
  | answerSent
  /-- TABLE_READ (R187): management kind 0 -/
  | tableRead (tag : Byte) (payload : List Byte)
  /-- KIND_MAP_WRITE (R122): TABLE_WRITE of table 0; `entry` is the payload after table code and index -/
  | kindMapWrite (tag index : Byte) (entry : List Byte)
  /-- PRIORITY_MAP_WRITE (R30): TABLE_WRITE of table 1 -/
  | priorityMapWrite (tag index : Byte) (entry : List Byte)
  /-- DRAW_PROFILE_WRITE (R10): TABLE_WRITE of table 2 -/
  | drawProfileWrite (tag index : Byte) (entry : List Byte)
  /-- SLOT_CONFIGURATION_WRITE (R2): TABLE_WRITE of table 3 -/
  | slotConfigurationWrite (tag index : Byte) (entry : List Byte)
  /-- CEILINGS_WRITE (R36): TABLE_WRITE of table 4 -/
  | ceilingsWrite (tag index : Byte) (entry : List Byte)
  /-- STAGGER_WRITE (R38): TABLE_WRITE of table 5 -/
  | staggerWrite (tag index : Byte) (entry : List Byte)
  /-- NODE_CONFIGURATION_WRITE (R94): TABLE_WRITE of table 6 -/
  | nodeConfigurationWrite (tag index : Byte) (entry : List Byte)
  /-- MOTION_RULE_WRITE (R99): TABLE_WRITE of table 7 -/
  | motionRuleWrite (tag index : Byte) (entry : List Byte)
  /-- CLASS_WRITE (R116): TABLE_WRITE of table 8 -/
  | classWrite (tag index : Byte) (entry : List Byte)
  /-- TIMING_WRITE (R186): TABLE_WRITE of table 9 -/
  | timingWrite (tag index : Byte) (entry : List Byte)
  /-- SLOT_READ (R193): management kind 2 -/
  | slotRead (tag : Byte) (payload : List Byte)
  /-- NODE_READ (R97): management kind 3 -/
  | nodeRead (tag : Byte) (payload : List Byte)
  /-- STATUS_READ (R194): management kind 4 -/
  | statusRead (tag : Byte) (payload : List Byte)
  /-- SET_MODE_RUN (R190): management kind 5 with mode code 1 -/
  | setModeRun (tag : Byte)
  /-- SET_MODE_CONFIG (R190): management kind 5 with mode code 0 -/
  | setModeConfig (tag : Byte)
  /-- CLEAR_FAULT (R27, R192): management kind 6 -/
  | clearFault (tag : Byte) (payload : List Byte)
  /-- WITHDRAW (R176): management kind 7 -/
  | withdraw (tag : Byte) (payload : List Byte)
  /-- RESTORE (R178): management kind 8 -/
  | restore (tag : Byte) (payload : List Byte)
  /-- ACK_EVENTS (R196): management kind 9 -/
  | ackEvents (tag : Byte) (payload : List Byte)
  /-- SET_ENABLES (R196): management kind 10 -/
  | setEnables (tag : Byte) (payload : List Byte)
  /-- RESTART (R180): management kind 11 -/
  | restart (tag : Byte) (payload : List Byte)
  /-- RESTART_EXECUTION (R181): a pending RESTART executed between frames -/
  | restartExecution
  /-- SUPPLY_SOURCE_LINE_CHANGE (R156): the line is now at `level` (R201) -/
  | supplySourceLineChange (level : Level)
  /-- SOURCE_DEBOUNCE_EXPIRY (R157) -/
  | sourceDebounceExpiry
  /-- PRESENCE_INPUT_CHANGE (R171): the slot's input is now at `level` (R201) -/
  | presenceInputChange (slot : SlotId) (level : Level)
  /-- PRESENCE_DEBOUNCE_EXPIRY (R171) -/
  | presenceDebounceExpiry (slot : SlotId)
  /-- COMPLETION (R56): a checked completion frame on a carrier lane -/
  | completion (lane : SlotId) (tag : Byte) (outcome : CompletionOutcome) (payload : List Byte)
  /-- SELF_PARKED (R22): the beacon on a carrier lane -/
  | selfParked (lane : SlotId)
  /-- CARRIER_FAULT (R24): the beacon on a carrier lane, with its code -/
  | carrierFault (lane : SlotId) (code : Byte)
  /-- OP_DEADLINE_EXPIRY (R59): the deadline of the outstanding op with this lane tag -/
  | opDeadlineExpiry (lane : SlotId) (tag : Byte)
  /-- SELF_PARK_HOLD_EXPIRY (R6) -/
  | selfParkHoldExpiry (slot : SlotId)
  /-- WAIT_DEADLINE (R130) -/
  | waitDeadline (slot : SlotId)
  /-- STAGGER_TIMER_EXPIRY (R38) -/
  | staggerTimerExpiry
  /-- SAMPLE (R87): a checked sample frame on a sensor lane; the axes are signed (R198) -/
  | sample (lane : NodeId) (node sequence : Byte) (x y z : Word16)
  /-- SILENCE_TIMER_EXPIRY (R91) -/
  | silenceTimerExpiry (node : NodeId)
  /-- CLASS_EXPIRY (R107) -/
  | classExpiry (cls : ClassId)
  /-- MALFORMED_FRAME (R120): a trunk frame with a refused field value -/
  | malformedFrame (frame : TrunkFrame)
  /-- BLOCKED_SLOT_FRAME (R123): a frame addressed to a slot whose kind is mapped BLOCK -/
  | blockedSlotFrame (slot : SlotId) (frame : FrameBody)
  /-- UNKNOWN_MANAGEMENT_KIND (R185): a GATEWAY frame of kind 12 + `unknown`, 12 to 15 -/
  | unknownManagementKind (unknown : Fin 4) (tag : Byte)
deriving DecidableEq, Repr

end Sys2Proof
end

