-- ==== Sys2Proof/Config.lean ====
section
/-! DEFINITION. Config.lean: the gateway's fixed sizes and times, and the values its manual leaves open. -/

namespace Sys2Proof.Config

/-- The egress queue's frames and reservations together (R136, R137). -/
def egressCapacity : Nat := 64
/-- HOLD stands while fewer free entries than this remain (R137). -/
def holdMargin : Nat := 8
/-- A saturating counter's last value (R8, R84, R103). -/
def counterMax : Nat := 65535
/-- The retired tags a lane keeps (R52). -/
def retiredMax : Nat := 8
/-- The QUERY deadline in ms (R54). -/
def queryDuration : Nat := 250
/-- The longest payload of a trunk request or of a completion (R49, R120). -/
def payloadMax : Nat := 16
/-- The destination value GATEWAY, which is also the source of a management answer (R120, R185). -/
def gatewayAddress : Nat := 31
/-- The destination value ALL (R120). -/
def allAddress : Nat := 28
/-- The first of the four kinds that name no management request (R185, R200). -/
def firstUnknownKind : Nat := 12

/-- DESIGN CHOICE (log 3), safe: the order in which expiries of one instant are taken is not given (section 5.4
of the scope: either may be taken first). Each event of an instant has a rank that nothing constrains, and they
are taken in ascending rank. -/
opaque sameInstantRank : Nat → Instr → Nat

/-- DESIGN CHOICE (log 16), safe: STATUS_READ of a free group record returns "its number and the word free" (R194);
the code of the word is not stated. -/
opaque freeRecordWord : Byte

end Sys2Proof.Config
end

