-- ==== Sys2Proof/Decode.lean ====
section
/-! DEFINITION. Decode.lean: from a word or from the bytes of a serial connection to frames and commands
(R198, R199, R200), with the encoders of the same framing. The opcode table gives no row bits, so no word spells a
command. -/

namespace Sys2Proof

/-- No row of the opcode table has bits: no word spells a command (log 6). -/
def decodeTableWord (_nbits _w : Nat) : Option Instr := none

/-! ### Framing (R198) -/

/-- The start delimiter C3h. -/
def delimiter : Byte := 0xC3
/-- The escape byte 7Dh. -/
def escapeByte : Byte := 0x7D
/-- The HOLD symbol 3Ch. -/
def holdSymbol : Byte := 0x3C
/-- The GO symbol 3Dh. -/
def goSymbol : Byte := 0x3D
/-- The bit pattern an escaped byte is XORed with. -/
def escapeMask : Byte := 0x20

/-- One bit of the CRC register: shift out the top bit and add the polynomial 1021h where it was set. -/
def crcBit (c : Word16) : Word16 := if c.msb then (c <<< 1) ^^^ 0x1021 else c <<< 1

/-- One byte into the CRC, most significant bit first (R198). -/
def crcByte (c : Word16) (b : Byte) : Word16 :=
  let c0 := c ^^^ (b.zeroExtend 16 <<< 8)
  crcBit (crcBit (crcBit (crcBit (crcBit (crcBit (crcBit (crcBit c0)))))))

/-- CRC-16 with initial value FFFFh and no final inversion (R198). -/
def crc16 (bytes : List Byte) : Word16 := bytes.foldl crcByte 0xFFFF

/-- The high byte of a two-byte field. -/
def highByte (w : Word16) : Byte := w.extractLsb' 8 8
/-- The low byte of a two-byte field. -/
def lowByte (w : Word16) : Byte := w.extractLsb' 0 8
/-- A two-byte field, high byte first (R198). -/
def wordOf (hi lo : Byte) : Word16 := hi ++ lo

/-- The two CRC bytes of a frame, high byte first. -/
def crcBytes (body : List Byte) : List Byte := [highByte (crc16 body), lowByte (crc16 body)]

/-- The bytes that are escaped inside a frame. -/
def mustEscape (b : Byte) : Bool := b == delimiter || b == holdSymbol || b == goSymbol || b == escapeByte

/-- Escaping inside a frame (R198). -/
def escaped : List Byte → List Byte
  | [] => []
  | b :: bs => if mustEscape b then escapeByte :: (b ^^^ escapeMask) :: escaped bs else b :: escaped bs

/-- The bytes on the wire of the frame whose length byte and fields are `body` (R198). -/
def wireBytes (body : List Byte) : List Byte := delimiter :: escaped (body ++ crcBytes body)

/-- A receiver between bytes: outside a frame, or inside one with the restored bytes so far and whether an escape
byte has just been taken (R198). -/
inductive Receiver
  | idle
  | inFrame (restored : List Byte) (escape : Bool)
deriving DecidableEq, Repr

/-- The restored bytes are a whole frame: their number equals the length field plus 2 (R198). -/
def frameEnded : List Byte → Bool
  | [] => false
  | len :: rest => rest.length + 1 == len.toNat + 2

/-- The frame's body (length byte and fields) when its CRC is right (R198). -/
def checkedBody (restored : List Byte) : Option (List Byte) :=
  let body := restored.take (restored.length - 2)
  if restored.drop (restored.length - 2) = crcBytes body then some body else none

/-- One received byte (R198): a delimiter starts a new frame wherever it comes; bytes outside a frame are
disregarded; a frame that ends with a wrong CRC is discarded. -/
def Receiver.take (r : Receiver) (b : Byte) : Receiver × Option (List Byte) :=
  if b = delimiter then (.inFrame [] false, none)
  else
    match r with
    | .idle => (.idle, none)
    | .inFrame restored escape =>
      if b = escapeByte && !escape then (.inFrame restored true, none)
      else
        let now := restored ++ [if escape then b ^^^ escapeMask else b]
        if frameEnded now then (.idle, checkedBody now) else (.inFrame now false, none)

/-- The bodies of the frames in a run of received bytes, those failing their CRC left out. -/
def receivedBodies : Receiver → List Byte → List (List Byte)
  | _, [] => []
  | r, b :: bs =>
    match r.take b with
    | (r', some body) => body :: receivedBodies r' bs
    | (r', none) => receivedBodies r' bs

/-! ### The frames of each connection -/

/-- A trunk request frame from its body; a length below the fixed part is discarded (R198). -/
def trunkFrameOf : List Byte → Option TrunkFrame
  | _len :: dest :: kind :: tag :: prio :: wait :: payload => some ⟨dest, ⟨kind, tag, prio, wait, payload⟩⟩
  | _ => none

/-- The body of a trunk request frame (R198). -/
def TrunkFrame.bodyBytes (f : TrunkFrame) : List Byte :=
  byte (6 + f.body.payload.length) :: f.destination :: f.body.kind :: f.body.tag :: f.body.priority
    :: f.body.waitLimit :: f.body.payload

/-- A received lane frame's command, from its body; any other type, outcome or beacon is discarded, and so is a
completion payload longer than 16 bytes (R49, R199). DESIGN CHOICE (log 32), unsafe: a BEACON frame whose CRC is right and
whose length is above 4 is discarded too; R199 gives the length 4 and does not say what a longer one comes to. -/
def laneCommandOf (lane : SlotId) : List Byte → Option Instr
  | [_len, ty, beacon, code] =>
    if ty.toNat = 3 then
      match beacon.toNat with
      | 0 => some (.selfParked lane)
      | 1 => some (.carrierFault lane code)
      | _ => none
    else none
  | _len :: ty :: tag :: outcome :: code :: payload =>
    if ty.toNat = 2 && decide (payload.length ≤ Config.payloadMax) then
      match outcome.toNat with
      | 0 => some (.completion lane tag .done payload)
      | 1 => some (.completion lane tag (.failed code) payload)
      | 2 => some (.completion lane tag .aborted payload)
      | _ => none
    else none
  | _ => none

/-- A received sensor frame's command; a length other than 9 is discarded (R68, R199). -/
def sampleCommandOf (lane : NodeId) : List Byte → Option Instr
  | [_len, node, sequence, xh, xl, yh, yl, zh, zl] =>
    some (.sample lane node sequence (wordOf xh xl) (wordOf yh yl) (wordOf zh zl))
  | _ => none

/-! ### Refused trunk frames (R120, R185) -/

/-- Some field holds a value that R120 refuses: destination 29, 30 or above 31, kind above 15, priority above 7, or a
payload longer than 16 bytes. -/
def TrunkFrame.refusedField (f : TrunkFrame) : Bool :=
  decide (28 < f.destination.toNat ∧ f.destination.toNat ≠ Config.gatewayAddress)
    || decide (15 < f.body.kind.toNat) || decide (7 < f.body.priority.toNat)
    || decide (Config.payloadMax < f.body.payload.length)

/-- The entry length of each table code (R200); none where the code names no table. -/
def entryLength (table : Nat) : Option Nat := [1, 2, 6, 3, 4, 2, 8, 7, 4, 3][table]?

/-- The payload is not one byte up to `limit`. -/
def notOneByte (limit : Nat) : List Byte → Bool
  | [b] => decide (limit < b.toNat)
  | _ => true

/-- Step 2 of R185, with the payload lengths and codes of R200: the payload does not have the form the management
request of this kind requires. -/
def managementMalformed (kind : Nat) (p : List Byte) : Bool :=
  match kind with
  | 0 => match p with
    | [table, _index] => (entryLength table.toNat).isNone
    | _ => true
  | 1 => match p with
    | table :: _index :: entry => !(entryLength table.toNat == some entry.length)
    | _ => true
  | 2 => match p with
    | [_slot, part] => decide (1 < part.toNat)
    | _ => true
  | 3 => notOneByte 255 p
  | 4 => notOneByte 6 p
  | 5 => notOneByte 1 p
  | 6 => notOneByte 255 p
  | 7 => notOneByte 255 p
  | 8 => notOneByte 255 p
  | 9 => notOneByte 63 p
  | 10 => notOneByte 63 p
  | 11 => !p.isEmpty
  | _ => true

/-- The frame is answered MALFORMED whatever the gateway's state: a refused field (R120), or a management request of
kind 0 to 11 whose payload fails step 2 of R185. -/
def TrunkFrame.malformed (f : TrunkFrame) : Bool :=
  f.refusedField
    || (decide (f.destination.toNat = Config.gatewayAddress) && decide (f.body.kind.toNat ≤ 11)
        && managementMalformed f.body.kind.toNat f.body.payload)

end Sys2Proof
end

