-- ==== Sys2Proof/Machine/Types.lean ====
section
/-! DEFINITION. Machine/Types.lean: the named values and the records of the blocks of the gateway, as the spec's tables
list their fields. -/

namespace Sys2Proof.Machine

/-! ### Named values -/

/-- The eleven states of a slot (section 1.2). -/
inductive SlotState
  | empty
  | stopped
  | queued
  | spinningUp
  | parked
  | loading
  | loaded
  | unloading
  | spinningDown
  | probing
  | fault
deriving DecidableEq, Repr

/-- A spindle target, ordered STOPPED < PARKED < LOADED (scope 5.3). -/
inductive Target
  | stopped
  | parked
  | loaded
deriving DecidableEq, Repr

/-- Which draw a spinning-down slot holds (R10). -/
inductive DrawKept
  | spinUp
  | running
deriving DecidableEq, Repr

/-- A kind map action (R122). -/
inductive Action
  | stopped
  | atLeastParked
  | atMostParked
  | loaded
  | forward
  | forwardIfClear
  | block
deriving DecidableEq, Repr

/-- The outcome codes of answer frames (scope section 6). -/
inductive AnswerCode
  | done
  | failed
  | timeout
  | absent
  | blocked
  | held
  | faulted
  | superseded
  | withdrawn
  | shed
  | shedding
  | gone
  | waitExpired
  | groupFull
  | configMode
  | laneBusy
  | malformed
  | badIndex
  | locked
  | inUse
  | classActive
deriving DecidableEq, Repr

/-- Why a slot last entered FAULT, with the carrier's code where the cause carries one (R7). -/
inductive FaultCause
  | spinFailed (code : Byte)
  | spinTimeout
  | loadFailed (code : Byte)
  | loadTimeout
  | unloadFailed (code : Byte)
  | unloadTimeout
  | stopFailed (code : Byte)
  | stopTimeout
  | carrierFault (code : Byte)
  | probeTimeout
deriving DecidableEq, Repr

/-- A governed lane op (R49, R53). -/
inductive GovernedOp
  | spin
  | stop
  | load
  | unload
  | query
deriving DecidableEq, Repr

/-- The role of the governed record (R50). -/
inductive Role
  | sole
  | first
  | residual
deriving DecidableEq, Repr

/-- How a lane op ended (R50, R57, R59). -/
inductive OpOutcome
  | done
  | failed (code : Byte)
  | aborted
  | timeout
deriving DecidableEq, Repr

/-- A group record's number, 0 to 3 (R140). -/
abbrev GroupId := Fin 4

/-- Where an active request came from (R4). -/
inductive Origin
  | controller
  | group (g : GroupId)
deriving DecidableEq, Repr

/-- A supply source (R35, R155). -/
inductive Source
  | mains
  | battery
deriving DecidableEq, Repr

/-- The gateway's mode (R190). -/
inductive Mode
  | config
  | run
deriving DecidableEq, Repr

/-- A node's up direction (R69). -/
inductive Direction
  | plusX
  | minusX
  | plusY
  | minusY
  | plusZ
  | minusZ
deriving DecidableEq, Repr

/-- A node's status (section 5.2). -/
inductive NodeStatus
  | off
  | live
  | silent
  | recovering
deriving DecidableEq, Repr

/-- A motion rule's metric (R81, R98). -/
inductive Metric
  | shock
  | vibration
  | fall
  | tilt
deriving DecidableEq, Repr

/-- The flow-control symbols (R137). -/
inductive FlowSymbol
  | hold
  | go
deriving DecidableEq, Repr

/-- The six event flags (R195). -/
inductive Flag
  | holdChange
  | slotFault
  | nodeSilent
  | overCeiling
  | selfPark
  | presenceChange
deriving DecidableEq, Repr

/-- A set of nodes or of zones, one bit each (R98, R103, R200). -/
abbrev Set4 := Vector Bool 4

/-- The set that holds nothing. -/
def Set4.none : Set4 := Vector.replicate 4 false
/-- The set {0, 1, 2, 3}. -/
def Set4.all : Set4 := Vector.replicate 4 true
/-- No element is in the set. -/
def Set4.isEmpty (s : Set4) : Bool := !s[0] && !s[1] && !s[2] && !s[3]

/-! ### Slot controller -/

/-- The active request of a slot (R4). -/
structure ActiveRequest where
  origin : Origin
  tag : Byte
  kind : Fin 16
  target : Target
  waitDeadline : Option Nat
  priority : Fin 8
deriving DecidableEq, Repr

/-- A slot record (R1) with its presence input and presence debounce (R171). The three operation fields stand in the
lane record (R50). -/
structure SlotRecord where
  /-- the debounced presence: PRESENT is true -/
  present : Bool
  /-- the level of the presence input pin (R201) -/
  input : Level
  debounceExpiry : Option Nat
  inService : Bool
  state : SlotState
  zone : ZoneId
  profile : Fin 8
  shedClass : Fin 4
  standing : Target
  lastPriority : Option (Fin 8)
  active : Option ActiveRequest
  /-- in 0.1 A (R10) -/
  reservation : Nat
  drawKept : DrawKept
  powerSwitch : Bool
  shedMark : Bool
  selfParkExpiry : Option Nat
  faultCause : Option FaultCause
  spinUps : Nat
  emergencyUnloads : Nat
  selfParks : Nat
  lateReports : Nat
deriving DecidableEq, Repr

/-- A draw profile (R54, R186): draws in 0.1 A, spin deadlines in steps of 100 ms, head deadlines in steps of 10 ms. -/
structure DrawProfile where
  spinUpDraw : Nat
  runningDraw : Nat
  spinUpDeadline : Nat
  spinDownDeadline : Nat
  loadDeadline : Nat
  unloadDeadline : Nat
deriving DecidableEq, Repr

/-! ### Lane interface -/

/-- The governed record of a lane (R50). -/
structure GovernedRecord where
  op : GovernedOp
  tag : Byte
  issued : Nat
  deadline : Nat
  role : Role
deriving DecidableEq, Repr

/-- The preempting record of a lane (R50). -/
structure PreemptingRecord where
  op : GovernedOp
  tag : Byte
  issued : Nat
  deadline : Nat
deriving DecidableEq, Repr

/-- The plain record of a lane (R50, R62). -/
structure PlainRecord where
  tag : Byte
  trunkTag : Byte
  kind : Fin 16
  issued : Nat
  deadline : Nat
deriving DecidableEq, Repr

/-- The last preempted outcome (R50). -/
structure PreemptedOutcome where
  op : GovernedOp
  tag : Byte
  outcome : OpOutcome
deriving DecidableEq, Repr

/-- A COMMAND frame (R49). -/
inductive LaneCommand
  | governed (op : GovernedOp) (tag : Byte)
  | plain (tag : Byte) (kind : Fin 16) (payload : List Byte)
deriving DecidableEq, Repr

/-- A lane record (R50). -/
structure LaneRecord where
  lastTag : Byte
  /-- oldest first -/
  retired : List Byte
  governed : Option GovernedRecord
  preempting : Option PreemptingRecord
  held : Option GovernedOp
  plain : Option PlainRecord
  lastPreempted : Option PreemptedOutcome
  /-- the model's own field (log 11): the COMMAND frames of the lane since the power-on reset, in the order issued -/
  transmitted : List LaneCommand
deriving DecidableEq, Repr

/-! ### Spin arbiter -/

/-- A spin queue entry (R29). -/
structure QueueEntry where
  slot : SlotId
  priorityUsed : Option (Fin 8)
deriving DecidableEq, Repr

/-- The spin arbiter's state (R29, R30, R35). The source in force stands in the supply monitor. -/
structure Arbiter where
  /-- each queue head first -/
  queues : Vector (List QueueEntry) 4
  priorityMap : Vector (Fin 4) 8
  groupQueue : Fin 4
  groupByPriority : Bool
  mainsCeiling : Nat
  batteryCeiling : Nat
  reservationTotal : Nat
  lastGrant : Option Nat
  /-- in steps of 10 ms -/
  staggerInterval : Nat
  staggerExpiry : Option Nat
deriving DecidableEq, Repr

/-! ### Motion front end and hold unit -/

/-- The node configuration entry (R69, R84). -/
structure NodeConfig where
  enabled : Bool
  up : Direction
  /-- the rest reference G, in mg -/
  g : Nat
  /-- the shift k -/
  k : Nat
  /-- in ms -/
  silenceLimit : Nat
  recoveryCount : Nat
  /-- NONE is `none` -/
  blindClass : Option ClassId
deriving DecidableEq, Repr

/-- A node record (R71, R84). -/
structure NodeRecord where
  config : NodeConfig
  status : NodeStatus
  lastSequence : Option Byte
  /-- the model's own field (log 33): the last sequence that a silence took away, with the time of that expiry -/
  lapsed : Option (Nat × Byte)
  progress : Nat
  silenceExpiry : Option Nat
  gapCount : Nat
  /-- the vibration level V, in mg -/
  v : Nat
  lastM : Option Nat
  lastD : Option Nat
  lastT : Option Int
deriving DecidableEq, Repr

/-- A motion rule with its four persistence counters (R98, R100). -/
structure MotionRule where
  inUse : Bool
  nodes : Set4
  metric : Metric
  threshold : Int
  persistence : Nat
  cls : ClassId
  counters : Vector Nat 4
deriving DecidableEq, Repr

/-- A class entry: four configuration and four state fields (R103). -/
structure ClassRecord where
  zones : Set4
  unload : Bool
  freeze : Bool
  /-- in steps of 10 ms -/
  holdTime : Nat
  active : Bool
  expiry : Option Nat
  holders : Set4
  fireCount : Nat
deriving DecidableEq, Repr

/-- The two standings of a zone (R113). -/
structure ZoneStanding where
  covered : Bool
  frozen : Bool
deriving DecidableEq, Repr

/-! ### Group table -/

/-- A group record in use (R140). -/
structure GroupRecord where
  destination : GroupDest
  tag : Byte
  kind : Fin 16
  action : Action
  priority : Fin 8
  waitLimit : Byte
  fanOut : Nat
  /-- in ascending slot number -/
  remaining : List SlotId
  doneCount : Nat
  /-- in the order the outcomes arrived -/
  results : List (SlotId × AnswerCode)
deriving DecidableEq, Repr

/-! ### Supply monitor, trunk port, management unit -/

/-- The supply monitor's state (R155) with the line it reads. -/
structure SupplyMonitor where
  /-- the level of the supply-source line (R201) -/
  line : Level
  source : Source
  debounceExpiry : Option Nat
  overCeiling : Bool
deriving DecidableEq, Repr

/-- An answer frame (R135). -/
structure AnswerFrame where
  source : Byte
  kind : Byte
  tag : Byte
  code : AnswerCode
  payload : List Byte
deriving DecidableEq, Repr

/-- What the trunk port transmits (R136, R137). -/
inductive TrunkOutput
  | answer (a : AnswerFrame)
  | symbol (f : FlowSymbol)
deriving DecidableEq, Repr

/-- The trunk port's state (R136, R137, R180). -/
structure TrunkPort where
  /-- the egress queue, head first -/
  queue : List AnswerFrame
  /-- the frame at the head is in transmission -/
  transmitting : Bool
  /-- one for each answer owed -/
  reservations : Nat
  /-- HOLD stands -/
  hold : Bool
  /-- flow-control symbols that wait for the transmitter to stand between frames -/
  flowDue : List FlowSymbol
  /-- the tag of a pending RESTART -/
  restartPending : Option Byte
  /-- the model's own field (log 11): what was sent since the power-on reset -/
  transmitted : List TrunkOutput
deriving DecidableEq, Repr

/-- The timing table (R186). -/
structure Timing where
  /-- in steps of 100 ms -/
  selfParkHold : Nat
  /-- in steps of 10 ms -/
  presenceDebounce : Nat
  /-- in steps of 10 ms -/
  plainDeadline : Nat
deriving DecidableEq, Repr

/-- Six yes/no values, one for each event flag (R195). -/
structure EventFlags where
  holdChange : Bool
  slotFault : Bool
  nodeSilent : Bool
  overCeiling : Bool
  selfPark : Bool
  presenceChange : Bool
deriving DecidableEq, Repr

/-- The management unit's state (R186, R190, R195, R197). -/
structure ManagementUnit where
  mode : Mode
  timing : Timing
  flags : EventFlags
  enables : EventFlags
  /-- ATTN is asserted -/
  attn : Bool
deriving DecidableEq, Repr

end Sys2Proof.Machine
end

