-- ==== Sys2Proof/Machine/Defaults.lean ====
section
/-! DEFINITION. Machine/Defaults.lean: the values every table and record takes after a power-on reset and after a
RESTART (11.6 and the rules named there). -/

namespace Sys2Proof.Machine

/-- A presence input reads low while a carrier is seated (R201). -/
def seated (l : Level) : Bool := l == .low

/-- The supply-source line reads high for MAINS and low for BATTERY (R201). -/
def sourceOf : Level → Source
  | .high => .mains
  | .low => .battery

/-- All six flags no (R195). -/
def EventFlags.none : EventFlags := ⟨false, false, false, false, false, false⟩

/-- The draw profile defaults (R54, 11.6). -/
def defaultProfile : DrawProfile := ⟨25, 8, 150, 150, 100, 50⟩

/-- The default profile table. -/
def defaultProfiles : Vector DrawProfile 8 := Vector.replicate 8 defaultProfile

/-- The kind map after either reset: every entry BLOCK (R122). -/
def defaultKindMap : Vector Action 16 := Vector.replicate 16 .block

/-- The timing table's defaults (11.6). -/
def defaultTiming : Timing := ⟨20, 10, 50⟩

/-- The default presence debounce time in ms (R156, R171). -/
def defaultDebounceTime : Nat := 100

/-- A slot's default zone: its number / 6 (R1). -/
def defaultZone (i : SlotId) : ZoneId := ⟨i.val / 6, by omega⟩

/-- The debounce expiry a reset gives: one debounce time from `now` if the input then differs (R155, R171). -/
def resetDebounce (now : Nat) (differs : Bool) : Option Nat :=
  if differs then some (now + defaultDebounceTime) else none

/-- A slot record with nothing in it, for the slot `i` with its input at `input` (R1, power-on column). -/
def powerOnSlot (now : Nat) (i : SlotId) (input : Level) : SlotRecord where
  present := false
  input := input
  debounceExpiry := resetDebounce now (seated input)
  inService := true
  state := .empty
  zone := defaultZone i
  profile := 0
  shedClass := 0
  standing := .stopped
  lastPriority := none
  active := none
  reservation := 0
  drawKept := .running
  powerSwitch := false
  shedMark := false
  selfParkExpiry := none
  faultCause := none
  spinUps := 0
  emergencyUnloads := 0
  selfParks := 0
  lateReports := 0

/-- A lane record after a power-on reset (R50). -/
def powerOnLane : LaneRecord where
  lastTag := 255
  retired := []
  governed := none
  preempting := none
  held := none
  plain := none
  lastPreempted := none
  transmitted := []

/-- The default priority map: p / 2 (R30). -/
def defaultPriorityMap : Vector (Fin 4) 8 := Vector.ofFn fun p => ⟨p.val / 2, by omega⟩

/-- The spin arbiter after either reset, with no reservation (R29, R30, R35). -/
def defaultArbiter : Arbiter where
  queues := Vector.replicate 4 []
  priorityMap := defaultPriorityMap
  groupQueue := 1
  groupByPriority := false
  mainsCeiling := 200
  batteryCeiling := 80
  reservationTotal := 0
  lastGrant := none
  staggerInterval := 50
  staggerExpiry := none

/-- The node configuration defaults (R84). -/
def defaultNodeConfig : NodeConfig := ⟨true, .plusZ, 1000, 3, 20, 8, some 0⟩

/-- A node record after either reset, taken at `now` (R71, R84). -/
def defaultNode (now : Nat) : NodeRecord where
  config := defaultNodeConfig
  status := .recovering
  lastSequence := none
  lapsed := none
  progress := 0
  silenceExpiry := some (now + defaultNodeConfig.silenceLimit)
  gapCount := 0
  v := 0
  lastM := none
  lastD := none
  lastT := none

/-- A motion rule with its counters at 0. -/
def freshRule (inUse : Bool) (nodes : Set4) (metric : Metric) (threshold : Int) (persistence : Nat)
    (cls : ClassId) : MotionRule := ⟨inUse, nodes, metric, threshold, persistence, cls, Vector.replicate 4 0⟩

/-- The rule table after either reset (R98). -/
def defaultRules : Vector MotionRule 16 := Vector.ofFn fun r =>
  if r = 0 then freshRule true Set4.all .shock 2500 1 0
  else if r = 1 then freshRule true Set4.all .fall 300 3 0
  else if r = 2 then freshRule true Set4.all .tilt 181 10 1
  else freshRule false Set4.none .shock 0 1 0

/-- The class table after either reset (R103): every node is a blind holder of class 0, which is active. -/
def defaultClasses : Vector ClassRecord 8 := Vector.ofFn fun c =>
  if c = 0 then ⟨Set4.all, true, true, 300, true, none, Set4.all, 0⟩
  else if c = 1 then ⟨Set4.all, true, true, 1000, false, none, Set4.none, 0⟩
  else ⟨Set4.none, false, false, 100, false, none, Set4.none, 0⟩

/-- The standings class 0 gives from a reset on (R103, R113). -/
def defaultZones : Vector ZoneStanding 4 := Vector.replicate 4 ⟨true, true⟩

/-- The supply monitor after a power-on reset with the line at `line` (R155). -/
def powerOnSupply (now : Nat) (line : Level) : SupplyMonitor where
  line := line
  source := .battery
  debounceExpiry := resetDebounce now (sourceOf line != .battery)
  overCeiling := false

/-- The trunk port after a power-on reset: out of HOLD, GO to be sent once before the first answer (R136, R137). -/
def powerOnTrunk : TrunkPort where
  queue := []
  transmitting := false
  reservations := 0
  hold := false
  flowDue := [.go]
  restartPending := none
  transmitted := []

/-- The management unit after either reset (R186, R190, R195, R197). -/
def defaultManagement : ManagementUnit := ⟨.config, defaultTiming, .none, .none, false⟩

end Sys2Proof.Machine
end

