-- ==== Sys2Proof/Machine/State.lean ====
section
/-! DEFINITION. Machine/State.lean: the whole state of the gateway, what can stop a step, and the state after a
power-on reset. -/

namespace Sys2Proof.Machine

/-- The gateway's state, block by block (scope section 3), with the time base, the pins (in the slot records and
the supply monitor) and the queue of waiting commands. -/
structure State where
  /-- the 1 ms time base (log 1) -/
  now : Nat
  /-- trunk port -/
  trunk : TrunkPort
  /-- request classifier: the kind map -/
  kindMap : Vector Action 16
  /-- slot controller: the slot table -/
  slots : Vector SlotRecord 24
  /-- slot controller: the draw profiles -/
  profiles : Vector DrawProfile 8
  /-- lane interface -/
  lanes : Vector LaneRecord 24
  /-- spin arbiter -/
  arbiter : Arbiter
  /-- motion front end: the node table -/
  nodes : Vector NodeRecord 4
  /-- hold unit: the rule table and the persistence counters -/
  rules : Vector MotionRule 16
  /-- hold unit: the class table -/
  classes : Vector ClassRecord 8
  /-- hold unit: the standings of the zones -/
  zones : Vector ZoneStanding 4
  /-- group table; a free record is `none` -/
  groups : Vector (Option GroupRecord) 4
  /-- supply monitor -/
  supply : SupplyMonitor
  /-- management unit -/
  mgmt : ManagementUnit
  /-- the model's own: the commands that wait, the next one first -/
  pending : List Instr
deriving DecidableEq, Repr

/-- The gateway has no machine fault: every command it can receive has an effect, is answered, or is discarded by a
rule. Nothing raises a fault, so the type has no constructor. -/
inductive Fault
deriving DecidableEq, Repr

/-- Why a command has no meaning. -/
inductive Refusal
  /-- raised by `exec` alone, for a row that has no meaning yet; safe -/
  | notModelled (mnemonic : String)
deriving DecidableEq, Repr

/-- The state after a power-on reset taken with the presence inputs at `inputs` and the supply-source line at `line`
(R179 and the power-on columns of the rules it rests on). The time base starts from 0 (log 1). -/
def State.powerOn (inputs : Vector Level 24) (line : Level) : State where
  now := 0
  trunk := powerOnTrunk
  kindMap := defaultKindMap
  slots := Vector.ofFn fun i => powerOnSlot 0 i inputs[i]
  profiles := defaultProfiles
  lanes := Vector.replicate 24 powerOnLane
  arbiter := defaultArbiter
  nodes := Vector.replicate 4 (defaultNode 0)
  rules := defaultRules
  classes := defaultClasses
  zones := defaultZones
  groups := Vector.replicate 4 none
  supply := powerOnSupply 0 line
  mgmt := defaultManagement
  pending := []

/-- The machine after reset: a power-on reset with no carrier seated and the line at BATTERY (DESIGN CHOICE, unsafe,
log 5). -/
def State.reset : State := State.powerOn (Vector.replicate 24 .high) .low

end Sys2Proof.Machine
end

