-- ==== Sys2Proof/Machine/Ops.lean ====
section
/-! DEFINITION. Machine/Ops.lean: the accessors every block goes through: one home for each read and each write of a
record, and the arithmetic of counters, clamps and expiries. -/

namespace Sys2Proof.Machine

/-! ### Counters, clamps, expiries -/

/-- A saturating count (scope 5.2, R8). -/
def countUp (n : Nat) : Nat := min (n + 1) Config.counterMax

/-- A value outside the range is replaced by the nearer end (scope 5.2). -/
def clampNat (lo hi n : Nat) : Nat := max lo (min hi n)

/-- A value outside the range is replaced by the nearer end (scope 5.2). -/
def clampInt (lo hi n : Int) : Int := max lo (min hi n)

/-- The time base has reached a present expiry. -/
def reached (now : Nat) (expiry : Option Nat) : Bool := expiry.any (· ≤ now)

/-- The later of a present expiry and `t`; an absent expiry counts as earlier than any time (R105, R111). -/
def laterExpiry (expiry : Option Nat) (t : Nat) : Nat := max (expiry.getD 0) t

/-- The time remaining to a present expiry, in ms (R193). -/
def remaining (now : Nat) (expiry : Option Nat) : Option Nat := expiry.map (· - now)

/-! ### Records -/

/-- The slot record of slot `i`. -/
def State.slot (s : State) (i : SlotId) : SlotRecord := s.slots[i]

/-- Write a slot record through `f`. -/
def State.modifySlot (s : State) (i : SlotId) (f : SlotRecord → SlotRecord) : State :=
  { s with slots := s.slots.set i.val (f (s.slot i)) i.isLt }

/-- The lane record of lane `i`. -/
def State.lane (s : State) (i : SlotId) : LaneRecord := s.lanes[i]

/-- Write a lane record through `f`. -/
def State.modifyLane (s : State) (i : SlotId) (f : LaneRecord → LaneRecord) : State :=
  { s with lanes := s.lanes.set i.val (f (s.lane i)) i.isLt }

/-- The node record of node `n`. -/
def State.node (s : State) (n : NodeId) : NodeRecord := s.nodes[n]

/-- Write a node record through `f`. -/
def State.modifyNode (s : State) (n : NodeId) (f : NodeRecord → NodeRecord) : State :=
  { s with nodes := s.nodes.set n.val (f (s.node n)) n.isLt }

/-- The class record of class `c`. -/
def State.cls (s : State) (c : ClassId) : ClassRecord := s.classes[c]

/-- Write a class record through `f`. -/
def State.modifyClass (s : State) (c : ClassId) (f : ClassRecord → ClassRecord) : State :=
  { s with classes := s.classes.set c.val (f (s.cls c)) c.isLt }

/-- The motion rule `r`. -/
def State.rule (s : State) (r : Fin 16) : MotionRule := s.rules[r]

/-- Write a motion rule through `f`. -/
def State.modifyRule (s : State) (r : Fin 16) (f : MotionRule → MotionRule) : State :=
  { s with rules := s.rules.set r.val (f (s.rule r)) r.isLt }

/-- The group record `g`. -/
def State.group (s : State) (g : GroupId) : Option GroupRecord := s.groups[g]

/-- Write a group record. -/
def State.setGroup (s : State) (g : GroupId) (r : Option GroupRecord) : State :=
  { s with groups := s.groups.set g.val r g.isLt }

/-- The draw profile slot `i` is configured with (R2). -/
def State.profileOf (s : State) (i : SlotId) : DrawProfile := s.profiles[(s.slot i).profile]

/-- The two standings of slot `i`'s zone (R113). -/
def State.standingOf (s : State) (i : SlotId) : ZoneStanding := s.zones[(s.slot i).zone]

/-- A slot is covered when its zone is covered (R113). -/
def State.covered (s : State) (i : SlotId) : Bool := (s.standingOf i).covered

/-- A slot is frozen when its zone is frozen (R113). -/
def State.frozen (s : State) (i : SlotId) : Bool := (s.standingOf i).frozen

/-- The slots in ascending slot number. -/
def allSlots : List SlotId := List.finRange 24

/-- Apply `f` for each slot of the list, in order. -/
def State.forSlots (s : State) (is : List SlotId) (f : SlotId → State → State) : State :=
  is.foldl (fun t i => f i t) s

end Sys2Proof.Machine
end

