-- ==== Sys2Proof/Machine/Flags.lean ====
section
/-! DEFINITION. Machine/Flags.lean: the six event flags, their enables and ATTN (R195, R196, R197). -/

namespace Sys2Proof.Machine

/-- The value of one flag. -/
def EventFlags.get (e : EventFlags) : Flag → Bool
  | .holdChange => e.holdChange
  | .slotFault => e.slotFault
  | .nodeSilent => e.nodeSilent
  | .overCeiling => e.overCeiling
  | .selfPark => e.selfPark
  | .presenceChange => e.presenceChange

/-- Make one flag yes. -/
def EventFlags.raise (e : EventFlags) : Flag → EventFlags
  | .holdChange => { e with holdChange := true }
  | .slotFault => { e with slotFault := true }
  | .nodeSilent => { e with nodeSilent := true }
  | .overCeiling => { e with overCeiling := true }
  | .selfPark => { e with selfPark := true }
  | .presenceChange => { e with presenceChange := true }

/-- A flag set byte: HOLD_CHANGE in bit 0 up to PRESENCE_CHANGE in bit 5 (R200). -/
def EventFlags.ofByte (b : Byte) : EventFlags :=
  ⟨b.getLsbD 0, b.getLsbD 1, b.getLsbD 2, b.getLsbD 3, b.getLsbD 4, b.getLsbD 5⟩

/-- One bit of a set byte. -/
def bitOf (b : Bool) (n : Nat) : Nat := if b then 2 ^ n else 0

/-- The flag set byte of six values (R200). -/
def EventFlags.toByte (e : EventFlags) : Byte :=
  byte (bitOf e.holdChange 0 + bitOf e.slotFault 1 + bitOf e.nodeSilent 2 + bitOf e.overCeiling 3
    + bitOf e.selfPark 4 + bitOf e.presenceChange 5)

/-- Each flag named is made no, each other left as it is (R196). -/
def EventFlags.without (e named : EventFlags) : EventFlags :=
  ⟨e.holdChange && !named.holdChange, e.slotFault && !named.slotFault, e.nodeSilent && !named.nodeSilent,
    e.overCeiling && !named.overCeiling, e.selfPark && !named.selfPark, e.presenceChange && !named.presenceChange⟩

/-- At least one flag is set whose enable is set (R197). -/
def attention (flags enables : EventFlags) : Bool :=
  (flags.holdChange && enables.holdChange) || (flags.slotFault && enables.slotFault)
    || (flags.nodeSilent && enables.nodeSilent) || (flags.overCeiling && enables.overCeiling)
    || (flags.selfPark && enables.selfPark) || (flags.presenceChange && enables.presenceChange)

/-- Write flags and enables; ATTN follows in the same event (R197). -/
def State.setEvents (s : State) (flags enables : EventFlags) : State :=
  { s with mgmt := { s.mgmt with flags := flags, enables := enables, attn := attention flags enables } }

/-- An owning block reports an event: its flag is set, whatever its enable and whatever the mode (R195). -/
def State.setFlag (s : State) (f : Flag) : State := s.setEvents (s.mgmt.flags.raise f) s.mgmt.enables

/-- What the gateway drives on the open-drain ATTN line: low while asserted, nothing (released) otherwise (R201). -/
def State.attnDriven (s : State) : Option Level := if s.mgmt.attn then some .low else none

/-- The level of a slot's power-switch output: high for on (R201). -/
def State.switchLevel (s : State) (i : SlotId) : Level := if (s.slot i).powerSwitch then .high else .low

end Sys2Proof.Machine
end

