-- ==== Sys2Proof/Machine/Lane.lean ====
section
/-! DEFINITION. Machine/Lane.lean: lane tags, the issue of ops, retirement and abandonment, and the lane's side of each
settlement (chapter 03). Which way a settlement moves the slot is Machine/Slot.lean's. -/

namespace Sys2Proof.Machine

/-! ### Tags (R51, R52) -/

/-- The tags of the lane's outstanding ops. -/
def LaneRecord.outstanding (r : LaneRecord) : List Byte :=
  (r.governed.map (·.tag)).toList ++ (r.preempting.map (·.tag)).toList ++ (r.plain.map (·.tag)).toList

/-- From the tag `t`, the first value that is neither retired nor outstanding, at most `fuel` values on (R51). -/
def LaneRecord.freeTagFrom (r : LaneRecord) : Nat → Byte → Byte
  | 0, t => t
  | fuel + 1, t => if t ∈ r.retired || t ∈ r.outstanding then r.freeTagFrom fuel (t + 1) else t

/-- A fresh lane tag: one more than the last issued tag, wrapping from 255 to 0, over every taken value (R51). There
are 256 tags, so the search cannot miss a free one. -/
def LaneRecord.freshTag (r : LaneRecord) : Byte := r.freeTagFrom 256 (r.lastTag + 1)

/-- A tag joins the tail of the retired tags; where 8 are held the oldest leaves first (R52). -/
def retireTag (retired : List Byte) (t : Byte) : List Byte :=
  (if Config.retiredMax ≤ retired.length then retired.drop (retired.length + 1 - Config.retiredMax) else retired) ++ [t]

/-- Several tags are retired in the order given. -/
def LaneRecord.retireAll (r : LaneRecord) (tags : List Byte) : LaneRecord :=
  { r with retired := tags.foldl retireTag r.retired }

/-- When an op was issued: its issue time, then how far its tag lies behind the last issued tag (log 18). The later of
two ops has the later time or, in the same millisecond, the smaller distance. -/
def LaneRecord.issuedBefore (r : LaneRecord) (a b : Nat × Byte) : Bool :=
  a.1 < b.1 || (a.1 == b.1 && (r.lastTag - b.2).toNat < (r.lastTag - a.2).toNat)

/-- Insert an op into a list in issue order. -/
def LaneRecord.insertIssued (r : LaneRecord) (a : Nat × Byte) : List (Nat × Byte) → List (Nat × Byte)
  | [] => [a]
  | b :: bs => if r.issuedBefore a b then a :: b :: bs else b :: r.insertIssued a bs

/-- The tags of the governed side in issue order: the first op of a pair was issued before the second. -/
def LaneRecord.governedTags (r : LaneRecord) : List Byte :=
  (r.governed.map (·.tag)).toList ++ (r.preempting.map (·.tag)).toList

/-- The tags of all outstanding ops in issue order (R52). -/
def LaneRecord.tagsInIssueOrder (r : LaneRecord) : List Byte :=
  let governed := (r.governed.map fun g => (g.issued, g.tag)).toList ++ (r.preempting.map fun p => (p.issued, p.tag)).toList
  ((r.plain.map fun p => (p.issued, p.tag)).toList.foldl (fun l a => r.insertIssued a l) governed).map (·.2)

/-! ### Issue (R53, R54, R62) -/

/-- The duration of a governed op's deadline, in ms (R54). -/
def opDuration (p : DrawProfile) : GovernedOp → Nat
  | .spin => p.spinUpDeadline * 100
  | .stop => p.spinDownDeadline * 100
  | .load => p.loadDeadline * 10
  | .unload => p.unloadDeadline * 10
  | .query => Config.queryDuration

/-- A fresh tag goes into a command, which leaves on the lane, and becomes the last issued tag (R49, R51). -/
def LaneRecord.send (r : LaneRecord) (c : Byte → LaneCommand) : LaneRecord :=
  { r with lastTag := r.freshTag, transmitted := r.transmitted ++ [c r.freshTag] }

/-- Issue into the governed record with role SOLE (R53). -/
def LaneRecord.issueGoverned (r : LaneRecord) (op : GovernedOp) (now duration : Nat) : LaneRecord :=
  { r.send (.governed op) with governed := some ⟨op, r.freshTag, now, now + duration, .sole⟩ }

/-- Issue into the preempting record; the governed role becomes FIRST (R53). -/
def LaneRecord.issuePreempting (r : LaneRecord) (g : GovernedRecord) (op : GovernedOp) (now duration : Nat) :
    LaneRecord :=
  { r.send (.governed op) with
    governed := some { g with role := .first }
    preempting := some ⟨op, r.freshTag, now, now + duration⟩ }

/-- The two preempting pairs (R53). -/
def preempts : GovernedOp → GovernedOp → Bool
  | .load, .unload => true
  | .spin, .stop => true
  | _, _ => false

/-- Place a governed op by the state of the lane record: R53's table. In any other position, in which the slot
controller asks for none, nothing is placed (log 20). -/
def LaneRecord.ask (r : LaneRecord) (op : GovernedOp) (now duration : Nat) : LaneRecord :=
  match r.governed with
  | none => r.issueGoverned op now duration
  | some g =>
    match g.role with
    | .sole => if r.preempting.isNone && preempts g.op op then r.issuePreempting g op now duration else r
    | .first => r
    | .residual =>
      match r.held with
      | none => { r with held := some op }
      | some h => if preempts h op then { r with held := some op } else r

/-- The slot controller asks the lane interface to send a governed op (section 3.4). -/
def State.ask (s : State) (i : SlotId) (op : GovernedOp) : State :=
  s.modifyLane i fun r => r.ask op s.now (opDuration (s.profileOf i) op)

/-- Issue a PLAIN command carrying the trunk frame's kind and payload (R62). -/
def LaneRecord.issuePlain (r : LaneRecord) (trunkTag : Byte) (kind : Fin 16) (payload : List Byte)
    (now duration : Nat) : LaneRecord :=
  { r.send (fun t => .plain t kind payload) with
    plain := some ⟨r.freshTag, trunkTag, kind, now, now + duration⟩ }

/-! ### Settlement and abandonment, the lane's side (R55, R56, R58, R59, R61) -/

/-- Which outstanding op a lane tag belongs to (R56). Tags of outstanding ops are distinct. -/
inductive Matched
  | governed (g : GovernedRecord)
  | preempting (p : PreemptingRecord)
  | plain (p : PlainRecord)
  | nothing
deriving DecidableEq, Repr

/-- The plain record, if it has this tag. -/
def LaneRecord.findPlain (r : LaneRecord) (t : Byte) : Matched :=
  match r.plain with
  | some p => if p.tag = t then .plain p else .nothing
  | none => .nothing

/-- The preempting record, if it has this tag, else the plain record. -/
def LaneRecord.findPreempting (r : LaneRecord) (t : Byte) : Matched :=
  match r.preempting with
  | some p => if p.tag = t then .preempting p else r.findPlain t
  | none => r.findPlain t

/-- Match a lane tag against the governed, preempting and plain records (R56). -/
def LaneRecord.find (r : LaneRecord) (t : Byte) : Matched :=
  match r.governed with
  | some g => if g.tag = t then .governed g else r.findPreempting t
  | none => r.findPreempting t

/-- A SOLE op is settled: its record becomes absent (R56). -/
def LaneRecord.settleSole (r : LaneRecord) : LaneRecord := { r with governed := none }

/-- A preempting op is settled: its record becomes absent; a FIRST governed record becomes RESIDUAL (R55, R56). -/
def LaneRecord.settlePreempting (r : LaneRecord) : LaneRecord :=
  { r with
    preempting := none
    governed := r.governed.map fun g => if g.role = .first then { g with role := .residual } else g }

/-- A FIRST op is settled: its outcome is recorded and the preempting op becomes SOLE with its tag, issue time and
deadline (R56). -/
def LaneRecord.settleFirst (r : LaneRecord) (g : GovernedRecord) (o : OpOutcome) : LaneRecord :=
  { r with
    lastPreempted := some ⟨g.op, g.tag, o⟩
    governed := r.preempting.map fun p => ⟨p.op, p.tag, p.issued, p.deadline, .sole⟩
    preempting := none }

/-- A RESIDUAL op is settled: its outcome is recorded, the governed record becomes absent and a held command is
issued in the same event (R55). -/
def LaneRecord.settleResidual (r : LaneRecord) (g : GovernedRecord) (o : OpOutcome) (now : Nat)
    (duration : GovernedOp → Nat) : LaneRecord :=
  let t := { r with lastPreempted := some ⟨g.op, g.tag, o⟩, governed := none }
  match t.held with
  | none => t
  | some op => { t with held := none }.issueGoverned op now (duration op)

/-- Entry to FAULT abandons the governed record, the preempting record and the held command (R61). -/
def LaneRecord.abandonGoverned (r : LaneRecord) : LaneRecord :=
  { r.retireAll r.governedTags with governed := none, preempting := none, held := none }

/-- Presence loss and RESTART abandon all four (R61). -/
def LaneRecord.abandonAll (r : LaneRecord) : LaneRecord :=
  { r.retireAll r.tagsInIssueOrder with governed := none, preempting := none, held := none, plain := none }

/-- The op code of a governed op (R199). -/
def GovernedOp.code : GovernedOp → Nat
  | .spin => 0
  | .stop => 1
  | .load => 2
  | .unload => 3
  | .query => 4

/-- The op code of PLAIN (R199). -/
def plainOpCode : Nat := 5

/-- The body of a COMMAND frame (R199). -/
def LaneCommand.bodyBytes : LaneCommand → List Byte
  | .governed op tag => [4, 1, byte op.code, tag]
  | .plain tag kind payload => byte (5 + payload.length) :: 1 :: byte plainOpCode :: tag :: byte kind.val :: payload

/-- The wire bytes of a COMMAND frame (R198, R199). -/
def LaneCommand.bytes (c : LaneCommand) : List Byte := wireBytes c.bodyBytes

end Sys2Proof.Machine
end

