-- ==== Sys2Proof/Machine/Trunk.lean ====
section
/-! DEFINITION. Machine/Trunk.lean: the trunk port's egress queue, its reservations and its flow control
(R135, R136, R137), and the wire bytes of an answer (R198). -/

namespace Sys2Proof.Machine

/-- The code of an outcome in an answer frame (R198). -/
def AnswerCode.code : AnswerCode → Nat
  | .done => 0
  | .failed => 1
  | .timeout => 2
  | .absent => 3
  | .blocked => 4
  | .held => 5
  | .faulted => 6
  | .superseded => 7
  | .withdrawn => 8
  | .shed => 9
  | .shedding => 10
  | .gone => 11
  | .waitExpired => 12
  | .groupFull => 13
  | .configMode => 14
  | .laneBusy => 15
  | .malformed => 16
  | .badIndex => 17
  | .locked => 18
  | .inUse => 19
  | .classActive => 20

/-- The body of an answer frame: its length field is 5 plus the payload length (R198). -/
def AnswerFrame.bodyBytes (a : AnswerFrame) : List Byte :=
  byte (5 + a.payload.length) :: a.source :: a.kind :: a.tag :: byte a.code.code :: a.payload

/-- What goes over the wire: an answer is framed, a flow-control symbol is one unescaped byte (R198). -/
def TrunkOutput.bytes : TrunkOutput → List Byte
  | .answer a => wireBytes a.bodyBytes
  | .symbol .hold => [holdSymbol]
  | .symbol .go => [goSymbol]

/-- Free entries: 64 less the frames queued and less the reservations not yet spent (R137). -/
def State.freeEntries (s : State) : Nat := Config.egressCapacity - s.trunk.queue.length - s.trunk.reservations

/-- The flow-control symbols that wait are sent, between frames (R137). -/
def State.sendSymbols (s : State) : State :=
  { s with trunk := { s.trunk with flowDue := [], transmitted := s.trunk.transmitted ++ s.trunk.flowDue.map .symbol } }

/-- A symbol is to be sent: at once when the transmitter is idle, else after the frame in transmission (R137). -/
def State.dueSymbol (s : State) (f : FlowSymbol) : State :=
  let t := { s with trunk := { s.trunk with flowDue := s.trunk.flowDue ++ [f] } }
  if s.trunk.transmitting then t else t.sendSymbols

/-- HOLD is entered when the free entries fall below 8 and left when they return to 8 or more (R137). -/
def State.refreshFlow (s : State) : State :=
  if s.freeEntries < Config.holdMargin then
    if s.trunk.hold then s else ({ s with trunk := { s.trunk with hold := true } }).dueSymbol .hold
  else
    if s.trunk.hold then ({ s with trunk := { s.trunk with hold := false } }).dueSymbol .go else s

/-- The transmitter begins the frame at the head if it stands between frames; a pending RESTART lets it begin none
(R136, R180). It does so when the frame before has been sent, and else when the time base next advances: a frame placed
while the transmitter is idle is not begun in the instant of its placing (R182; DESIGN CHOICE, log 21). -/
def State.startTransmission (s : State) : State :=
  if s.trunk.transmitting || s.trunk.queue.isEmpty || s.trunk.restartPending.isSome then s
  else
    let t := s.sendSymbols
    { t with trunk := { t.trunk with transmitting := true } }

/-- An answer takes the tail of the egress queue (R135). It uses an unreserved entry (R137). -/
def State.answer (s : State) (a : AnswerFrame) : State :=
  ({ s with trunk := { s.trunk with queue := s.trunk.queue ++ [a] } }).refreshFlow

/-- An answer that was owed spends its reservation (R137). -/
def State.answerOwed (s : State) (a : AnswerFrame) : State :=
  ({ s with trunk := { s.trunk with reservations := s.trunk.reservations - 1 } }).answer a

/-- A reservation for an answer owed (R137). -/
def State.takeReservation (s : State) : State :=
  ({ s with trunk := { s.trunk with reservations := s.trunk.reservations + 1 } }).refreshFlow

/-- The head frame has been sent whole: it leaves the queue (R136). -/
def State.headSent (s : State) : State :=
  match s.trunk.queue with
  | [] => s
  | a :: rest =>
    { s with trunk := { s.trunk with
        queue := rest, transmitting := false, transmitted := s.trunk.transmitted ++ [.answer a] } }

/-- A frame taken from the link while no free entry remains is discarded without answer and without change (R137). -/
def State.withRoom (s : State) (take : State → State) : State := if s.freeEntries = 0 then s else take s

end Sys2Proof.Machine
end

