-- ==== Sys2Proof/Machine/Outcomes.lean ====
section
/-! DEFINITION. Machine/Outcomes.lean: the one outcome every request receives: on the trunk link for a CONTROLLER
request, in its group record for a GROUP request (R4, R148, R150). -/

namespace Sys2Proof.Machine

/-- The source value of a group answer: 24 to 27 for zone 0 to 3, 28 for ALL (R142, R150). -/
def groupSource : GroupDest → Byte
  | .zone z => byte (24 + z.val)
  | .all => byte Config.allAddress

/-- The payload of a group answer (R150, R198). -/
def GroupRecord.payload (r : GroupRecord) : List Byte :=
  byte r.fanOut :: byte r.doneCount :: byte r.results.length
    :: r.results.flatMap fun e => [byte e.1.val, byte e.2.code]

/-- The group's single answer, whose outcome is DONE whatever the member outcomes were (R150). -/
def GroupRecord.answer (r : GroupRecord) : AnswerFrame :=
  ⟨groupSource r.destination, byte r.kind.val, r.tag, .done, r.payload⟩

/-- A record whose remaining set is empty is answered and freed (R150). -/
def State.closeIfEmpty (s : State) (g : GroupId) : State :=
  match s.group g with
  | some r => if r.remaining = [] then (s.answerOwed r.answer).setGroup g none else s
  | none => s

/-- The record after a member's outcome: the slot leaves the remaining set; a DONE is counted, any other outcome
joins the tail of the results (R148). -/
def GroupRecord.withOutcome (r : GroupRecord) (i : SlotId) (c : AnswerCode) : GroupRecord :=
  if c = .done then { r with remaining := r.remaining.erase i, doneCount := r.doneCount + 1 }
  else { r with remaining := r.remaining.erase i, results := r.results ++ [(i, c)] }

/-- A member's outcome reaches its group record; the outcome that empties the record answers it (R148, R150). -/
def State.recordOutcome (s : State) (g : GroupId) (i : SlotId) (c : AnswerCode) : State :=
  match s.group g with
  | some r => if i ∈ r.remaining then (s.setGroup g (some (r.withOutcome i c))).closeIfEmpty g else s
  | none => s

/-- The answer to a CONTROLLER request: slot number as source, its tag and kind, an empty payload (R128, R135). -/
def slotAnswer (i : SlotId) (a : ActiveRequest) (c : AnswerCode) : AnswerFrame :=
  ⟨byte i.val, byte a.kind.val, a.tag, c, []⟩

/-- The active request of slot `i`, if any, receives the outcome `c` and is removed with its wait deadline (R4). -/
def State.giveOutcome (s : State) (i : SlotId) (c : AnswerCode) : State :=
  match (s.slot i).active with
  | none => s
  | some a =>
    let t := s.modifySlot i fun r => { r with active := none }
    match a.origin with
    | .controller => t.answerOwed (slotAnswer i a c)
    | .group g => t.recordOutcome g i c

end Sys2Proof.Machine
end

