-- ==== Sys2Proof/Machine/Slot.lean ====
section
/-! DEFINITION. Machine/Slot.lean: the slot controller: reservations and switches, effective targets, the spin queues'
entries, the transitions of chapter 01 and the entry to FAULT. -/

namespace Sys2Proof.Machine

/-! ### Targets (R11, R126) -/

/-- The place of a target in STOPPED < PARKED < LOADED. -/
def Target.rank : Target → Nat
  | .stopped => 0
  | .parked => 1
  | .loaded => 2

/-- The lower of two targets. -/
def Target.lower (a b : Target) : Target := if a.rank ≤ b.rank then a else b
/-- The higher of two targets. -/
def Target.higher (a b : Target) : Target := if a.rank ≤ b.rank then b else a

/-- A cap that takes part only while its condition holds (R11). -/
def cap (holds : Bool) (t : Target) : Target := if holds then t else .loaded

/-- The effective target of a slot (R11). -/
def State.effectiveTarget (s : State) (i : SlotId) : Target :=
  let r := s.slot i
  r.standing.lower ((cap (s.covered i) .parked).lower ((cap r.selfParkExpiry.isSome .parked).lower
    ((cap (!r.inService) .stopped).lower (cap r.shedMark .stopped))))

/-! ### Switch and reservation (R10, R37) -/

/-- The states in which the power switch is on (R10, R24). -/
def SlotState.powered : SlotState → Bool
  | .spinningUp => true
  | .parked => true
  | .loading => true
  | .loaded => true
  | .unloading => true
  | .spinningDown => true
  | .probing => true
  | .empty => false
  | .stopped => false
  | .queued => false
  | .fault => false

/-- The reservation a state gives (R10). -/
def reservationIn (p : DrawProfile) (kept : DrawKept) : SlotState → Nat
  | .spinningUp => p.spinUpDraw
  | .parked => p.runningDraw
  | .loading => p.runningDraw
  | .loaded => p.runningDraw
  | .unloading => p.runningDraw
  | .probing => p.runningDraw
  | .spinningDown => match kept with
    | .spinUp => p.spinUpDraw
    | .running => p.runningDraw
  | .empty => 0
  | .stopped => 0
  | .queued => 0
  | .fault => 0

/-- A change of a slot's reservation, passed to the arbiter, which adds the difference to the total (R10, R37). -/
def State.setReservation (s : State) (i : SlotId) (v : Nat) : State :=
  let t := s.modifySlot i fun r => { r with reservation := v }
  { t with arbiter := { t.arbiter with
      reservationTotal := t.arbiter.reservationTotal - (s.slot i).reservation + v } }

/-- The slot takes a state: its switch and its reservation follow in the same event (R10). -/
def State.enterState (s : State) (i : SlotId) (st : SlotState) : State :=
  (s.modifySlot i fun r => { r with state := st, powerSwitch := st.powered }).setReservation i
    (reservationIn (s.profileOf i) (s.slot i).drawKept st)

/-- The reservation of a powered slot is derived again from the present draws (R10, for a draw-profile write). -/
def State.rederive (s : State) (i : SlotId) : State :=
  s.setReservation i (reservationIn (s.profileOf i) (s.slot i).drawKept (s.slot i).state)

/-! ### Queue entries (R29 to R33) -/

/-- The queue and the priority used of a slot enqueued now (R31). -/
def State.queueChoice (s : State) (i : SlotId) : Fin 4 × Option (Fin 8) :=
  let byLast : Fin 4 × Option (Fin 8) := match (s.slot i).lastPriority with
    | some p => (s.arbiter.priorityMap[p], some p)
    | none => (0, none)
  match (s.slot i).active with
  | some a =>
    if a.target = .stopped then byLast
    else match a.origin with
      | .controller => (s.arbiter.priorityMap[a.priority], some a.priority)
      | .group _ =>
        if s.arbiter.groupByPriority then (s.arbiter.priorityMap[a.priority], some a.priority)
        else (s.arbiter.groupQueue, some a.priority)
  | none => byLast

/-- The slot takes the tail of its chosen queue (R32). -/
def State.enqueue (s : State) (i : SlotId) : State :=
  let q := (s.queueChoice i).1
  { s with arbiter := { s.arbiter with
      queues := s.arbiter.queues.set q.val (s.arbiter.queues[q] ++ [⟨i, (s.queueChoice i).2⟩]) q.isLt } }

/-- The slot's entry leaves its queue; the entries behind it move up and keep their order (R33). -/
def State.dequeue (s : State) (i : SlotId) : State :=
  { s with arbiter := { s.arbiter with
      queues := Vector.ofFn fun q => s.arbiter.queues[q].filter fun e => e.slot ≠ i } }

/-! ### The rule of the slot's state (R13 to R20) -/

/-- The slot begins to spin down with the given draw kept and is sent STOP (R10, R14, R17). -/
def State.spinDown (s : State) (i : SlotId) (kept : DrawKept) : State :=
  (((s.modifySlot i fun r => { r with drawKept := kept }).enterState i .spinningDown).ask i .stop)

/-- The slot leaves LOADED or LOADING and is sent UNLOAD; a fall caused by a class onset is counted (R15, R18). -/
def State.unloadHeads (s : State) (i : SlotId) (onset : Bool) : State :=
  ((s.modifySlot i fun r =>
      { r with emergencyUnloads := if onset then countUp r.emergencyUnloads else r.emergencyUnloads }).enterState i
    .unloading).ask i .unload

/-- Apply the rule of the slot's current state to its effective target (R12). `onset` says that the event is the report
of coverage begun at a class onset. -/
def State.proceed (s : State) (i : SlotId) (onset : Bool) : State :=
  match (s.slot i).state with
  | .stopped =>
    if s.effectiveTarget i ≠ .stopped ∧ s.mgmt.mode = .run then (s.enterState i .queued).enqueue i else s
  | .queued => if s.effectiveTarget i = .stopped then (s.dequeue i).enterState i .stopped else s
  | .spinningUp => if s.effectiveTarget i = .stopped then s.spinDown i .spinUp else s
  | .parked =>
    match s.effectiveTarget i with
    | .loaded => (s.enterState i .loading).ask i .load
    | .stopped => s.spinDown i .running
    | .parked => s
  | .loading => if s.effectiveTarget i = .loaded then s else s.unloadHeads i onset
  | .loaded => if s.effectiveTarget i = .loaded then s else s.unloadHeads i onset
  | .empty => s
  | .unloading => s
  | .spinningDown => s
  | .probing => s
  | .fault => s

/-! ### Completion of a request and arrival in a state (R28) -/

/-- The target that a rest state is equal to (section 1.2). -/
def SlotState.asTarget : SlotState → Option Target
  | .stopped => some .stopped
  | .parked => some .parked
  | .loaded => some .loaded
  | .empty => none
  | .queued => none
  | .spinningUp => none
  | .loading => none
  | .unloading => none
  | .spinningDown => none
  | .probing => none
  | .fault => none

/-- An active request whose target the slot's state equals is answered DONE and removed (R28). -/
def State.completeIfReached (s : State) (i : SlotId) : State :=
  match (s.slot i).active with
  | some a => if (s.slot i).state.asTarget = some a.target then s.giveOutcome i .done else s
  | none => s

/-- The slot arrives in a state: a request it thereby reaches is answered, and it proceeds by that state's rule. -/
def State.arrive (s : State) (i : SlotId) (st : SlotState) : State :=
  ((s.enterState i st).completeIfReached i).proceed i false

/-! ### FAULT (R26) -/

/-- TIMEOUT for a *_TIMEOUT cause or PROBE_TIMEOUT, FAILED otherwise (R26). -/
def FaultCause.outcome : FaultCause → AnswerCode
  | .spinTimeout => .timeout
  | .loadTimeout => .timeout
  | .unloadTimeout => .timeout
  | .stopTimeout => .timeout
  | .probeTimeout => .timeout
  | .spinFailed _ => .failed
  | .loadFailed _ => .failed
  | .unloadFailed _ => .failed
  | .stopFailed _ => .failed
  | .carrierFault _ => .failed

/-- The event of entry to FAULT (R26). -/
def State.enterFault (s : State) (i : SlotId) (cause : FaultCause) : State :=
  (((((s.enterState i .fault).modifyLane i LaneRecord.abandonGoverned).modifySlot i fun r =>
      { r with faultCause := some cause, shedMark := false }).setFlag .slotFault).giveOutcome i cause.outcome)

/-! ### Governed outcomes (R17 to R20, R23) -/

/-- The carrier state in the first payload byte of a QUERY DONE (R57, R199); an empty payload counts as another. -/
def reportedState : Option Byte → Option (SlotState × Target)
  | some b => match b.toNat with
    | 0 => some (.stopped, .stopped)
    | 1 => some (.parked, .parked)
    | 2 => some (.loaded, .loaded)
    | _ => none
  | none => none

/-- A reported carrier state takes the slot out of PROBING (R23). -/
def State.probeReported (s : State) (i : SlotId) (st : SlotState) (t : Target) : State :=
  (s.modifySlot i fun r => if r.active.isNone then { r with standing := t } else r).arrive i st

/-- STOP DONE: draw kept becomes RUNNING, the shed mark is cleared, and the slot becomes STOPPED (R20). -/
def State.stopDone (s : State) (i : SlotId) : State :=
  (s.modifySlot i fun r => { r with drawKept := .running, shedMark := false }).arrive i .stopped

/-- How a SOLE or preempting op's end acts on the slot: DONE leads to `done`, any other end to FAULT. ABORTED of such
an op is read as FAILED with code 0 (R57). -/
def State.settleOp (s : State) (i : SlotId) (o : OpOutcome) (timeout : FaultCause) (failed : Byte → FaultCause)
    (done : State) : State :=
  match o with
  | .done => done
  | .timeout => s.enterFault i timeout
  | .failed c => s.enterFault i (failed c)
  | .aborted => s.enterFault i (failed 0)

/-- QUERY DONE: the reported state is taken, or a state outside the three enters FAULT (R23). -/
def State.probeDone (s : State) (i : SlotId) (report : Option Byte) : State :=
  match reportedState report with
  | some (st, t) => s.probeReported i st t
  | none => s.enterFault i (.carrierFault 0)

/-- The slot controller takes the outcome of a SOLE or preempting op by the rule of the slot's current state (R56);
an event not named for a state leaves the slot in it (section 1.4). -/
def State.takeOutcome (s : State) (i : SlotId) (op : GovernedOp) (o : OpOutcome) (report : Option Byte) : State :=
  match (s.slot i).state, op with
  | .spinningUp, .spin => s.settleOp i o .spinTimeout .spinFailed (s.arrive i .parked)
  | .loading, .load => s.settleOp i o .loadTimeout .loadFailed (s.arrive i .loaded)
  | .unloading, .unload => s.settleOp i o .unloadTimeout .unloadFailed (s.arrive i .parked)
  | .spinningDown, .stop => s.settleOp i o .stopTimeout .stopFailed (s.stopDone i)
  | .probing, .query => s.settleOp i o .probeTimeout .carrierFault (s.probeDone i report)
  | _, _ => s

end Sys2Proof.Machine
end

