-- ==== Sys2Proof/Machine/Budget.lean ====
section
/-! DEFINITION. Machine/Budget.lean: the spin arbiter's grants, the supply monitor's over-ceiling test and shed selector,
and how they conclude an event (chapters 02 and 09). -/

namespace Sys2Proof.Machine

/-- The ceiling of the source in force (R35). -/
def State.ceilingInForce (s : State) : Nat :=
  match s.supply.source with
  | .mains => s.arbiter.mainsCeiling
  | .battery => s.arbiter.batteryCeiling

/-! ### Grants (R38 to R44) -/

/-- The entries in the order the arbiter examines them: queue 3 first, each queue from its head (R40). -/
def State.examined (s : State) : List QueueEntry :=
  s.arbiter.queues[3] ++ s.arbiter.queues[2] ++ s.arbiter.queues[1] ++ s.arbiter.queues[0]

/-- The candidate: the first entry whose slot is not frozen (R40). -/
def State.candidate (s : State) : Option SlotId :=
  (s.examined.find? fun e => !s.frozen e.slot).map (·.slot)

/-- The draw of a candidate fits: the total plus its spin-up draw does not exceed the ceiling in force (R41). -/
def State.drawFits (s : State) (i : SlotId) : Bool :=
  decide (s.arbiter.reservationTotal + (s.profileOf i).spinUpDraw ≤ s.ceilingInForce)

/-- The time from which the stagger lets the next grant pass; absent where no grant was made (R38). -/
def State.staggerEnd (s : State) : Option Nat :=
  s.arbiter.lastGrant.map (· + s.arbiter.staggerInterval * 10)

/-- The stagger interval has passed since the previous grant (R38). -/
def State.staggerPassed (s : State) : Bool := s.staggerEnd.all (· ≤ s.now)

/-- A grant (R42, R16). -/
def State.grant (s : State) (i : SlotId) : State :=
  let t := s.dequeue i
  let t := { t with arbiter := { t.arbiter with lastGrant := some t.now, staggerExpiry := none } }
  let t := t.modifySlot i fun r => { r with spinUps := countUp r.spinUps }
  (t.enterState i .spinningUp).ask i .spin

/-- One look for a candidate, with the further looks of step 5 of R42; every grant takes an entry out of the queues,
so `fuel` above the number of entries is never used up. -/
def State.lookUpTo (s : State) : Nat → State
  | 0 => s
  | fuel + 1 =>
    match s.candidate with
    | none => s
    | some i =>
      if s.drawFits i then
        if s.staggerPassed then (s.grant i).lookUpTo fuel
        else { s with arbiter := { s.arbiter with staggerExpiry := s.staggerEnd } }
      else s

/-- A grant opportunity: in RUN the arbiter looks; in CONFIG it makes no grant (R39). -/
def State.look (s : State) : State :=
  match s.mgmt.mode with
  | .run => s.lookUpTo (s.examined.length + 1)
  | .config => s

/-! ### Shedding (R158 to R162) -/

/-- The sum of the present reservations of the marked slots (R159). -/
def State.markedRelief (s : State) : Nat :=
  (allSlots.map fun i => if (s.slot i).shedMark then (s.slot i).reservation else 0).sum

/-- A shed candidate (R160). -/
def State.shedCandidate (s : State) (i : SlotId) : Bool :=
  decide (0 < (s.slot i).reservation) && !(s.slot i).shedMark && decide ((s.slot i).shedClass ≠ 3)
    && decide ((s.slot i).state ≠ .fault)

/-- The candidates in order: ascending shed class, within one class descending slot number (R160). -/
def State.shedOrder (s : State) : List SlotId :=
  ([0, 1, 2] : List (Fin 4)).flatMap fun c =>
    allSlots.reverse.filter fun i => decide ((s.slot i).shedClass = c) && s.shedCandidate i

/-- Marking a slot (R162). -/
def State.shedMarkSlot (s : State) (i : SlotId) : State :=
  ((s.modifySlot i fun r => { r with shedMark := true, standing := .stopped }).giveOutcome i .shed).proceed i false

/-- The selector's run over the candidates left, from a relief sum (R161). -/
def State.shedRun (s : State) : List SlotId → Nat → State
  | [], _ => s
  | i :: rest, relief =>
    let sum := relief + (s.slot i).reservation
    let t := s.shedMarkSlot i
    if t.arbiter.reservationTotal - sum ≤ t.ceilingInForce then t else t.shedRun rest sum

/-- The shed selector is considered: it runs when the slots already marked do not cover the shortfall (R159). -/
def State.considerShed (s : State) : State :=
  if s.ceilingInForce < s.arbiter.reservationTotal - s.markedRelief then s.shedRun s.shedOrder s.markedRelief else s

/-- The over-ceiling condition is written. -/
def State.setOverCeiling (s : State) (b : Bool) : State := { s with supply := { s.supply with overCeiling := b } }

/-- The test of the over-ceiling condition (R158). -/
def State.overCeilingTest (s : State) : State :=
  if s.ceilingInForce < s.arbiter.reservationTotal then
    if s.supply.overCeiling then s.considerShed
    else ((s.setOverCeiling true).setFlag .overCeiling).considerShed
  else s.setOverCeiling false

/-! ### The conclusion of an event -/

/-- The event has been a grant opportunity (R39): the reservation total has decreased, a slot has been enqueued, or a
zone has ceased to be frozen. The other opportunities are events of their own. -/
def grantOpportunity (before after : State) : Bool :=
  decide (after.arbiter.reservationTotal < before.arbiter.reservationTotal)
    || allSlots.any (fun i => decide ((after.slot i).state = .queued ∧ (before.slot i).state ≠ .queued))
    || (List.finRange 4).any fun z => before.zones[z].frozen && !after.zones[z].frozen

/-- The event has changed a figure the supply monitor tests (R158). -/
def figuresChanged (before after : State) : Bool :=
  decide (after.arbiter.reservationTotal ≠ before.arbiter.reservationTotal)
    || decide (after.ceilingInForce ≠ before.ceilingInForce)

/-- The over-ceiling condition is tested in an event, begun in `before`, that has changed a figure (R37, R158). -/
def testIfChanged (before after : State) : State :=
  if figuresChanged before after then after.overCeilingTest else after

/-- The end of an event that began in `before`, its own effects made: the arbiter takes its one look if the event was
an opportunity (R32, R37, R43, R115), and then the over-ceiling condition is tested if a figure has changed.
DEDUCED (log 7): both come after the slots have moved. -/
def concludeEvent (before after : State) : State :=
  testIfChanged before (if grantOpportunity before after then after.look else after)

end Sys2Proof.Machine
end

