-- ==== Sys2Proof/Machine/Hold.lean ====
section
/-! DEFINITION. Machine/Hold.lean: the hold unit: standings, onsets, clears, firings, blind holders and the evaluation of
the motion rules (chapter 06). -/

namespace Sys2Proof.Machine

/-- The standings of a zone that the present classes give (R113). -/
def State.zoneStanding (s : State) (z : ZoneId) : ZoneStanding where
  covered := (List.finRange 8).any fun c => (s.cls c).active && (s.cls c).unload && (s.cls c).zones[z]
  frozen := (List.finRange 8).any fun c => (s.cls c).active && (s.cls c).freeze && (s.cls c).zones[z]

/-- The standings of the named zones are recomputed (R113). -/
def State.recomputeZones (s : State) (zs : Set4) : State :=
  { s with zones := Vector.ofFn fun z : ZoneId => if zs[z] then s.zoneStanding z else s.zones[z] }

/-- The report of unload coverage to the slot controller: each slot whose zone's coverage has changed from what it was
in `before` takes the rule of its state, in ascending slot number (R114). -/
def State.reportCoverage (before s : State) (onset : Bool) : State :=
  s.forSlots allSlots fun i t =>
    if before.zones[(t.slot i).zone].covered = t.zones[(t.slot i).zone].covered then t else t.proceed i onset

/-- The zones named are recomputed and the changes of coverage reported (R113). Changes of freeze reach the arbiter at
the event's conclusion. -/
def State.updateZones (s : State) (zs : Set4) (onset : Bool) : State :=
  State.reportCoverage s (s.recomputeZones zs) onset

/-- An onset of class `c`, which has just become active (R106). -/
def State.onset (s : State) (c : ClassId) : State := (s.setFlag .holdChange).updateZones (s.cls c).zones true

/-- A clear of class `c` (R108). -/
def State.clear (s : State) (c : ClassId) : State :=
  ((s.modifyClass c fun r => { r with active := false, expiry := none }).setFlag .holdChange).updateZones
    (s.cls c).zones false

/-- The class becomes active if it was not; that is an onset (R105, R110). -/
def State.activate (s : State) (c : ClassId) : State :=
  if (s.cls c).active then s else (s.modifyClass c fun r => { r with active := true }).onset c

/-- A firing taken by class `c` (R105). -/
def State.fire (s : State) (c : ClassId) : State :=
  (s.modifyClass c fun r =>
    { r with expiry := some (laterExpiry r.expiry (s.now + r.holdTime * 10)), fireCount := countUp r.fireCount }).activate c

/-- A node joins a class as a blind holder (R110). -/
def State.joinClass (s : State) (n : NodeId) (c : ClassId) : State :=
  (s.modifyClass c fun r => { r with holders := r.holders.set n.val true n.isLt }).activate c

/-- A node leaves a class as a blind holder; the last holder's leave extends the expiry (R111). -/
def State.leaveClass (s : State) (n : NodeId) (c : ClassId) : State :=
  s.modifyClass c fun r =>
    let holders := r.holders.set n.val false n.isLt
    if r.holders[n] && Set4.isEmpty holders then
      { r with holders := holders, expiry := some (laterExpiry r.expiry (s.now + r.holdTime * 10)) }
    else { r with holders := holders }

/-- A node joins its blind class, if it has one (R93). -/
def State.joinBlind (s : State) (n : NodeId) (c : Option ClassId) : State :=
  match c with
  | some c => s.joinClass n c
  | none => s

/-- A node leaves its blind class, if it has one (R93). -/
def State.leaveBlind (s : State) (n : NodeId) (c : Option ClassId) : State :=
  match c with
  | some c => s.leaveClass n c
  | none => s

/-- The persistence counters of a node are set to 0 in all 16 rules (R91, R94, R100). -/
def State.zeroCounters (s : State) (n : NodeId) : State :=
  { s with rules := Vector.ofFn fun k : Fin 16 =>
      { s.rule k with counters := (s.rule k).counters.set n.val 0 n.isLt } }

/-- The four results of a sample (section 4.4). -/
structure Results where
  m : Nat
  d : Nat
  v : Nat
  t : Int
deriving DecidableEq, Repr

/-- The rule's comparison holds for a sample (R81). -/
def MotionRule.satisfied (r : MotionRule) (x : Results) : Bool :=
  match r.metric with
  | .shock => decide (r.threshold ≤ (x.d : Int))
  | .vibration => decide (r.threshold ≤ (x.v : Int))
  | .fall => decide ((x.m : Int) < r.threshold)
  | .tilt => decide (x.t < r.threshold)

/-- The counter of a node after a sample (R101). -/
def MotionRule.counterAfter (r : MotionRule) (n : NodeId) (x : Results) : Nat :=
  if r.satisfied x then min (r.counters[n] + 1) r.persistence else 0

/-- The rule takes part in the evaluation of a sample of node `n` (R101). -/
def MotionRule.watches (r : MotionRule) (n : NodeId) : Bool := r.inUse && r.nodes[n]

/-- One rule's evaluation of a sample: its counter, and a firing when the counter then stands at P (R101, R102). -/
def State.evaluateRule (s : State) (n : NodeId) (x : Results) (k : Fin 16) : State :=
  let r := s.rule k
  if r.watches n then
    let t := s.modifyRule k fun r => { r with counters := r.counters.set n.val (r.counterAfter n x) n.isLt }
    if r.counterAfter n x = r.persistence then t.fire r.cls else t
  else s

/-- The evaluation of a sample by every rule (R101). -/
def State.evaluateRules (s : State) (n : NodeId) (x : Results) : State :=
  (List.finRange 16).foldl (fun t k => t.evaluateRule n x k) s

end Sys2Proof.Machine
end

