-- ==== Sys2Proof/Machine/Motion.lean ====
section
/-! DEFINITION. Machine/Motion.lean: the arithmetic of a sample and the supervision of the nodes (chapters 04 and 05). -/

namespace Sys2Proof.Machine

/-! ### The computation of one sample (R73 to R80) -/

/-- An axis after the clamp (R73). -/
def clampAxis (a : Int) : Int := clampInt (-16000) 16000 a

/-- The largest of three absolute values (R74). -/
def largest (x y z : Nat) : Nat := max x (max y z)
/-- The smallest of three absolute values (R74). -/
def smallest (x y z : Nat) : Nat := min x (min y z)
/-- The middle one of three absolute values (R74). -/
def middle (x y z : Nat) : Nat := x + y + z - largest x y z - smallest x y z

/-- The magnitude M = a + (3 × (b + c)) / 8 over the sorted absolute values (R75). -/
def magnitude (x y z : Nat) : Nat := largest x y z + 3 * (middle x y z + smallest x y z) / 8

/-- The deviation D = |M − G| (R76). -/
def deviation (m g : Nat) : Nat := ((m : Int) - (g : Int)).natAbs

/-- The vibration level V + (D − V) / 2^k, truncated toward zero (R77). -/
def vibration (v d k : Nat) : Nat := ((v : Int) + Int.tdiv ((d : Int) - (v : Int)) (2 ^ k)).toNat

/-- The clamped axis along the up direction (R79). -/
def upComponent (d : Direction) (x y z : Int) : Int :=
  match d with
  | .plusX => x
  | .minusX => -x
  | .plusY => y
  | .minusY => -y
  | .plusZ => z
  | .minusZ => -z

/-- The tilt ratio (256 × U) / G, truncated toward zero and clamped (R80). -/
def tiltRatio (u : Int) (g : Nat) : Int := clampInt (-256) 256 (Int.tdiv (256 * u) (g : Int))

/-- The computation of an accepted sample with a node's settings and stored V (R72). -/
def computeSample (c : NodeConfig) (v : Nat) (x y z : Int) : Results :=
  let cx := clampAxis x
  let cy := clampAxis y
  let cz := clampAxis z
  let m := magnitude cx.natAbs cy.natAbs cz.natAbs
  let d := deviation m c.g
  ⟨m, d, vibration v d c.k, tiltRatio (upComponent c.up cx cy cz) c.g⟩

/-- The computed values are written (R81). -/
def NodeRecord.withResults (r : NodeRecord) (x : Results) : NodeRecord :=
  { r with v := x.v, lastM := some x.m, lastD := some x.d, lastT := some x.t }

/-! ### The sequence check and the status of a node (R85 to R89) -/

/-- The class of a sample by its sequence number (R85). -/
inductive SequenceClass
  | inSequence
  | duplicate
  | gap
deriving DecidableEq, Repr

/-- Compare a sequence number with the node's last one (R85). -/
def classify (last : Option Byte) (seq : Byte) : SequenceClass :=
  match last with
  | none => .inSequence
  | some l => if seq = l then .duplicate else if seq = l + 1 then .inSequence else .gap

/-- Status and progress after an accepted sample, before the comparison with the recovery count (R88). A gap restarts
the proof, but not of a node whose progress already stands at or above its recovery count: the next accepted sample takes
that node to LIVE, a gap too (R89). A gap cannot arise in SILENT. -/
def NodeRecord.advance (r : NodeRecord) (gap : Bool) : NodeRecord :=
  match r.status with
  | .silent => { r with status := .recovering, progress := 1 }
  | .recovering => { r with progress := if gap ∧ r.progress < r.config.recoveryCount then 1 else r.progress + 1 }
  | .live => r
  | .off => r

/-- A RECOVERING node whose progress has reached its recovery count becomes LIVE (R88). -/
def NodeRecord.recovered (r : NodeRecord) : NodeRecord :=
  if r.status = .recovering ∧ r.config.recoveryCount ≤ r.progress then { r with status := .live, progress := 0 } else r

/-- Steps 1 to 4 of an accepted sample (R87). -/
def NodeRecord.accepted (r : NodeRecord) (now : Nat) (seq : Byte) (gap : Bool) : NodeRecord :=
  ({ r with
      lastSequence := some seq
      lapsed := none
      gapCount := if gap then countUp r.gapCount else r.gapCount
      silenceExpiry := some (now + r.config.silenceLimit) }.advance gap).recovered

/-- The node is a blind holder of its blind class by its status (R93). -/
def NodeStatus.blind : NodeStatus → Bool
  | .silent => true
  | .recovering => true
  | .off => false
  | .live => false

/-- An accepted sample (R87): supervision, computation, evaluation, and the report of a changed standing. -/
def State.acceptSample (s : State) (n : NodeId) (seq : Byte) (gap : Bool) (x y z : Int) : State :=
  let old := s.node n
  let res := computeSample old.config old.v x y z
  let t := (s.modifyNode n fun r => (r.accepted s.now seq gap).withResults res).evaluateRules n res
  if old.status.blind && !(t.node n).status.blind then t.leaveBlind n old.config.blindClass else t

/-- The sample repeats the last sequence that an expiry of this instant has taken away: a duplicate that arrives with
the expiry is discarded in either order (R92). -/
def NodeRecord.repeatsLapsed (r : NodeRecord) (now : Nat) (seq : Byte) : Bool := r.lapsed == some (now, seq)

/-- A sample frame that passed its frame check, arriving on lane `n` (R68, R85, R86, R87, R92). -/
def State.takeSample (s : State) (n : NodeId) (node seq : Byte) (x y z : Int) : State :=
  if node.toNat ≠ n.val ∨ (s.node n).status = .off ∨ (s.node n).repeatsLapsed s.now seq then s
  else
    match classify (s.node n).lastSequence seq with
    | .duplicate => s
    | .inSequence => s.acceptSample n seq false x y z
    | .gap => s.acceptSample n seq true x y z

/-! ### Silence and configuration writes (R91, R94, R95, R70) -/

/-- The node becomes SILENT at `now` (R91); the last sequence it loses is remembered for that instant (R92). -/
def NodeRecord.silenced (r : NodeRecord) (now : Nat) : NodeRecord :=
  { r with status := .silent, progress := 0, lastSequence := none, lapsed := r.lastSequence.map fun l => (now, l),
           silenceExpiry := none, v := 0 }

/-- The event of a silence timer expiry (R91). -/
def State.silence (s : State) (n : NodeId) : State :=
  let old := s.node n
  let t := ((s.modifyNode n fun r => r.silenced s.now).zeroCounters n).setFlag .nodeSilent
  if old.status = .live then t.joinBlind n old.config.blindClass else t

/-- The node becomes OFF (R94). -/
def NodeRecord.disabled (r : NodeRecord) : NodeRecord :=
  { r with status := .off, progress := 0, lastSequence := none, lapsed := none, silenceExpiry := none, v := 0 }

/-- The node is enabled and starts to recover (R94). -/
def NodeRecord.enabledAt (r : NodeRecord) (now : Nat) : NodeRecord :=
  { r with status := .recovering, progress := 0, lastSequence := none, lapsed := none,
           silenceExpiry := some (now + r.config.silenceLimit) }

/-- The configuration is stored; a changed G sets V to 0 (R70). -/
def NodeRecord.configured (r : NodeRecord) (c : NodeConfig) : NodeRecord :=
  { r with config := c, v := if c.g = r.config.g then r.v else 0 }

/-- A node configuration write acts on supervision and blind holders (R94, R95). -/
def State.configureNode (s : State) (n : NodeId) (c : NodeConfig) : State :=
  let old := s.node n
  let t := s.modifyNode n fun r => r.configured c
  match old.config.enabled, c.enabled with
  | true, false =>
    let u := (t.modifyNode n NodeRecord.disabled).zeroCounters n
    if old.status.blind then u.leaveBlind n old.config.blindClass else u
  | false, true => (t.modifyNode n fun r => r.enabledAt s.now).joinBlind n c.blindClass
  | _, _ =>
    if old.status.blind && decide (old.config.blindClass ≠ c.blindClass) then
      (t.leaveBlind n old.config.blindClass).joinBlind n c.blindClass
    else t

end Sys2Proof.Machine
end

