-- ==== Sys2Proof/Machine/Operands.lean ====
section
/-! DEFINITION. Machine/Operands.lean: the operand forms of the management requests: the codes and the table entries of
R200, read from payload bytes with the clamps of R189, and written into answer payloads. -/

namespace Sys2Proof.Machine

/-! ### Fields read from bytes -/

/-- A yes/no byte (R200). -/
def yesNo (b : Byte) : Option Bool :=
  match b.toNat with
  | 0 => some false
  | 1 => some true
  | _ => none

/-- A node set or zone set byte: bits 0 to 3, no other bit set (R200). -/
def set4Of (b : Byte) : Option Set4 :=
  if b.toNat ≤ 15 then some #v[b.getLsbD 0, b.getLsbD 1, b.getLsbD 2, b.getLsbD 3] else none

/-- The effects byte: bit 0 unload, bit 1 freeze, no other bit set (R200). -/
def effectsOf (b : Byte) : Option (Bool × Bool) :=
  if b.toNat ≤ 3 then some (b.getLsbD 0, b.getLsbD 1) else none

/-- A kind map action code (R200). -/
def actionOf (b : Byte) : Option Action :=
  match b.toNat with
  | 0 => some .stopped
  | 1 => some .atLeastParked
  | 2 => some .atMostParked
  | 3 => some .loaded
  | 4 => some .forward
  | 5 => some .forwardIfClear
  | 6 => some .block
  | _ => none

/-- An up direction code (R200). -/
def directionOf (b : Byte) : Option Direction :=
  match b.toNat with
  | 0 => some .plusX
  | 1 => some .minusX
  | 2 => some .plusY
  | 3 => some .minusY
  | 4 => some .plusZ
  | 5 => some .minusZ
  | _ => none

/-- A metric code (R200). -/
def metricOf (b : Byte) : Option Metric :=
  match b.toNat with
  | 0 => some .shock
  | 1 => some .vibration
  | 2 => some .fall
  | 3 => some .tilt
  | _ => none

/-- A class number (R99). -/
def classOf (b : Byte) : Option ClassId := if h : b.toNat < 8 then some ⟨b.toNat, h⟩ else none

/-- A blind class: 0 to 7, or FFh for NONE (R84, R200). -/
def blindClassOf (b : Byte) : Option (Option ClassId) := if b.toNat = 255 then some none else (classOf b).map some

/-- A number clamped to 0 to n, as an index (R189, R200). -/
def clampIndex (n : Nat) (b : Byte) : Fin (n + 1) := ⟨min b.toNat n, Nat.lt_succ_of_le (Nat.min_le_right _ _)⟩

/-- A two-byte unsigned field (R198). -/
def wordNat (hi lo : Byte) : Nat := (wordOf hi lo).toNat

/-- A two-byte signed field (R198). -/
def wordInt (hi lo : Byte) : Int := (wordOf hi lo).toInt

/-! ### Table entries read from bytes (R189, R200); `none` where a code names no value of its field (R188) -/

/-- A draw profile entry, each field clamped: draws to 0 to 60, deadlines to 1 to 255 (R189). -/
def profileEntry : List Byte → Option DrawProfile
  | [up, run, spinUp, spinDown, load, unload] =>
    some ⟨min up.toNat 60, min run.toNat 60, clampNat 1 255 spinUp.toNat, clampNat 1 255 spinDown.toNat,
      clampNat 1 255 load.toNat, clampNat 1 255 unload.toNat⟩
  | _ => none

/-- A slot configuration entry: zone, profile, shed class, each clamped (R200). -/
def slotEntry : List Byte → Option (ZoneId × Fin 8 × Fin 4)
  | [zone, profile, shed] => some (clampIndex 3 zone, clampIndex 7 profile, clampIndex 3 shed)
  | _ => none

/-- One ceiling field: FFFFh marks it kept; else it is clamped to 600 (R188, R189, R200). -/
def ceilingField (kept n : Nat) : Nat := if n = 65535 then kept else min n 600

/-- A ceilings entry over the present ceilings (R36, R200). -/
def ceilingsEntry (mains battery : Nat) : List Byte → Option (Nat × Nat)
  | [mh, ml, bh, bl] => some (ceilingField mains (wordNat mh ml), ceilingField battery (wordNat bh bl))
  | _ => none

/-- A stagger entry, clamped to 255 (R38, R200). -/
def staggerEntry : List Byte → Option Nat
  | [hi, lo] => some (min (wordNat hi lo) 255)
  | _ => none

/-- A node configuration entry (R69, R84, R200). -/
def nodeEntry : List Byte → Option NodeConfig
  | [enabled, up, gh, gl, k, silence, recovery, blind] => do
    let e ← yesNo enabled
    let d ← directionOf up
    let c ← blindClassOf blind
    pure ⟨e, d, clampNat 500 2000 (wordNat gh gl), clampNat 1 6 k.toNat, clampNat 2 255 silence.toNat,
      clampNat 1 15 recovery.toNat, c⟩
  | _ => none

/-- The threshold range of a metric (R98). -/
def clampThreshold (m : Metric) (t : Int) : Int :=
  match m with
  | .tilt => clampInt (-256) 256 t
  | .shock => clampInt 0 28000 t
  | .vibration => clampInt 0 28000 t
  | .fall => clampInt 0 28000 t

/-- A motion rule entry; the write sets the four counters to 0 (R99, R200). -/
def ruleEntry : List Byte → Option MotionRule
  | [inUse, nodes, metric, th, tl, persistence, cls] => do
    let u ← yesNo inUse
    let ns ← set4Of nodes
    let m ← metricOf metric
    let c ← classOf cls
    pure (freshRule u ns m (clampThreshold m (wordInt th tl)) (clampNat 1 15 persistence.toNat) c)
  | _ => none

/-- The four configuration fields of a class entry (R116, R200). -/
def classEntry : List Byte → Option (Set4 × Bool × Bool × Nat)
  | [zones, effects, hh, hl] => do
    let zs ← set4Of zones
    let e ← effectsOf effects
    pure (zs, e.1, e.2, clampNat 1 6000 (wordNat hh hl))
  | _ => none

/-- A timing entry, each field clamped (R189, R200). -/
def timingEntry : List Byte → Option Timing
  | [hold, debounce, plain] => some ⟨hold.toNat, clampNat 1 50 debounce.toNat, clampNat 1 255 plain.toNat⟩
  | _ => none

/-! ### Fields written into answer payloads (R200) -/

/-- A field of one byte. -/
def one (n : Nat) : List Byte := [byte n]

/-- A field of two bytes, high byte first. -/
def two (n : Nat) : List Byte := [byte (n / 256), byte (n % 256)]

/-- A signed field of two bytes, two's complement (R198). -/
def signedTwo (t : Int) : List Byte := [highByte (BitVec.ofInt 16 t), lowByte (BitVec.ofInt 16 t)]

/-- An optional field of one byte: absent is FFh. -/
def optOne (n : Option Nat) : List Byte := one (n.getD 255)

/-- An optional field of two bytes: absent is FFFFh. -/
def optTwo (n : Option Nat) : List Byte := two (n.getD 65535)

/-- A signed optional field: absent is 8000h. -/
def optSigned (t : Option Int) : List Byte := (t.map signedTwo).getD (two 32768)

/-- A yes/no field of the reads. -/
def flagByte (b : Bool) : List Byte := one (if b then 1 else 0)

/-- A set byte: bits 0 to 3. -/
def set4Byte (s : Set4) : List Byte := one (bitOf s[0] 0 + bitOf s[1] 1 + bitOf s[2] 2 + bitOf s[3] 3)

/-- The slots of a set in ascending slot number, preceded by their count: the remaining members of R154, sent as a list
(R200; log 14). -/
def slotList (is : List SlotId) : List Byte :=
  let listed := allSlots.filter fun i => decide (i ∈ is)
  one listed.length ++ listed.flatMap fun i => one i.val

/-! ### Codes of the named values (R200) -/

/-- Slot state codes. -/
def SlotState.code : SlotState → Nat
  | .empty => 0
  | .stopped => 1
  | .queued => 2
  | .spinningUp => 3
  | .parked => 4
  | .loading => 5
  | .loaded => 6
  | .unloading => 7
  | .spinningDown => 8
  | .probing => 9
  | .fault => 10

/-- Target codes. -/
def Target.code : Target → Nat
  | .stopped => 0
  | .parked => 1
  | .loaded => 2

/-- Draw kept codes. -/
def DrawKept.code : DrawKept → Nat
  | .spinUp => 0
  | .running => 1

/-- Origin codes. -/
def Origin.code : Origin → Nat
  | .controller => 0
  | .group g => g.val + 1

/-- Fault cause code, and the carrier's code or 0. -/
def FaultCause.codes : FaultCause → Nat × Byte
  | .spinFailed c => (0, c)
  | .spinTimeout => (1, 0)
  | .loadFailed c => (2, c)
  | .loadTimeout => (3, 0)
  | .unloadFailed c => (4, c)
  | .unloadTimeout => (5, 0)
  | .stopFailed c => (6, c)
  | .stopTimeout => (7, 0)
  | .carrierFault c => (8, c)
  | .probeTimeout => (9, 0)

/-- Node status codes. -/
def NodeStatus.code : NodeStatus → Nat
  | .off => 0
  | .live => 1
  | .silent => 2
  | .recovering => 3

/-- Role codes. -/
def Role.code : Role → Nat
  | .sole => 0
  | .first => 1
  | .residual => 2

/-- Last preempted outcome code, and the FAILED code or 0. -/
def OpOutcome.codes : OpOutcome → Nat × Byte
  | .done => (0, 0)
  | .failed c => (1, c)
  | .aborted => (2, 0)
  | .timeout => (3, 0)

/-- Source codes. -/
def Source.code : Source → Nat
  | .mains => 0
  | .battery => 1

/-- Mode codes. -/
def Mode.code : Mode → Nat
  | .config => 0
  | .run => 1

/-- Action codes. -/
def Action.code : Action → Nat
  | .stopped => 0
  | .atLeastParked => 1
  | .atMostParked => 2
  | .loaded => 3
  | .forward => 4
  | .forwardIfClear => 5
  | .block => 6

/-- Direction codes. -/
def Direction.code : Direction → Nat
  | .plusX => 0
  | .minusX => 1
  | .plusY => 2
  | .minusY => 3
  | .plusZ => 4
  | .minusZ => 5

/-- Metric codes. -/
def Metric.code : Metric → Nat
  | .shock => 0
  | .vibration => 1
  | .fall => 2
  | .tilt => 3

/-! ### Table entries written as bytes (R187, R200) -/

/-- The ten tables (R186). -/
inductive Table
  | kindMap
  | priorityMap
  | drawProfiles
  | slotConfiguration
  | ceilings
  | stagger
  | nodeConfiguration
  | motionRules
  | classes
  | timing
deriving DecidableEq, Repr

/-- Table codes (R200). -/
def Table.code : Table → Nat
  | .kindMap => 0
  | .priorityMap => 1
  | .drawProfiles => 2
  | .slotConfiguration => 3
  | .ceilings => 4
  | .stagger => 5
  | .nodeConfiguration => 6
  | .motionRules => 7
  | .classes => 8
  | .timing => 9

/-- The table a code names (R200). -/
def tableOf (code : Nat) : Option Table :=
  match code with
  | 0 => some .kindMap
  | 1 => some .priorityMap
  | 2 => some .drawProfiles
  | 3 => some .slotConfiguration
  | 4 => some .ceilings
  | 5 => some .stagger
  | 6 => some .nodeConfiguration
  | 7 => some .motionRules
  | 8 => some .classes
  | 9 => some .timing
  | _ => none

/-- The number of entries of a table; the index range is 0 up to one less (R186). -/
def Table.entries : Table → Nat
  | .kindMap => 16
  | .priorityMap => 9
  | .drawProfiles => 8
  | .slotConfiguration => 24
  | .ceilings => 1
  | .stagger => 1
  | .nodeConfiguration => 4
  | .motionRules => 16
  | .classes => 8
  | .timing => 1

/-- A draw profile entry as bytes. -/
def DrawProfile.bytes (p : DrawProfile) : List Byte :=
  [byte p.spinUpDraw, byte p.runningDraw, byte p.spinUpDeadline, byte p.spinDownDeadline, byte p.loadDeadline,
    byte p.unloadDeadline]

/-- A node configuration entry as bytes. -/
def NodeConfig.bytes (c : NodeConfig) : List Byte :=
  flagByte c.enabled ++ one c.up.code ++ two c.g ++ one c.k ++ one c.silenceLimit ++ one c.recoveryCount
    ++ optOne (c.blindClass.map (·.val))

/-- The six fields of a motion rule as bytes. -/
def MotionRule.fieldBytes (r : MotionRule) : List Byte :=
  flagByte r.inUse ++ set4Byte r.nodes ++ one r.metric.code ++ signedTwo r.threshold ++ one r.persistence
    ++ one r.cls.val

/-- The four configuration fields of a class as bytes. -/
def ClassRecord.fieldBytes (c : ClassRecord) : List Byte :=
  set4Byte c.zones ++ one (bitOf c.unload 0 + bitOf c.freeze 1) ++ two c.holdTime

/-- An index below `n`. -/
def indexBelow (n i : Nat) : Option (Fin n) := if h : i < n then some ⟨i, h⟩ else none

/-- The bytes of a table entry with the state fields of rules and classes (R187, R200); nothing for an index out of
range, which R185 has refused before. -/
def State.entryBytes (s : State) (t : Table) (i : Nat) : List Byte :=
  match t with
  | .kindMap => ((indexBelow 16 i).map fun k => one s.kindMap[k].code).getD []
  | .priorityMap => match indexBelow 8 i with
    | some p => one s.arbiter.priorityMap[p].val ++ one 0
    | none => one s.arbiter.groupQueue.val ++ flagByte s.arbiter.groupByPriority
  | .drawProfiles => ((indexBelow 8 i).map fun k => s.profiles[k].bytes).getD []
  | .slotConfiguration => ((indexBelow 24 i).map fun k =>
      one (s.slot k).zone.val ++ one (s.slot k).profile.val ++ one (s.slot k).shedClass.val).getD []
  | .ceilings => two s.arbiter.mainsCeiling ++ two s.arbiter.batteryCeiling
  | .stagger => two s.arbiter.staggerInterval
  | .nodeConfiguration => ((indexBelow 4 i).map fun k => (s.node k).config.bytes).getD []
  | .motionRules => ((indexBelow 16 i).map fun k =>
      (s.rule k).fieldBytes ++ (s.rule k).counters.toList.map byte).getD []
  | .classes => ((indexBelow 8 i).map fun k =>
      (s.cls k).fieldBytes ++ flagByte (s.cls k).active ++ optTwo (remaining s.now (s.cls k).expiry)
        ++ set4Byte (s.cls k).holders ++ two (s.cls k).fireCount).getD []
  | .timing => one s.mgmt.timing.selfParkHold ++ one s.mgmt.timing.presenceDebounce ++ one s.mgmt.timing.plainDeadline

/-- The payload of a TABLE_READ or TABLE_WRITE answer: table code, index, the entry as stored (R200). -/
def State.tablePayload (s : State) (t : Table) (index : Byte) : List Byte :=
  byte t.code :: index :: s.entryBytes t index.toNat

end Sys2Proof.Machine
end

