-- ==== Sys2Proof/Machine/Reads.lean ====
section
/-! DEFINITION. Machine/Reads.lean: the contents of SLOT_READ, NODE_READ and STATUS_READ, in the order of R193, R97 and
R194, with the encodings of R200. A field whose range exceeds 0 to 254 takes two bytes; an absent field, and each field
of an absent record, is all ones (DEDUCED, log 14 and log 15). -/

namespace Sys2Proof.Machine

/-- A lane or trunk tag, range 0 to 255: two bytes (log 14). -/
def tagField (t : Byte) : List Byte := two t.toNat

/-! ### SLOT_READ (R67, R193) -/

/-- The active request, or its seven absent fields. -/
def activeField (now : Nat) (a : Option ActiveRequest) : List Byte :=
  match a with
  | some a => one a.origin.code ++ tagField a.tag ++ one a.kind.val ++ one a.target.code ++ one a.priority.val
      ++ optTwo (remaining now a.waitDeadline)
  | none => optOne none ++ optTwo none ++ optOne none ++ optOne none ++ optOne none ++ optTwo none

/-- The fault cause with its code, or absent. -/
def causeField (c : Option FaultCause) : List Byte :=
  match c with
  | some c => one c.codes.1 ++ [c.codes.2]
  | none => optOne none ++ optOne none

/-- The RECORD part of a slot (R193). -/
def State.recordPart (s : State) (i : SlotId) : List Byte :=
  let r := s.slot i
  flagByte r.present ++ optTwo (remaining s.now r.debounceExpiry) ++ flagByte r.inService ++ one r.state.code
    ++ one r.zone.val ++ one r.profile.val ++ one r.shedClass.val ++ one r.standing.code
    ++ one (s.effectiveTarget i).code ++ optOne (r.lastPriority.map (·.val)) ++ activeField s.now r.active
    ++ one r.reservation ++ one r.drawKept.code ++ flagByte r.powerSwitch ++ flagByte r.shedMark
    ++ optTwo (remaining s.now r.selfParkExpiry) ++ causeField r.faultCause
    ++ two r.spinUps ++ two r.emergencyUnloads ++ two r.selfParks ++ two r.lateReports

/-- The governed record: op, tag, role, time remaining; or absent. -/
def governedField (now : Nat) (g : Option GovernedRecord) : List Byte :=
  match g with
  | some g => one g.op.code ++ tagField g.tag ++ one g.role.code ++ two (g.deadline - now)
  | none => optOne none ++ optTwo none ++ optOne none ++ optTwo none

/-- The preempting record: op, tag, time remaining; or absent. -/
def preemptingField (now : Nat) (p : Option PreemptingRecord) : List Byte :=
  match p with
  | some p => one p.op.code ++ tagField p.tag ++ two (p.deadline - now)
  | none => optOne none ++ optTwo none ++ optTwo none

/-- The plain record: op PLAIN, tag, time remaining; or absent. -/
def plainField (now : Nat) (p : Option PlainRecord) : List Byte :=
  match p with
  | some p => one plainOpCode ++ tagField p.tag ++ two (p.deadline - now)
  | none => optOne none ++ optTwo none ++ optTwo none

/-- The last preempted outcome: op, tag, outcome with the FAILED code, which ranges over 0 to 255 and so takes two bytes
(log 14); or absent. -/
def preemptedField (p : Option PreemptedOutcome) : List Byte :=
  match p with
  | some p => one p.op.code ++ tagField p.tag ++ one p.outcome.codes.1 ++ two p.outcome.codes.2.toNat
  | none => optOne none ++ optTwo none ++ optOne none ++ optTwo none

/-- The LANE part of a slot (R67). -/
def State.lanePart (s : State) (i : SlotId) : List Byte :=
  let r := s.lane i
  tagField r.lastTag ++ one r.retired.length ++ r.retired.flatMap tagField ++ governedField s.now r.governed
    ++ preemptingField s.now r.preempting ++ plainField s.now r.plain ++ optOne (r.held.map (·.code))
    ++ preemptedField r.lastPreempted

/-- SLOT_READ's answer payload for a part code (0 RECORD, 1 LANE). -/
def State.slotReadPayload (s : State) (i : SlotId) (part : Nat) : List Byte :=
  if part = 0 then s.recordPart i else s.lanePart i

/-! ### NODE_READ (R82, R97) -/

/-- NODE_READ's answer payload: configuration, status, last sequence, progress, gap count, silence timer, V, last M,
last D, last T. -/
def State.nodeReadPayload (s : State) (n : NodeId) : List Byte :=
  let r := s.node n
  flagByte r.config.enabled ++ one r.config.up.code ++ two r.config.g ++ one r.config.k ++ two r.config.silenceLimit
    ++ one r.config.recoveryCount ++ optOne (r.config.blindClass.map (·.val)) ++ one r.status.code
    ++ optTwo (r.lastSequence.map (·.toNat)) ++ one r.progress ++ two r.gapCount
    ++ optTwo (remaining s.now r.silenceExpiry) ++ two r.v ++ optTwo r.lastM ++ optTwo r.lastD ++ optSigned r.lastT

/-! ### STATUS_READ (R119, R154, R170, R194) -/

/-- Section GENERAL. -/
def State.generalSection (s : State) : List Byte :=
  one s.mgmt.mode.code ++ one s.supply.source.code ++ two s.arbiter.mainsCeiling ++ two s.arbiter.batteryCeiling
    ++ two s.ceilingInForce ++ two s.arbiter.reservationTotal ++ flagByte s.supply.overCeiling
    ++ ((List.finRange 4).flatMap fun n => one (s.node n).status.code)
    ++ [s.mgmt.flags.toByte, s.mgmt.enables.toByte]
    ++ (let inUse := (List.finRange 4).filter fun g => (s.group g).isSome
        one inUse.length ++ inUse.flatMap fun g => one g.val)

/-- One queue: its length, then (slot, priority used) pairs from head to tail. -/
def queueField (q : List QueueEntry) : List Byte :=
  one q.length ++ q.flatMap fun e => one e.slot.val ++ optOne (e.priorityUsed.map (·.val))

/-- Section QUEUES: queues 3, 2, 1 and 0. -/
def State.queuesSection (s : State) : List Byte :=
  queueField s.arbiter.queues[3] ++ queueField s.arbiter.queues[2] ++ queueField s.arbiter.queues[1]
    ++ queueField s.arbiter.queues[0]

/-- Section CLASSES. -/
def State.classesSection (s : State) : List Byte :=
  (List.finRange 8).flatMap fun c => flagByte (s.cls c).active ++ optTwo (remaining s.now (s.cls c).expiry)

/-- Section GROUP g: the fields of R154, the remaining members as a list in ascending slot number (log 14), or the number
and the word free (log 16). -/
def State.groupSection (s : State) (g : GroupId) : List Byte :=
  match s.group g with
  | some r => one g.val ++ [groupSource r.destination] ++ tagField r.tag ++ one r.kind.val ++ one r.fanOut
      ++ one r.doneCount ++ slotList r.remaining ++ one r.results.length
      ++ r.results.flatMap fun e => one e.1.val ++ one e.2.code
  | none => one g.val ++ [Config.freeRecordWord]

/-- STATUS_READ's answer payload for a section code (0 GENERAL, 1 QUEUES, 2 CLASSES, 3 to 6 GROUP 0 to 3). -/
def State.statusReadPayload (s : State) (part : Nat) : List Byte :=
  match part with
  | 0 => s.generalSection
  | 1 => s.queuesSection
  | 2 => s.classesSection
  | n + 3 => ((indexBelow 4 n).map s.groupSection).getD []

end Sys2Proof.Machine
end

