-- ==== Sys2Proof/Machine/Requests.lean ====
section
/-! DEFINITION. Machine/Requests.lean: the request classifier's checks, acceptance, the plain frames and the group
fan-out (chapters 07 and 08, R62). -/

namespace Sys2Proof.Machine

/-! ### Frame fields -/

/-- The kind as a number 0 to 15; a frame with a kind above 15 has been refused before this is read (R120). -/
def frameKind (b : Byte) : Fin 16 := ⟨b.toNat % 16, Nat.mod_lt _ (by decide)⟩

/-- The priority as a number 0 to 7; a frame with a priority above 7 has been refused before this is read (R120). -/
def framePriority (b : Byte) : Fin 8 := ⟨b.toNat % 8, Nat.mod_lt _ (by decide)⟩

/-- The wait deadline that a wait limit gives at acceptance (R127, R151). -/
def waitDeadlineOf (now : Nat) (waitLimit : Byte) : Option Nat :=
  if waitLimit = 0 then none else some (now + waitLimit.toNat * 100)

/-- An answer with an empty payload to a trunk frame: source, kind and tag as received (R120, R123, R142). -/
def frameAnswer (source : Byte) (f : FrameBody) (c : AnswerCode) : AnswerFrame := ⟨source, f.kind, f.tag, c, []⟩

/-! ### Targets and checks of governed requests (R125, R126) -/

/-- The target of a governed action over the standing target (R126). The plain actions and BLOCK give no target. -/
def Action.target (a : Action) (standing : Target) : Target :=
  match a with
  | .stopped => .stopped
  | .atLeastParked => standing.higher .parked
  | .atMostParked => standing.lower .parked
  | .loaded => .loaded
  | .forward => standing
  | .forwardIfClear => standing
  | .block => standing

/-- The checks on a governed request for a present slot (R125): the outcome that refuses it, if any. -/
def State.governedRefusal (s : State) (i : SlotId) (a : Action) : Option AnswerCode :=
  let r := s.slot i
  if s.mgmt.mode = .config then some .configMode
  else if !r.inService then some .withdrawn
  else if r.state = .fault then some .faulted
  else if r.shedMark ∧ a.target r.standing ≠ .stopped then some .shedding
  else none

/-! ### Acceptance (R127, R145) -/

/-- The reservation of egress space an origin needs (R137): a member's answer is its group's. -/
def State.reserveFor (s : State) (o : Origin) : State :=
  match o with
  | .controller => s.takeReservation
  | .group _ => s

/-- Acceptance of a governed request, step by step (R127). -/
def State.accept (s : State) (i : SlotId) (a : ActiveRequest) : State :=
  let s1 := (s.giveOutcome i .superseded).reserveFor a.origin
  let s2 := s1.modifySlot i fun r =>
    { r with active := some a, standing := a.target, lastPriority := some a.priority }
  (s2.proceed i false).completeIfReached i

/-- The active request a governed slot frame becomes (R127). -/
def State.requestOf (s : State) (i : SlotId) (f : FrameBody) (a : Action) : ActiveRequest :=
  ⟨.controller, f.tag, frameKind f.kind, a.target (s.slot i).standing, waitDeadlineOf s.now f.waitLimit,
    framePriority f.priority⟩

/-! ### Plain frames (R62, R124) -/

/-- A plain frame for a present slot: refused HELD or LANE_BUSY, or taken by the lane interface (R124). -/
def State.takePlain (s : State) (i : SlotId) (f : FrameBody) (a : Action) : State :=
  if a = .forwardIfClear ∧ (s.covered i || s.frozen i) then s.answer (frameAnswer (byte i.val) f .held)
  else if (s.lane i).plain.isSome then s.answer (frameAnswer (byte i.val) f .laneBusy)
  else
    (s.takeReservation).modifyLane i fun r =>
      r.issuePlain f.tag (frameKind f.kind) f.payload s.now (s.mgmt.timing.plainDeadline * 10)

/-! ### Slot-addressed frames (R120, R123) -/

/-- A governed frame for a present slot: refused by R125, or accepted by R127. -/
def State.takeGoverned (s : State) (i : SlotId) (f : FrameBody) (a : Action) : State :=
  match s.governedRefusal i a with
  | some c => s.answer (frameAnswer (byte i.val) f c)
  | none => s.accept i (s.requestOf i f a)

/-- The checks of R123 in their order, after the ingress check of R120. -/
def State.takeSlotFrame (s : State) (i : SlotId) (f : FrameBody) : State :=
  let source := byte i.val
  if TrunkFrame.refusedField ⟨source, f⟩ then s.answer (frameAnswer source f .malformed)
  else if !(s.slot i).present then s.answer (frameAnswer source f .absent)
  else
    match s.kindMap[frameKind f.kind] with
    | .block => s.answer (frameAnswer source f .blocked)
    | .forward => s.takePlain i f .forward
    | .forwardIfClear => s.takePlain i f .forwardIfClear
    | .stopped => s.takeGoverned i f .stopped
    | .atLeastParked => s.takeGoverned i f .atLeastParked
    | .atMostParked => s.takeGoverned i f .atMostParked
    | .loaded => s.takeGoverned i f .loaded

/-- A slot-addressed frame is one event: it uses an egress entry or is discarded (R137), and it ends with the look and
the test it calls for. -/
def State.slotFrameEvent (s : State) (i : SlotId) (f : FrameBody) : State :=
  s.withRoom fun t => concludeEvent t (t.takeSlotFrame i f)

/-! ### Group frames (R142 to R147) -/

/-- The members of a destination, in ascending slot number (R143). -/
def State.members (s : State) (d : GroupDest) : List SlotId :=
  match d with
  | .all => allSlots
  | .zone z => allSlots.filter fun i => decide ((s.slot i).zone = z)

/-- The lowest-numbered free record (R140). -/
def State.freeRecord (s : State) : Option GroupId := (List.finRange 4).find? fun g => (s.group g).isNone

/-- The record a group frame opens (R142, R143). -/
def State.openedRecord (s : State) (d : GroupDest) (f : FrameBody) (a : Action) : GroupRecord where
  destination := d
  tag := f.tag
  kind := frameKind f.kind
  action := a
  priority := framePriority f.priority
  waitLimit := f.waitLimit
  fanOut := (s.members d).length
  remaining := s.members d
  doneCount := 0
  results := []

/-- The check that refuses a member at the fan-out, if any (R144). -/
def State.memberRefusal (s : State) (i : SlotId) (a : Action) : Option AnswerCode :=
  if !(s.slot i).present then some .absent
  else if a = .block then some .blocked
  else s.governedRefusal i a

/-- The active request a member becomes (R145). -/
def State.memberRequest (s : State) (g : GroupId) (r : GroupRecord) (i : SlotId) : ActiveRequest :=
  ⟨.group g, r.tag, r.kind, r.action.target (s.slot i).standing, waitDeadlineOf s.now r.waitLimit, r.priority⟩

/-- One member's step of the fan-out (R144, R145). -/
def State.takeMember (s : State) (g : GroupId) (r : GroupRecord) (i : SlotId) : State :=
  match s.memberRefusal i r.action with
  | some c => s.recordOutcome g i c
  | none => s.accept i (s.memberRequest g r i)

/-- The opening of record `g` and its fan-out (R142 to R147). -/
def State.openGroup (s : State) (g : GroupId) (r : GroupRecord) : State :=
  (((s.takeReservation).setGroup g (some r)).forSlots r.remaining fun i t => t.takeMember g r i).closeIfEmpty g

/-- The mapping of a group frame's kind to a plain action (R142). -/
def Action.plain : Action → Bool
  | .forward => true
  | .forwardIfClear => true
  | .stopped => false
  | .atLeastParked => false
  | .atMostParked => false
  | .loaded => false
  | .block => false

/-- A group frame's checks (R120, R142), in their order. -/
def State.takeGroupFrame (s : State) (d : GroupDest) (f : FrameBody) : State :=
  let source := groupSource d
  let action := s.kindMap[frameKind f.kind]
  if TrunkFrame.refusedField ⟨source, f⟩ then s.answer (frameAnswer source f .malformed)
  else if action.plain then s.answer (frameAnswer source f .malformed)
  else
    match s.freeRecord with
    | none => s.answer (frameAnswer source f .groupFull)
    | some g => s.openGroup g (s.openedRecord d f action)

/-! ### Wait deadlines (R130, R131) -/

/-- The effective target is below the request's target, and unload coverage of the zone or the self-park hold is
present: what makes a PARKED or UNLOADING slot wait (R130). -/
def State.heldBelow (s : State) (i : SlotId) (a : ActiveRequest) : Bool :=
  decide ((s.effectiveTarget i).rank < a.target.rank) && (s.covered i || (s.slot i).selfParkExpiry.isSome)

/-- The slot stands still below its request's target for want of a grant, the end of a hold or the end of a
self-park (R130). -/
def State.waiting (s : State) (i : SlotId) (a : ActiveRequest) : Bool :=
  match (s.slot i).state with
  | .queued => true
  | .parked => s.heldBelow i a
  | .unloading => s.heldBelow i a
  | .empty => false
  | .stopped => false
  | .spinningUp => false
  | .loading => false
  | .loaded => false
  | .spinningDown => false
  | .probing => false
  | .fault => false

/-- The settled state of a waiting slot (R131). -/
def settledTarget : SlotState → Target
  | .queued => .stopped
  | _ => .parked

/-- A wait deadline that takes effect (R131). -/
def State.waitExpired (s : State) (i : SlotId) : State :=
  ((s.giveOutcome i .waitExpired).modifySlot i fun r => { r with standing := settledTarget r.state }).proceed i false

end Sys2Proof.Machine
end

