-- ==== Sys2Proof/Machine/Management.lean ====
section
/-! DEFINITION. Machine/Management.lean: the frame of every management request (R185), the table writes (R188, R189) and
what a write does in its owning block, and the slot requests (R176, R178, R192). -/

namespace Sys2Proof.Machine

/-! ### Requests and answers (R185) -/

/-- A management answer: source 31, the request's kind and tag, an outcome and a payload (R185). -/
def manageAnswer (kind : Nat) (tag : Byte) (c : AnswerCode) (payload : List Byte) : AnswerFrame :=
  ⟨byte Config.gatewayAddress, byte kind, tag, c, payload⟩

/-- A refused management request is answered with an empty payload (R185). -/
def State.refuse (s : State) (kind : Nat) (tag : Byte) (c : AnswerCode) : State :=
  s.answer (manageAnswer kind tag c [])

/-- An executed management request is answered DONE. -/
def State.done (s : State) (kind : Nat) (tag : Byte) (payload : List Byte) : State :=
  s.answer (manageAnswer kind tag .done payload)

/-- The order of R185 for a request with the given kind and payload: an entry of the egress queue, the payload's form,
then the request itself. -/
def State.manage (s : State) (kind : Nat) (tag : Byte) (payload : List Byte) (take : State → State) : State :=
  s.withRoom fun t => if managementMalformed kind payload then t.refuse kind tag .malformed else take t

/-- The index check of R185: BAD_INDEX outside 0 to n − 1. -/
def State.indexed (s : State) (kind : Nat) (tag : Byte) (n : Nat) (b : Byte) (take : Fin n → State) : State :=
  match indexBelow n b.toNat with
  | some i => take i
  | none => s.refuse kind tag .badIndex

/-! ### Table writes (R188, R189) -/

/-- What a TABLE_WRITE comes to after the checks of R185: a refusal, or the state after the write in its owning block,
from which the answer payload is read. -/
inductive Written
  | refused (c : AnswerCode)
  | stored (s : State)
deriving DecidableEq, Repr

/-- TABLE_WRITE of a table (R185, R188, R189): payload length, index, then the owning block; the write is answered DONE
with the entry as stored, after the answers its effects produce (log 17). -/
def State.tableWrite (s : State) (t : Table) (tag index : Byte) (entry : List Byte)
    (write : State → Written) : State :=
  s.manage 1 tag (byte t.code :: index :: entry) fun u =>
    if index.toNat < t.entries then
      match write u with
      | .refused c => u.refuse 1 tag c
      | .stored v => v.done 1 tag (v.tablePayload t index)
    else u.refuse 1 tag .badIndex

/-- A write of the kind map: LOCKED in RUN, MALFORMED for an unknown action (R122, R188). -/
def State.writeKindMap (s : State) (i : Fin 16) (entry : List Byte) : Written :=
  if s.mgmt.mode = .run then .refused .locked
  else match entry.head?.bind actionOf with
    | none => .refused .malformed
    | some a => .stored { s with kindMap := s.kindMap.set i.val a i.isLt }

/-- A write of the priority map: entries 0 to 7 name a queue; entry 8 is the group settings (R30, R200). -/
def State.writePriorityMap (s : State) (i : Nat) (entry : List Byte) : Written :=
  match entry with
  | [b0, b1] =>
    match indexBelow 8 i with
    | some p =>
      .stored { s with arbiter := { s.arbiter with
        priorityMap := s.arbiter.priorityMap.set p.val (clampIndex 3 b0) p.isLt } }
    | none => match yesNo b1 with
      | none => .refused .malformed
      | some byPriority =>
        .stored { s with arbiter := { s.arbiter with groupQueue := clampIndex 3 b0, groupByPriority := byPriority } }
  | _ => .refused .malformed

/-- A slot whose configuration names the profile holds a reservation or is QUEUED (R188). -/
def State.profileInUse (s : State) (k : Fin 8) : Bool :=
  allSlots.any fun i => decide ((s.slot i).profile = k) &&
    (decide (0 < (s.slot i).reservation) || decide ((s.slot i).state = .queued))

/-- The reservations of the powered slots that use the profile are derived again (R2, R10). -/
def State.rederiveProfile (s : State) (k : Fin 8) : State :=
  s.forSlots allSlots fun i t =>
    if (t.slot i).profile = k ∧ (t.slot i).state.powered then t.rederive i else t

/-- A write of a draw profile: IN_USE in RUN where the profile is in use (R10, R188). -/
def State.writeProfile (s : State) (k : Fin 8) (entry : List Byte) : Written :=
  match profileEntry entry with
  | none => .refused .malformed
  | some p =>
    if s.mgmt.mode = .run ∧ s.profileInUse k then .refused .inUse
    else .stored (concludeEvent s
      (({ s with profiles := s.profiles.set k.val p k.isLt }).rederiveProfile k))

/-- The states in which a slot's configuration may be written, and which SET_MODE to CONFIG asks of every slot
(R188, R190). -/
def SlotState.atRest : SlotState → Bool
  | .empty => true
  | .stopped => true
  | .fault => true
  | .queued => false
  | .spinningUp => false
  | .parked => false
  | .loading => false
  | .loaded => false
  | .unloading => false
  | .spinningDown => false
  | .probing => false

/-- A write of a slot's configuration: IN_USE unless the slot is EMPTY, STOPPED or FAULT; a new zone has the effective
target recomputed at once (R2, R12, R188). -/
def State.writeSlot (s : State) (i : SlotId) (entry : List Byte) : Written :=
  match slotEntry entry with
  | none => .refused .malformed
  | some (zone, profile, shed) =>
    if (s.slot i).state.atRest then
      .stored (concludeEvent s
        ((s.modifySlot i fun r => { r with zone := zone, profile := profile, shedClass := shed }).proceed i false))
    else .refused .inUse

/-- A write of the ceilings: a changed ceiling is a grant opportunity, a changed ceiling in force is tested (R36). -/
def State.writeCeilings (s : State) (entry : List Byte) : Written :=
  match ceilingsEntry s.arbiter.mainsCeiling s.arbiter.batteryCeiling entry with
  | none => .refused .malformed
  | some (mains, battery) =>
    let t := { s with arbiter := { s.arbiter with mainsCeiling := mains, batteryCeiling := battery } }
    .stored (testIfChanged s
      (if mains = s.arbiter.mainsCeiling ∧ battery = s.arbiter.batteryCeiling then t else t.look))

/-- A write of the stagger interval; it is not a grant opportunity (R38). -/
def State.writeStagger (s : State) (entry : List Byte) : Written :=
  match staggerEntry entry with
  | none => .refused .malformed
  | some n => .stored { s with arbiter := { s.arbiter with staggerInterval := n } }

/-- A write of a node's configuration: LOCKED in RUN (R84, R94, R95, R188). -/
def State.writeNode (s : State) (n : NodeId) (entry : List Byte) : Written :=
  if s.mgmt.mode = .run then .refused .locked
  else match nodeEntry entry with
    | none => .refused .malformed
    | some c => .stored (concludeEvent s (s.configureNode n c))

/-- A write of a motion rule; its four counters become 0 whether or not a field changes (R99). -/
def State.writeRule (s : State) (k : Fin 16) (entry : List Byte) : Written :=
  match ruleEntry entry with
  | none => .refused .malformed
  | some r => .stored { s with rules := s.rules.set k.val r k.isLt }

/-- The union of two zone sets. -/
def Set4.union (a b : Set4) : Set4 := Vector.ofFn fun i : Fin 4 => a[i] || b[i]

/-- A write of a class: CLASS_ACTIVE in RUN while it is active; in CONFIG an active class's zones are recomputed and
reported, the beginnings not marked as an onset (R116, R117). -/
def State.writeClass (s : State) (c : ClassId) (entry : List Byte) : Written :=
  match classEntry entry with
  | none => .refused .malformed
  | some (zones, unload, freeze, hold) =>
    if s.mgmt.mode = .run ∧ (s.cls c).active then .refused .classActive
    else
      let t := s.modifyClass c fun r => { r with zones := zones, unload := unload, freeze := freeze, holdTime := hold }
      .stored (if (s.cls c).active then
        concludeEvent s (t.updateZones (Set4.union (s.cls c).zones zones) false) else t)

/-- A write of the timing table; running expiries keep what they were started with (R186). -/
def State.writeTiming (s : State) (entry : List Byte) : Written :=
  match timingEntry entry with
  | none => .refused .malformed
  | some m => .stored { s with mgmt := { s.mgmt with timing := m } }

/-! ### Slot requests (R176, R178, R192) -/

/-- CLEAR_FAULT of a slot: FAULT goes to STOPPED with standing target STOPPED (R27). -/
def State.clearFaultOf (s : State) (i : SlotId) : State :=
  if (s.slot i).state = .fault then (s.modifySlot i fun r => { r with standing := .stopped }).arrive i .stopped else s

/-- WITHDRAW of a slot (R176, R177). -/
def State.withdrawSlot (s : State) (i : SlotId) : State :=
  if (s.slot i).inService then
    ((s.modifySlot i fun r => { r with inService := false }).giveOutcome i .withdrawn).proceed i false
  else s

/-- RESTORE of a slot (R178). -/
def State.restoreSlot (s : State) (i : SlotId) : State :=
  if (s.slot i).inService then s
  else (s.modifySlot i fun r => { r with inService := true, standing := .stopped }).proceed i false

end Sys2Proof.Machine
end

