-- ==== Sys2Proof/Machine/Restart.lean ====
section
/-! DEFINITION. Machine/Restart.lean: the pending RESTART and its execution (R180, R181, R182). -/

namespace Sys2Proof.Machine

/-- The management kind of RESTART (R200). -/
def restartKind : Nat := 11

/-- Step 1 and the trunk column of R137: every queued frame and reservation is discarded, any HOLD ends and GO is to be
sent before the RESTART's own answer. DESIGN CHOICE (log 31), unsafe: a HOLD or GO symbol that still waits for the end of
the frame in transmission is dropped, and GO goes out alone; the rules do not say whether it is sent first. -/
def TrunkPort.restarted (t : TrunkPort) : TrunkPort :=
  { t with queue := [], transmitting := false, reservations := 0, hold := false, flowDue := [.go], restartPending := none }

/-- Step 3: every operation on the lane is abandoned and its tag retired; the last issued tag and the retired tags are
kept (R50, R61). -/
def LaneRecord.restarted (r : LaneRecord) : LaneRecord := { r.abandonAll with lastPreempted := none }

/-- The state a slot takes at a RESTART, by its presence and its switch (R181 step 4). -/
def SlotRecord.restartState (r : SlotRecord) : SlotState :=
  if r.present then (if r.powerSwitch then .probing else .stopped) else .empty

/-- Steps 2 and 4, the slot's own record: the RESTART column of R1, and R171. The presence, the input and the switch are
kept; a PROBING slot holds the running draw of profile 0. -/
def SlotRecord.restarted (r : SlotRecord) (i : SlotId) (now : Nat) : SlotRecord :=
  { powerOnSlot now i r.input with
    present := r.present
    debounceExpiry := resetDebounce now (seated r.input != r.present)
    state := r.restartState
    reservation := if r.restartState = .probing then defaultProfile.runningDraw else 0
    powerSwitch := r.powerSwitch }

/-- Steps 1 to 5 of R181, the QUERYs aside: every table and record at its RESTART value. -/
def State.restartRecords (s : State) : State :=
  let slots := Vector.ofFn fun i : SlotId => (s.slot i).restarted i s.now
  { s with
    trunk := s.trunk.restarted
    kindMap := defaultKindMap
    slots := slots
    profiles := defaultProfiles
    lanes := Vector.ofFn fun i : SlotId => (s.lane i).restarted
    arbiter := { defaultArbiter with reservationTotal := (allSlots.map fun i => slots[i].reservation).sum }
    nodes := Vector.replicate 4 (defaultNode s.now)
    rules := defaultRules
    classes := defaultClasses
    zones := defaultZones
    groups := Vector.replicate 4 none
    supply := { s.supply with
      debounceExpiry := resetDebounce s.now (sourceOf s.supply.line != s.supply.source)
      overCeiling := false }
    mgmt := defaultManagement }

/-- Step 4: QUERY is issued, with a fresh tag, on the lane of every PROBING slot, in ascending slot number (R181). -/
def State.sendQueries (s : State) : State :=
  s.forSlots allSlots fun i t => if (t.slot i).state = .probing then t.ask i .query else t

/-- The execution of a RESTART with the tag of the latest request (R181): the records, the QUERYs, the over-ceiling
test of step 6, and the answer of step 7. -/
def State.executeRestart (s : State) (tag : Byte) : State :=
  (s.restartRecords.sendQueries.overCeilingTest).done restartKind tag []

/-- The pending RESTART is executed if the trunk port's transmit direction stands between frames (R180). -/
def State.restartIfIdle (s : State) : State :=
  match s.trunk.restartPending with
  | some tag => if s.trunk.transmitting then s else s.executeRestart tag
  | none => s

/-- A RESTART becomes pending; a later one joins it with its own tag (R180). -/
def State.requestRestart (s : State) (tag : Byte) : State :=
  ({ s with trunk := { s.trunk with restartPending := some tag } }).restartIfIdle

end Sys2Proof.Machine
end

