-- ==== Sys2Proof/Machine/FrameCommands.lean ====
section
/-! DEFINITION. Machine/FrameCommands.lean: the meanings of the trunk frames that carry carrier requests, of an
unknown management kind, and of the transmitter's end of frame. -/

namespace Sys2Proof.Machine

/-- SLOT_REQUEST (R127): the checks of R120 and R123, then acceptance or refusal. The action is the kind map's, so a
frame whose kind is not governed takes the action its entry names (log 8). -/
def execSlotRequest (i : SlotId) (f : FrameBody) (s : State) : Host.Outcome State Fault Refusal :=
  .next (s.slotFrameEvent i f)

/-- PLAIN_FRAME (R62): the checks of R120, R123 and R124, then the lane (log 8). -/
def execPlainFrame (i : SlotId) (f : FrameBody) (s : State) : Host.Outcome State Fault Refusal :=
  .next (s.slotFrameEvent i f)

/-- BLOCKED_SLOT_FRAME (R123): the checks of R120 and R123, among which the BLOCK entry refuses (log 8). -/
def execBlockedSlotFrame (i : SlotId) (f : FrameBody) (s : State) : Host.Outcome State Fault Refusal :=
  .next (s.slotFrameEvent i f)

/-- GROUP_FRAME (R142): refused, or a record is opened and fanned out; one look after the last enqueue (R146). -/
def execGroupFrame (d : GroupDest) (f : FrameBody) (s : State) : Host.Outcome State Fault Refusal :=
  .next (s.withRoom fun t => concludeEvent t (t.takeGroupFrame d f))

/-- UNKNOWN_MANAGEMENT_KIND (R185): kinds 12 to 15 name no request; the answer's source is 31. -/
def execUnknownManagementKind (unknown : Fin 4) (tag : Byte) (s : State) : Host.Outcome State Fault Refusal :=
  .next (s.withRoom fun t => t.refuse (Config.firstUnknownKind + unknown.val) tag .malformed)

/-- ANSWER_SENT (R136): the frame in transmission leaves the queue; a pending RESTART is executed in this event
(R180), else waiting symbols are sent and the next frame is begun (R137). A frame placed in this instant may have been
begun and sent since; with no frame queued nothing has been sent (log 29). -/
def execAnswerSent (s : State) : Host.Outcome State Fault Refusal :=
  let b := s.startTransmission
  if b.trunk.transmitting then
    let t := b.headSent
    .next (match t.trunk.restartPending with
      | some tag => t.executeRestart tag
      | none => (t.sendSymbols.refreshFlow).startTransmission)
  else .next s

end Sys2Proof.Machine
end

