-- ==== Sys2Proof/Machine/LaneCommands.lean ====
section
/-! DEFINITION. Machine/LaneCommands.lean: the meanings of what arrives on the carrier lanes and of the op deadlines
(R56 to R60, R63, R65). -/

namespace Sys2Proof.Machine

/-- A completion's outcome as an op's end (R57). -/
def opEnd : CompletionOutcome → OpOutcome
  | .done => .done
  | .failed c => .failed c
  | .aborted => .aborted

/-- The plain answer's outcome and payload (R63). -/
def plainResult (o : OpOutcome) (payload : List Byte) : AnswerCode × List Byte :=
  match o with
  | .done => (.done, payload)
  | .failed c => (.failed, [c])
  | .aborted => (.failed, [0])
  | .timeout => (.timeout, [])

/-- A plain op is settled: its record becomes absent and it is answered on the trunk link (R63). -/
def State.settlePlain (s : State) (i : SlotId) (p : PlainRecord) (o : OpOutcome) (payload : List Byte) : State :=
  (s.modifyLane i fun r => { r with plain := none }).answerOwed
    ⟨byte i.val, byte p.kind.val, p.trunkTag, (plainResult o payload).1, (plainResult o payload).2⟩

/-- A governed record is settled by its role (R56, R59): only a SOLE op's outcome reaches the slot controller. -/
def State.settleGoverned (s : State) (i : SlotId) (g : GovernedRecord) (o : OpOutcome) (report : Option Byte) :
    State :=
  match g.role with
  | .sole => (s.modifyLane i LaneRecord.settleSole).takeOutcome i g.op o report
  | .first => s.modifyLane i fun r => r.settleFirst g o
  | .residual => s.modifyLane i fun r => r.settleResidual g o s.now (opDuration (s.profileOf i))

/-- A preempting record is settled and its outcome reaches the slot controller (R56, R59). -/
def State.settlePreempting (s : State) (i : SlotId) (p : PreemptingRecord) (o : OpOutcome) (report : Option Byte) :
    State :=
  (s.modifyLane i LaneRecord.settlePreempting).takeOutcome i p.op o report

/-- A late report is discarded and counted; its tag leaves the retired tags (R52, R58). -/
def State.lateReport (s : State) (i : SlotId) (tag : Byte) : State :=
  (s.modifyLane i fun r => { r with retired := r.retired.erase tag }).modifySlot i fun r =>
    { r with lateReports := countUp r.lateReports }

/-- The event of a completion on a lane (R56). -/
def State.takeCompletion (s : State) (i : SlotId) (tag : Byte) (o : CompletionOutcome) (payload : List Byte) : State :=
  match (s.lane i).find tag with
  | .governed g => s.settleGoverned i g (opEnd o) payload.head?
  | .preempting p => s.settlePreempting i p (opEnd o) payload.head?
  | .plain p => s.settlePlain i p (opEnd o) payload
  | .nothing => s.lateReport i tag

/-- COMPLETION (R56); a payload longer than 16 bytes fails the lane's check and is discarded (R49). -/
def execCompletion (lane : SlotId) (tag : Byte) (o : CompletionOutcome) (payload : List Byte) (s : State) :
    Host.Outcome State Fault Refusal :=
  if payload.length ≤ Config.payloadMax then .next (concludeEvent s (s.takeCompletion lane tag o payload)) else .next s

/-- A tag is retired on a lane (R52). -/
def State.retire (s : State) (i : SlotId) (tag : Byte) : State :=
  s.modifyLane i fun r => { r with retired := retireTag r.retired tag }

/-- The event of an op's deadline: TIMEOUT goes where a completion would go (R59). The TIMEOUT of a preempting op abandons
the first op of its pair, which was issued before it, so its own tag is retired last (R52). A deadline that has not been
reached, or whose op is gone, has nothing to act on (R60, log 4). -/
def State.takeDeadline (s : State) (i : SlotId) (tag : Byte) : State :=
  match (s.lane i).find tag with
  | .governed g => if g.deadline ≤ s.now then (s.retire i tag).settleGoverned i g .timeout none else s
  | .preempting p => if p.deadline ≤ s.now then (s.settlePreempting i p .timeout none).retire i tag else s
  | .plain p => if p.deadline ≤ s.now then (s.retire i tag).settlePlain i p .timeout [] else s
  | .nothing => s

/-- OP_DEADLINE_EXPIRY (R59). -/
def execOpDeadlineExpiry (lane : SlotId) (tag : Byte) (s : State) : Host.Outcome State Fault Refusal :=
  .next (concludeEvent s (s.takeDeadline lane tag))

/-- The self-park hold is started if its time is above 0 (R6). -/
def State.startSelfPark (s : State) (i : SlotId) : State :=
  if 0 < s.mgmt.timing.selfParkHold then
    s.modifySlot i fun r => { r with selfParkExpiry := some (s.now + s.mgmt.timing.selfParkHold * 100) }
  else s

/-- SELF_PARKED (R22): counted in every state; in LOADED the hold starts, SELF_PARK is set and the slot becomes
PARKED. -/
def execSelfParked (lane : SlotId) (s : State) : Host.Outcome State Fault Refusal :=
  let t := s.modifySlot lane fun r => { r with selfParks := countUp r.selfParks }
  if (s.slot lane).state = .loaded then
    .next (concludeEvent s (((t.startSelfPark lane).setFlag .selfPark).arrive lane .parked))
  else .next t

/-- CARRIER_FAULT (R24): in a powered state the slot enters FAULT; else the beacon is disregarded. -/
def execCarrierFault (lane : SlotId) (code : Byte) (s : State) : Host.Outcome State Fault Refusal :=
  if (s.slot lane).state.powered then .next (concludeEvent s (s.enterFault lane (.carrierFault code))) else .next s

end Sys2Proof.Machine
end

