-- ==== Sys2Proof/Machine/LineCommands.lean ====
section
/-! DEFINITION. Machine/LineCommands.lean: the meanings of the input lines' changes and of their debounce expiries
(R156, R157, R171 to R174). -/

namespace Sys2Proof.Machine

/-- The debounce expiry after a change of a line's level: started when the line comes to differ from the debounced
value, cancelled when it returns (R156, R171). -/
def debounceAfter (s : State) (differs : Bool) : Option Nat :=
  if differs then some (s.now + s.mgmt.timing.presenceDebounce * 10) else none

/-- SUPPLY_SOURCE_LINE_CHANGE (R156). A level that the line already has is no change. -/
def execSupplySourceLineChange (level : Level) (s : State) : Host.Outcome State Fault Refusal :=
  if s.supply.line = level then .next s
  else .next { s with supply := { s.supply with
    line := level, debounceExpiry := debounceAfter s (sourceOf level != s.supply.source) } }

/-- SOURCE_DEBOUNCE_EXPIRY (R156, R157): the source becomes the line's; a grant opportunity, then the over-ceiling
test. -/
def execSourceDebounceExpiry (s : State) : Host.Outcome State Fault Refusal :=
  if reached s.now s.supply.debounceExpiry then
    .next (({ s with supply := { s.supply with source := sourceOf s.supply.line, debounceExpiry := none } }).look
      |>.overCeilingTest)
  else .next s

/-- PRESENCE_INPUT_CHANGE (R171). A level that the input already has is no change. -/
def execPresenceInputChange (i : SlotId) (level : Level) (s : State) : Host.Outcome State Fault Refusal :=
  if (s.slot i).input = level then .next s
  else .next (s.modifySlot i fun r =>
    { r with input := level, debounceExpiry := debounceAfter s (seated level != r.present) })

/-- Presence gained (R173): EMPTY to STOPPED with standing target STOPPED. -/
def State.presenceGained (s : State) (i : SlotId) : State :=
  (s.modifySlot i fun r => { r with standing := .stopped }).arrive i .stopped

/-- Step 1 of R174: the lane's ops are abandoned and an outstanding plain op is answered GONE. -/
def State.laneGone (s : State) (i : SlotId) : State :=
  let t := s.modifyLane i LaneRecord.abandonAll
  match (s.lane i).plain with
  | some p => t.answerOwed ⟨byte i.val, byte p.kind.val, p.trunkTag, .gone, []⟩
  | none => t

/-- Presence lost (R174), step by step. -/
def State.presenceLost (s : State) (i : SlotId) : State :=
  let t := ((s.laneGone i).giveOutcome i .gone).dequeue i
  (t.enterState i .empty).modifySlot i fun r =>
    { r with drawKept := .running, shedMark := false, selfParkExpiry := none }

/-- PRESENCE_DEBOUNCE_EXPIRY (R171 to R174): the presence becomes the input's, PRESENCE_CHANGE is set, and the slot takes
the change. -/
def execPresenceDebounceExpiry (i : SlotId) (s : State) : Host.Outcome State Fault Refusal :=
  if reached s.now (s.slot i).debounceExpiry then
    let t := (s.modifySlot i fun r => { r with present := seated r.input, debounceExpiry := none }).setFlag .presenceChange
    .next (concludeEvent s (if seated (s.slot i).input then t.presenceGained i else t.presenceLost i))
  else .next s

end Sys2Proof.Machine
end

