-- ==== Sys2Proof/Machine/ManagementCommands.lean ====
section
/-! DEFINITION. Machine/ManagementCommands.lean: the meanings of the reads, of SET_MODE, of the slot and event requests
and of RESTART (chapter 11, R180). -/

namespace Sys2Proof.Machine

/-- SLOT_READ (R193). -/
def execSlotRead (tag : Byte) (payload : List Byte) (s : State) : Host.Outcome State Fault Refusal :=
  .next (s.manage 2 tag payload fun t =>
    match payload with
    | [slot, part] => t.indexed 2 tag 24 slot fun i => t.done 2 tag (t.slotReadPayload i part.toNat)
    | _ => t.refuse 2 tag .malformed)

/-- NODE_READ (R97). -/
def execNodeRead (tag : Byte) (payload : List Byte) (s : State) : Host.Outcome State Fault Refusal :=
  .next (s.manage 3 tag payload fun t =>
    match payload with
    | [node] => t.indexed 3 tag 4 node fun n => t.done 3 tag (t.nodeReadPayload n)
    | _ => t.refuse 3 tag .malformed)

/-- STATUS_READ (R194). -/
def execStatusRead (tag : Byte) (payload : List Byte) (s : State) : Host.Outcome State Fault Refusal :=
  .next (s.manage 4 tag payload fun t =>
    match payload with
    | [part] => t.done 4 tag (t.statusReadPayload part.toNat)
    | _ => t.refuse 4 tag .malformed)

/-- The mode is written. -/
def State.setMode (s : State) (m : Mode) : State := { s with mgmt := { s.mgmt with mode := m } }

/-- The mode becoming RUN enqueues, in ascending slot number, the STOPPED slots whose effective target is above STOPPED;
the arbiter then takes one grant opportunity (R25, R190). -/
def State.enterRun (s : State) : State :=
  testIfChanged s ((s.setMode .run).forSlots allSlots fun i t =>
    if (t.slot i).state = .stopped then t.proceed i false else t).look

/-- SET_MODE_RUN (R190): always accepted; to the mode in force nothing changes. -/
def execSetModeRun (tag : Byte) (s : State) : Host.Outcome State Fault Refusal :=
  .next (s.manage 5 tag [byte Mode.run.code] fun t =>
    match t.mgmt.mode with
    | .run => t.done 5 tag [byte Mode.run.code]
    | .config => t.enterRun.done 5 tag [byte Mode.run.code])

/-- Every slot is EMPTY, STOPPED or FAULT and no group record is open (R190). -/
def State.quiet (s : State) : Bool :=
  (allSlots.all fun i => (s.slot i).state.atRest) && (List.finRange 4).all fun g => (s.group g).isNone

/-- SET_MODE_CONFIG (R190): refused IN_USE unless the gateway is quiet; to the mode in force nothing changes. -/
def execSetModeConfig (tag : Byte) (s : State) : Host.Outcome State Fault Refusal :=
  .next (s.manage 5 tag [byte Mode.config.code] fun t =>
    match t.mgmt.mode with
    | .config => t.done 5 tag [byte Mode.config.code]
    | .run => if t.quiet then (t.setMode .config).done 5 tag [byte Mode.config.code] else t.refuse 5 tag .inUse)

/-- CLEAR_FAULT (R27, R192): answered DONE with the slot's state after the request. -/
def execClearFault (tag : Byte) (payload : List Byte) (s : State) : Host.Outcome State Fault Refusal :=
  .next (s.manage 6 tag payload fun t =>
    match payload with
    | [slot] => t.indexed 6 tag 24 slot fun i =>
        let u := concludeEvent t (t.clearFaultOf i)
        u.done 6 tag [byte (u.slot i).state.code]
    | _ => t.refuse 6 tag .malformed)

/-- WITHDRAW (R176, R177, R192): answered DONE after any answer it produces. -/
def execWithdraw (tag : Byte) (payload : List Byte) (s : State) : Host.Outcome State Fault Refusal :=
  .next (s.manage 7 tag payload fun t =>
    match payload with
    | [slot] => t.indexed 7 tag 24 slot fun i => (concludeEvent t (t.withdrawSlot i)).done 7 tag []
    | _ => t.refuse 7 tag .malformed)

/-- RESTORE (R178, R192). -/
def execRestore (tag : Byte) (payload : List Byte) (s : State) : Host.Outcome State Fault Refusal :=
  .next (s.manage 8 tag payload fun t =>
    match payload with
    | [slot] => t.indexed 8 tag 24 slot fun i => (concludeEvent t (t.restoreSlot i)).done 8 tag []
    | _ => t.refuse 8 tag .malformed)

/-- The payload of ACK_EVENTS and SET_ENABLES: the six flags and the six enables as they stand (R196). -/
def State.eventBytes (s : State) : List Byte := [s.mgmt.flags.toByte, s.mgmt.enables.toByte]

/-- ACK_EVENTS (R196): each flag named is made no. -/
def execAckEvents (tag : Byte) (payload : List Byte) (s : State) : Host.Outcome State Fault Refusal :=
  .next (s.manage 9 tag payload fun t =>
    match payload with
    | [named] =>
      let u := t.setEvents (t.mgmt.flags.without (.ofByte named)) t.mgmt.enables
      u.done 9 tag u.eventBytes
    | _ => t.refuse 9 tag .malformed)

/-- SET_ENABLES (R196): each of the six enables takes the value given. -/
def execSetEnables (tag : Byte) (payload : List Byte) (s : State) : Host.Outcome State Fault Refusal :=
  .next (s.manage 10 tag payload fun t =>
    match payload with
    | [wanted] =>
      let u := t.setEvents t.mgmt.flags (.ofByte wanted)
      u.done 10 tag u.eventBytes
    | _ => t.refuse 10 tag .malformed)

/-- RESTART (R180): pending from its arrival, and executed in it if no frame is in transmission. It is taken even while
no free entry remains (R137); with a payload it is not RESTART but a malformed frame (R185). -/
def execRestart (tag : Byte) (payload : List Byte) (s : State) : Host.Outcome State Fault Refusal :=
  if managementMalformed restartKind payload then .next (s.withRoom fun t => t.refuse restartKind tag .malformed)
  else .next (s.requestRestart tag)

/-- RESTART_EXECUTION (R181): a pending RESTART is executed when the transmit direction stands between frames; else it
is not yet its event, and nothing changes (log 10). -/
def execRestartExecution (s : State) : Host.Outcome State Fault Refusal := .next s.restartIfIdle

/-- POWER_ON_RESET (R179): every block takes its power-on values over the present pin levels. The commands that wait
outside the gateway wait on. -/
def execPowerOnReset (s : State) : Host.Outcome State Fault Refusal :=
  .next { State.powerOn (Vector.ofFn fun i : SlotId => (s.slot i).input) s.supply.line with pending := s.pending }

end Sys2Proof.Machine
end

