-- ==== Sys2Proof/Machine/TableCommands.lean ====
section
/-! DEFINITION. Machine/TableCommands.lean: the meanings of TABLE_READ and of the ten TABLE_WRITEs (chapter 11, R188). -/

namespace Sys2Proof.Machine

/-- TABLE_READ (R187): the entry as it stands, with the state fields of rules and classes. -/
def execTableRead (tag : Byte) (payload : List Byte) (s : State) : Host.Outcome State Fault Refusal :=
  .next (s.manage 0 tag payload fun t =>
    match payload with
    | [code, index] => match tableOf code.toNat with
      | some tb => if index.toNat < tb.entries then t.done 0 tag (t.tablePayload tb index)
          else t.refuse 0 tag .badIndex
      | none => t.refuse 0 tag .malformed
    | _ => t.refuse 0 tag .malformed)

/-- KIND_MAP_WRITE (R122). -/
def execKindMapWrite (tag index : Byte) (entry : List Byte) (s : State) : Host.Outcome State Fault Refusal :=
  .next (s.tableWrite .kindMap tag index entry fun t =>
    match indexBelow 16 index.toNat with
    | some i => t.writeKindMap i entry
    | none => .refused .badIndex)

/-- PRIORITY_MAP_WRITE (R30). -/
def execPriorityMapWrite (tag index : Byte) (entry : List Byte) (s : State) : Host.Outcome State Fault Refusal :=
  .next (s.tableWrite .priorityMap tag index entry fun t => t.writePriorityMap index.toNat entry)

/-- DRAW_PROFILE_WRITE (R10). -/
def execDrawProfileWrite (tag index : Byte) (entry : List Byte) (s : State) : Host.Outcome State Fault Refusal :=
  .next (s.tableWrite .drawProfiles tag index entry fun t =>
    match indexBelow 8 index.toNat with
    | some k => t.writeProfile k entry
    | none => .refused .badIndex)

/-- SLOT_CONFIGURATION_WRITE (R2). -/
def execSlotConfigurationWrite (tag index : Byte) (entry : List Byte) (s : State) :
    Host.Outcome State Fault Refusal :=
  .next (s.tableWrite .slotConfiguration tag index entry fun t =>
    match indexBelow 24 index.toNat with
    | some i => t.writeSlot i entry
    | none => .refused .badIndex)

/-- CEILINGS_WRITE (R36). -/
def execCeilingsWrite (tag index : Byte) (entry : List Byte) (s : State) : Host.Outcome State Fault Refusal :=
  .next (s.tableWrite .ceilings tag index entry fun t => t.writeCeilings entry)

/-- STAGGER_WRITE (R38). -/
def execStaggerWrite (tag index : Byte) (entry : List Byte) (s : State) : Host.Outcome State Fault Refusal :=
  .next (s.tableWrite .stagger tag index entry fun t => t.writeStagger entry)

/-- NODE_CONFIGURATION_WRITE (R94). -/
def execNodeConfigurationWrite (tag index : Byte) (entry : List Byte) (s : State) :
    Host.Outcome State Fault Refusal :=
  .next (s.tableWrite .nodeConfiguration tag index entry fun t =>
    match indexBelow 4 index.toNat with
    | some n => t.writeNode n entry
    | none => .refused .badIndex)

/-- MOTION_RULE_WRITE (R99). -/
def execMotionRuleWrite (tag index : Byte) (entry : List Byte) (s : State) : Host.Outcome State Fault Refusal :=
  .next (s.tableWrite .motionRules tag index entry fun t =>
    match indexBelow 16 index.toNat with
    | some k => t.writeRule k entry
    | none => .refused .badIndex)

/-- CLASS_WRITE (R116). -/
def execClassWrite (tag index : Byte) (entry : List Byte) (s : State) : Host.Outcome State Fault Refusal :=
  .next (s.tableWrite .classes tag index entry fun t =>
    match indexBelow 8 index.toNat with
    | some c => t.writeClass c entry
    | none => .refused .badIndex)

/-- TIMING_WRITE (R186). -/
def execTimingWrite (tag index : Byte) (entry : List Byte) (s : State) : Host.Outcome State Fault Refusal :=
  .next (s.tableWrite .timing tag index entry fun t => t.writeTiming entry)

end Sys2Proof.Machine
end

