-- ==== Sys2Proof/Machine/TimerCommands.lean ====
section
/-! DEFINITION. Machine/TimerCommands.lean: the meanings of the expiries of slots, of the stagger timer, of nodes and of
classes, and of a sensor sample (R6, R38, R87, R91, R107, R130). An expiry that is absent or lies in the future has
nothing to act on (log 4). -/

namespace Sys2Proof.Machine

/-- SELF_PARK_HOLD_EXPIRY (R6). -/
def execSelfParkHoldExpiry (i : SlotId) (s : State) : Host.Outcome State Fault Refusal :=
  if reached s.now (s.slot i).selfParkExpiry then
    .next (concludeEvent s ((s.modifySlot i fun r => { r with selfParkExpiry := none }).proceed i false))
  else .next s

/-- The wait deadline of the active request becomes absent (R130). -/
def SlotRecord.withoutDeadline (r : SlotRecord) : SlotRecord :=
  { r with active := r.active.map fun a => { a with waitDeadline := none } }

/-- WAIT_DEADLINE (R130, R131): takes effect in a waiting position, else the request goes on without a deadline. -/
def execWaitDeadline (i : SlotId) (s : State) : Host.Outcome State Fault Refusal :=
  match (s.slot i).active with
  | none => .next s
  | some a =>
    if reached s.now a.waitDeadline then
      if s.waiting i a then .next (concludeEvent s (s.waitExpired i))
      else .next (s.modifySlot i SlotRecord.withoutDeadline)
    else .next s

/-- STAGGER_TIMER_EXPIRY (R38): the expiry becomes absent, and this is a grant opportunity. -/
def execStaggerTimerExpiry (s : State) : Host.Outcome State Fault Refusal :=
  if reached s.now s.arbiter.staggerExpiry then
    .next (testIfChanged s ({ s with arbiter := { s.arbiter with staggerExpiry := none } }).look)
  else .next s

/-- SAMPLE (R68, R85, R87); the axes are two's complement (R198). -/
def execSample (lane : NodeId) (node sequence : Byte) (x y z : Word16) (s : State) : Host.Outcome State Fault Refusal :=
  .next (concludeEvent s (s.takeSample lane node sequence x.toInt y.toInt z.toInt))

/-- SILENCE_TIMER_EXPIRY (R91): in LIVE or RECOVERING the node becomes SILENT. -/
def execSilenceTimerExpiry (n : NodeId) (s : State) : Host.Outcome State Fault Refusal :=
  if reached s.now (s.node n).silenceExpiry then .next (concludeEvent s (s.silence n)) else .next s

/-- CLASS_EXPIRY (R107): the class clears, or with blind holders waits on them with no expiry. -/
def execClassExpiry (c : ClassId) (s : State) : Host.Outcome State Fault Refusal :=
  if (s.cls c).active && reached s.now (s.cls c).expiry then
    if Set4.isEmpty (s.cls c).holders then .next (concludeEvent s (s.clear c))
    else .next (s.modifyClass c fun r => { r with expiry := none })
  else .next s

end Sys2Proof.Machine
end

