-- ==== Sys2Proof/Machine/WholeFrames.lean ====
section
/-! DEFINITION. Machine/WholeFrames.lean: the meaning of MALFORMED_FRAME, the one command that carries a trunk frame
whole, with every destination and kind byte (R120, R123, R142, R185). -/

namespace Sys2Proof.Machine

/-- A TABLE_WRITE frame, by its table (R188). -/
def runTableWrite (t : Table) (tag index : Byte) (entry : List Byte) (s : State) : Host.Outcome State Fault Refusal :=
  match t with
  | .kindMap => execKindMapWrite tag index entry s
  | .priorityMap => execPriorityMapWrite tag index entry s
  | .drawProfiles => execDrawProfileWrite tag index entry s
  | .slotConfiguration => execSlotConfigurationWrite tag index entry s
  | .ceilings => execCeilingsWrite tag index entry s
  | .stagger => execStaggerWrite tag index entry s
  | .nodeConfiguration => execNodeConfigurationWrite tag index entry s
  | .motionRules => execMotionRuleWrite tag index entry s
  | .classes => execClassWrite tag index entry s
  | .timing => execTimingWrite tag index entry s

/-- A management frame of a kind and payload that name no request or not the request's form (R185, steps 1 and 2). -/
def refuseManagement (kind tag : Byte) (s : State) : Host.Outcome State Fault Refusal :=
  .next (s.withRoom fun t => t.refuse kind.toNat tag .malformed)

/-- A management frame, by its kind (R185, R200). -/
def runManagement (kind tag : Byte) (payload : List Byte) (s : State) : Host.Outcome State Fault Refusal :=
  match kind.toNat, payload with
  | 0, p => execTableRead tag p s
  | 1, table :: index :: entry => match tableOf table.toNat with
    | some t => runTableWrite t tag index entry s
    | none => refuseManagement kind tag s
  | 2, p => execSlotRead tag p s
  | 3, p => execNodeRead tag p s
  | 4, p => execStatusRead tag p s
  | 5, [mode] => match mode.toNat with
    | 0 => execSetModeConfig tag s
    | 1 => execSetModeRun tag s
    | _ => refuseManagement kind tag s
  | 6, p => execClearFault tag p s
  | 7, p => execWithdraw tag p s
  | 8, p => execRestore tag p s
  | 9, p => execAckEvents tag p s
  | 10, p => execSetEnables tag p s
  | 11, p => execRestart tag p s
  | _, _ => refuseManagement kind tag s

/-- MALFORMED_FRAME (R120): answered MALFORMED with its destination, kind and tag as received. A frame in which nothing
is refused has the effect its destination and kind give it (log 9). -/
def execMalformedFrame (f : TrunkFrame) (s : State) : Host.Outcome State Fault Refusal :=
  if f.malformed then .next (s.withRoom fun t => t.answer (frameAnswer f.destination f.body .malformed))
  else match indexBelow 24 f.destination.toNat with
    | some i => .next (s.slotFrameEvent i f.body)
    | none => match indexBelow 4 (f.destination.toNat - 24) with
      | some z => execGroupFrame (.zone z) f.body s
      | none =>
        if f.destination.toNat = Config.allAddress then execGroupFrame .all f.body s
        else runManagement f.body.kind f.body.tag f.body.payload s

end Sys2Proof.Machine
end

