-- ==== Sys2Proof/Machine/Dispatch.lean ====
section
/-! DEFINITION. Machine/Dispatch.lean: one arm per command. -/

namespace Sys2Proof.Machine

/-- The effect of a command on everything but the queue of waiting commands. -/
def exec (i : Instr) (s : State) : Host.Outcome State Fault Refusal :=
  match i with
  | .powerOnReset => Sys2Proof.Machine.execPowerOnReset s
  | .slotRequest slot frame => Sys2Proof.Machine.execSlotRequest slot frame s
  | .plainFrame slot frame => Sys2Proof.Machine.execPlainFrame slot frame s
  | .groupFrame dest frame => Sys2Proof.Machine.execGroupFrame dest frame s
  | .answerSent => Sys2Proof.Machine.execAnswerSent s
  | .tableRead tag payload => Sys2Proof.Machine.execTableRead tag payload s
  | .kindMapWrite tag index entry => Sys2Proof.Machine.execKindMapWrite tag index entry s
  | .priorityMapWrite tag index entry => Sys2Proof.Machine.execPriorityMapWrite tag index entry s
  | .drawProfileWrite tag index entry => Sys2Proof.Machine.execDrawProfileWrite tag index entry s
  | .slotConfigurationWrite tag index entry => Sys2Proof.Machine.execSlotConfigurationWrite tag index entry s
  | .ceilingsWrite tag index entry => Sys2Proof.Machine.execCeilingsWrite tag index entry s
  | .staggerWrite tag index entry => Sys2Proof.Machine.execStaggerWrite tag index entry s
  | .nodeConfigurationWrite tag index entry => Sys2Proof.Machine.execNodeConfigurationWrite tag index entry s
  | .motionRuleWrite tag index entry => Sys2Proof.Machine.execMotionRuleWrite tag index entry s
  | .classWrite tag index entry => Sys2Proof.Machine.execClassWrite tag index entry s
  | .timingWrite tag index entry => Sys2Proof.Machine.execTimingWrite tag index entry s
  | .slotRead tag payload => Sys2Proof.Machine.execSlotRead tag payload s
  | .nodeRead tag payload => Sys2Proof.Machine.execNodeRead tag payload s
  | .statusRead tag payload => Sys2Proof.Machine.execStatusRead tag payload s
  | .setModeRun tag => Sys2Proof.Machine.execSetModeRun tag s
  | .setModeConfig tag => Sys2Proof.Machine.execSetModeConfig tag s
  | .clearFault tag payload => Sys2Proof.Machine.execClearFault tag payload s
  | .withdraw tag payload => Sys2Proof.Machine.execWithdraw tag payload s
  | .restore tag payload => Sys2Proof.Machine.execRestore tag payload s
  | .ackEvents tag payload => Sys2Proof.Machine.execAckEvents tag payload s
  | .setEnables tag payload => Sys2Proof.Machine.execSetEnables tag payload s
  | .restart tag payload => Sys2Proof.Machine.execRestart tag payload s
  | .restartExecution => Sys2Proof.Machine.execRestartExecution s
  | .supplySourceLineChange level => Sys2Proof.Machine.execSupplySourceLineChange level s
  | .sourceDebounceExpiry => Sys2Proof.Machine.execSourceDebounceExpiry s
  | .presenceInputChange slot level => Sys2Proof.Machine.execPresenceInputChange slot level s
  | .presenceDebounceExpiry slot => Sys2Proof.Machine.execPresenceDebounceExpiry slot s
  | .completion lane tag outcome payload => Sys2Proof.Machine.execCompletion lane tag outcome payload s
  | .selfParked lane => Sys2Proof.Machine.execSelfParked lane s
  | .carrierFault lane code => Sys2Proof.Machine.execCarrierFault lane code s
  | .opDeadlineExpiry lane tag => Sys2Proof.Machine.execOpDeadlineExpiry lane tag s
  | .selfParkHoldExpiry slot => Sys2Proof.Machine.execSelfParkHoldExpiry slot s
  | .waitDeadline slot => Sys2Proof.Machine.execWaitDeadline slot s
  | .staggerTimerExpiry => Sys2Proof.Machine.execStaggerTimerExpiry s
  | .sample lane node sequence x y z => Sys2Proof.Machine.execSample lane node sequence x y z s
  | .silenceTimerExpiry node => Sys2Proof.Machine.execSilenceTimerExpiry node s
  | .classExpiry cls => Sys2Proof.Machine.execClassExpiry cls s
  | .malformedFrame frame => Sys2Proof.Machine.execMalformedFrame frame s
  | .blockedSlotFrame slot frame => Sys2Proof.Machine.execBlockedSlotFrame slot frame s
  | .unknownManagementKind unknown tag => Sys2Proof.Machine.execUnknownManagementKind unknown tag s

end Sys2Proof.Machine
end

