-- ==== Sys2Proof/Machine/Time.lean ====
section
/-! DEFINITION. Machine/Time.lean: the 1 ms time base (scope section 3): which expiries are due, and the tick. No row of
the opcode table stands for a tick: it is what a step does while no command waits (DESIGN CHOICE, log 2). -/

namespace Sys2Proof.Machine

/-- A list of one command, or none. -/
def dueIf (due : Bool) (c : Instr) : List Instr := if due then [c] else []

/-- The expiries of slot `i` and its lane that the time base has reached (R6, R59, R130, R171). -/
def State.dueOfSlot (s : State) (i : SlotId) : List Instr :=
  let r := s.slot i
  let l := s.lane i
  dueIf (reached s.now r.debounceExpiry) (.presenceDebounceExpiry i)
    ++ (l.governed.toList.flatMap fun g => dueIf (decide (g.deadline ≤ s.now)) (.opDeadlineExpiry i g.tag))
    ++ (l.preempting.toList.flatMap fun p => dueIf (decide (p.deadline ≤ s.now)) (.opDeadlineExpiry i p.tag))
    ++ (l.plain.toList.flatMap fun p => dueIf (decide (p.deadline ≤ s.now)) (.opDeadlineExpiry i p.tag))
    ++ dueIf (reached s.now r.selfParkExpiry) (.selfParkHoldExpiry i)
    ++ dueIf (r.active.any fun a => reached s.now a.waitDeadline) (.waitDeadline i)

/-- Every expiry that the time base has reached (with R38, R91, R107, R156). -/
def State.due (s : State) : List Instr :=
  allSlots.flatMap s.dueOfSlot
    ++ dueIf (reached s.now s.supply.debounceExpiry) .sourceDebounceExpiry
    ++ dueIf (reached s.now s.arbiter.staggerExpiry) .staggerTimerExpiry
    ++ ((List.finRange 4).flatMap fun n => dueIf (reached s.now (s.node n).silenceExpiry) (.silenceTimerExpiry n))
    ++ (List.finRange 8).flatMap fun c => dueIf ((s.cls c).active && reached s.now (s.cls c).expiry) (.classExpiry c)

/-- Insert a command into a list in ascending rank. -/
def insertByRank (rank : Instr → Nat) (c : Instr) : List Instr → List Instr
  | [] => [c]
  | d :: ds => if rank c ≤ rank d then c :: d :: ds else d :: insertByRank rank c ds

/-- The commands in ascending rank. -/
def sortByRank (rank : Instr → Nat) : List Instr → List Instr
  | [] => []
  | c :: cs => insertByRank rank c (sortByRank rank cs)

/-- One millisecond passes: an idle transmitter begins the frame that waits at the head (log 21), and the expiries then
reached wait as commands, in an order that nothing fixes (log 3). -/
def State.tick (s : State) : State :=
  let t := ({ s with now := s.now + 1 } : State).startTransmission
  { t with pending := sortByRank (Config.sameInstantRank t.now) t.due }

end Sys2Proof.Machine
end

