-- ==== Sys2Proof/Machine/Link.lean ====
section
/-! DEFINITION. Machine/Link.lean: from the frames and bytes of the connections to the commands they are (R120, R123,
R142, R185, R198, R199): what the sender of commands does with bytes. -/

namespace Sys2Proof.Machine

/-- The row of a slot frame, by the kind map's entry for its kind (R123). -/
def State.slotCommand (s : State) (i : SlotId) (f : FrameBody) : Instr :=
  match indexBelow 16 f.kind.toNat with
  | none => .slotRequest i f
  | some k => match s.kindMap[k] with
    | .block => .blockedSlotFrame i f
    | .forward => .plainFrame i f
    | .forwardIfClear => .plainFrame i f
    | .stopped => .slotRequest i f
    | .atLeastParked => .slotRequest i f
    | .atMostParked => .slotRequest i f
    | .loaded => .slotRequest i f

/-- The row of a TABLE_WRITE, by its table code (R200). -/
def writeCommand (tag index : Byte) (entry : List Byte) : Table → Instr
  | .kindMap => .kindMapWrite tag index entry
  | .priorityMap => .priorityMapWrite tag index entry
  | .drawProfiles => .drawProfileWrite tag index entry
  | .slotConfiguration => .slotConfigurationWrite tag index entry
  | .ceilings => .ceilingsWrite tag index entry
  | .stagger => .staggerWrite tag index entry
  | .nodeConfiguration => .nodeConfigurationWrite tag index entry
  | .motionRules => .motionRuleWrite tag index entry
  | .classes => .classWrite tag index entry
  | .timing => .timingWrite tag index entry

/-- The row of a GATEWAY frame, by its kind (R200); none where R185 refuses its payload, which makes it a
MALFORMED_FRAME (log 9). -/
def manageCommand (kind tag : Byte) (payload : List Byte) : Option Instr :=
  match kind.toNat, payload with
  | 0, p => some (.tableRead tag p)
  | 1, table :: index :: entry => (tableOf table.toNat).map (writeCommand tag index entry)
  | 2, p => some (.slotRead tag p)
  | 3, p => some (.nodeRead tag p)
  | 4, p => some (.statusRead tag p)
  | 5, [mode] => match mode.toNat with
    | 0 => some (.setModeConfig tag)
    | 1 => some (.setModeRun tag)
    | _ => none
  | 6, p => some (.clearFault tag p)
  | 7, p => some (.withdraw tag p)
  | 8, p => some (.restore tag p)
  | 9, p => some (.ackEvents tag p)
  | 10, p => some (.setEnables tag p)
  | 11, p => some (.restart tag p)
  | 12, _ => some (.unknownManagementKind 0 tag)
  | 13, _ => some (.unknownManagementKind 1 tag)
  | 14, _ => some (.unknownManagementKind 2 tag)
  | 15, _ => some (.unknownManagementKind 3 tag)
  | _, _ => none

/-- The command that a checked trunk frame is (R120). -/
def State.trunkCommand (s : State) (f : TrunkFrame) : Instr :=
  if f.malformed then .malformedFrame f
  else match indexBelow 24 f.destination.toNat with
    | some i => s.slotCommand i f.body
    | none =>
      match indexBelow 4 (f.destination.toNat - 24) with
      | some z => .groupFrame (.zone z) f.body
      | none =>
        if f.destination.toNat = Config.allAddress then .groupFrame .all f.body
        else (manageCommand f.body.kind f.body.tag f.body.payload).getD (.malformedFrame f)

/-- The trunk frames in a run of received bytes: those that pass the CRC and the length check (R120, R198). -/
def trunkFrames (bytes : List Byte) : List TrunkFrame := (receivedBodies .idle bytes).filterMap trunkFrameOf

/-- The commands in a run of bytes received on a carrier lane (R49, R199). -/
def laneCommands (lane : SlotId) (bytes : List Byte) : List Instr :=
  (receivedBodies .idle bytes).filterMap (laneCommandOf lane)

/-- The commands in a run of bytes received on a sensor lane (R68, R199). -/
def sampleCommands (lane : NodeId) (bytes : List Byte) : List Instr :=
  (receivedBodies .idle bytes).filterMap (sampleCommandOf lane)

end Sys2Proof.Machine
end

