-- ==== Sys2Proof/WellFormed.lean ====
section
/-! DEFINITION. WellFormed.lean: which operands a command of each row can carry. The gateway's own checks do not
lean on it: a command outside it is still taken by the checks of R49, R120 and R185. -/

namespace Sys2Proof

/-- The checked values of R120's field table: a frame body in which nothing is refused. -/
def FrameBody.wf (f : FrameBody) : Bool :=
  decide (f.kind.toNat ≤ 15) && decide (f.priority.toNat ≤ 7) && decide (f.payload.length ≤ Config.payloadMax)

/-- A management payload that R120 takes. -/
def payloadWf (p : List Byte) : Bool := decide (p.length ≤ Config.payloadMax)

/-- A TABLE_WRITE entry whose payload (table code, index, entry) R120 takes. -/
def entryWf (e : List Byte) : Bool := decide (e.length + 2 ≤ Config.payloadMax)

/-- The operands a command of the row can carry. -/
def Instr.wf : Instr → Bool
  | .powerOnReset => true
  | .slotRequest _ f => f.wf
  | .plainFrame _ f => f.wf
  | .groupFrame _ f => f.wf
  | .answerSent => true
  | .tableRead _ p => payloadWf p
  | .kindMapWrite _ _ e => entryWf e
  | .priorityMapWrite _ _ e => entryWf e
  | .drawProfileWrite _ _ e => entryWf e
  | .slotConfigurationWrite _ _ e => entryWf e
  | .ceilingsWrite _ _ e => entryWf e
  | .staggerWrite _ _ e => entryWf e
  | .nodeConfigurationWrite _ _ e => entryWf e
  | .motionRuleWrite _ _ e => entryWf e
  | .classWrite _ _ e => entryWf e
  | .timingWrite _ _ e => entryWf e
  | .slotRead _ p => payloadWf p
  | .nodeRead _ p => payloadWf p
  | .statusRead _ p => payloadWf p
  | .setModeRun _ => true
  | .setModeConfig _ => true
  | .clearFault _ p => payloadWf p
  | .withdraw _ p => payloadWf p
  | .restore _ p => payloadWf p
  | .ackEvents _ p => payloadWf p
  | .setEnables _ p => payloadWf p
  | .restart _ p => payloadWf p
  | .restartExecution => true
  | .supplySourceLineChange _ => true
  | .sourceDebounceExpiry => true
  | .presenceInputChange _ _ => true
  | .presenceDebounceExpiry _ => true
  | .completion _ _ _ p => payloadWf p
  | .selfParked _ => true
  | .carrierFault _ _ => true
  | .opDeadlineExpiry _ _ => true
  | .selfParkHoldExpiry _ => true
  | .waitDeadline _ => true
  | .staggerTimerExpiry => true
  | .sample _ _ _ _ _ _ => true
  | .silenceTimerExpiry _ => true
  | .classExpiry _ => true
  | .malformedFrame f => f.malformed
  | .blockedSlotFrame _ f => f.wf
  | .unknownManagementKind _ _ => true

end Sys2Proof
end

