-- ==== Sys2Proof/Safety.lean ====
section
/-! DEFINITION. Safety.lean: what holds of the gateway between events, block by block, in the terms the statements use.
Each is kept by every step from any state that has it, not only from reset. -/

namespace Sys2Proof.Machine

/-! ### Slots and the budget account (R9, R10, R29, R37, R171) -/

/-- How often slot `i` stands in the four spin queues. -/
def State.entriesOf (s : State) (i : SlotId) : Nat := s.examined.countP fun e => decide (e.slot = i)

/-- What holds of one slot's record. -/
structure SlotKept (s : State) (i : SlotId) : Prop where
  /-- a slot is EMPTY exactly while no carrier is present (R9) -/
  presence : (s.slot i).present = true ↔ (s.slot i).state ≠ .empty
  /-- the switch is on exactly in the powered states (R10) -/
  switch : (s.slot i).powerSwitch = (s.slot i).state.powered
  /-- the reservation is the one the state gives (R10) -/
  reservation : (s.slot i).reservation = reservationIn (s.profileOf i) (s.slot i).drawKept (s.slot i).state
  /-- a debounce runs exactly while the input differs from the presence (R171) -/
  debounce : (s.slot i).debounceExpiry.isSome = true ↔ seated (s.slot i).input ≠ (s.slot i).present
  /-- the slot has one queue entry while QUEUED and none otherwise (R29) -/
  queued : s.entriesOf i = if (s.slot i).state = .queued then 1 else 0
  /-- no request is active where there is no carrier or a fault (R4, R26, R174) -/
  active : (s.slot i).active.isSome = true → (s.slot i).state ≠ .empty ∧ (s.slot i).state ≠ .fault

/-- Every slot record is kept, and the reservation total is the sum of the 24 reservations (R37). -/
structure AccountKept (s : State) : Prop where
  slots : ∀ i, SlotKept s i
  total : s.arbiter.reservationTotal = (allSlots.map fun i => (s.slot i).reservation).sum

/-- Heads are on the media, or on their way there, only where every cap allows LOADED (R12, R18). -/
def HeadsAllowed (s : State) : Prop :=
  ∀ i, (s.slot i).state = .loading ∨ (s.slot i).state = .loaded → s.effectiveTarget i = .loaded

/-- A slot waits in a spin queue only for an effective target above STOPPED, and in RUN a slot rests in STOPPED only at an
effective target of STOPPED (R13, R16, R25). -/
def TargetsServed (s : State) : Prop :=
  ∀ i, ((s.slot i).state = .queued → s.effectiveTarget i ≠ .stopped) ∧
    (s.mgmt.mode = .run → (s.slot i).state = .stopped → s.effectiveTarget i = .stopped)

/-! ### Lanes (R50 to R53, R55) -/

/-- The op a slot's state waits on (section 1.2). -/
def SlotState.waitsOn : SlotState → Option GovernedOp
  | .spinningUp => some .spin
  | .loading => some .load
  | .unloading => some .unload
  | .spinningDown => some .stop
  | .probing => some .query
  | .empty => none
  | .stopped => none
  | .queued => none
  | .parked => none
  | .loaded => none
  | .fault => none

/-- The op last asked of a lane and not yet settled: held, preempting, or SOLE. -/
def LaneRecord.awaited (r : LaneRecord) : Option GovernedOp :=
  match r.held, r.preempting, r.governed with
  | some op, _, _ => some op
  | none, some p, _ => some p.op
  | none, none, some g => if g.role = .sole then some g.op else none
  | none, none, none => none

/-- The governed side of a lane record stands in one of the positions of R53 and R55. -/
def LaneRecord.position (r : LaneRecord) : Prop :=
  match r.governed with
  | none => r.preempting = none ∧ r.held = none
  | some g => match g.role with
    | .sole => r.preempting = none ∧ r.held = none
    | .first => r.held = none ∧ ∃ p, r.preempting = some p ∧ preempts g.op p.op = true
    | .residual => r.preempting = none ∧ (g.op = .load ∨ g.op = .spin)

/-- What holds of one lane. -/
structure LaneKept (s : State) (i : SlotId) : Prop where
  /-- at most two governed ops, and two only as a preempting pair (R53) -/
  position : (s.lane i).position
  /-- the tags of outstanding ops are distinct (R51) -/
  distinct : (s.lane i).outstanding.Nodup
  /-- no outstanding op has a retired tag (R51) -/
  fresh : ∀ t ∈ (s.lane i).outstanding, t ∉ (s.lane i).retired
  /-- the retired tags are at most eight, without duplicates (R50) -/
  retired : (s.lane i).retired.Nodup ∧ (s.lane i).retired.length ≤ Config.retiredMax
  /-- the slot waits on the op last asked of its lane, and on none in a rest state (section 1.2, R53) -/
  awaited : (s.lane i).awaited = (s.slot i).state.waitsOn

/-- Every lane is kept. -/
def LanesKept (s : State) : Prop := ∀ i, LaneKept s i

/-! ### Nodes, rules and classes (R71, R89, R90, R93, R100, R104, R113) -/

/-- What holds of one node. -/
structure NodeKept (s : State) (n : NodeId) : Prop where
  /-- a node is OFF exactly while disabled (R84) -/
  enabled : (s.node n).status = .off ↔ (s.node n).config.enabled = false
  /-- the silence timer runs exactly in LIVE and RECOVERING (R90) -/
  timer : (s.node n).silenceExpiry.isSome = true ↔ (s.node n).status = .live ∨ (s.node n).status = .recovering
  /-- the node holds exactly its blind class, and that exactly while SILENT or RECOVERING (R93) -/
  holder : ∀ c : ClassId, (s.cls c).holders[n] = true ↔
    (s.node n).status.blind = true ∧ (s.node n).config.blindClass = some c
  /-- progress lies within 0 to 15 and is 0 but in RECOVERING (R89) -/
  progress : (s.node n).progress ≤ 15 ∧ ((s.node n).status ≠ .recovering → (s.node n).progress = 0)
  recoveryCount : 1 ≤ (s.node n).config.recoveryCount ∧ (s.node n).config.recoveryCount ≤ 15
  /-- no last sequence is held in SILENT and OFF (R85) -/
  sequence : (s.node n).status = .silent ∨ (s.node n).status = .off → (s.node n).lastSequence = none

/-- Every node is kept. -/
def NodesKept (s : State) : Prop := ∀ n, NodeKept s n

/-- The computed values lie in their ranges (R71), with the rest reference in its own (R69). -/
def ValuesKept (s : State) : Prop :=
  ∀ n, 500 ≤ (s.node n).config.g ∧ (s.node n).config.g ≤ 2000 ∧ (s.node n).v ≤ 27500
    ∧ (∀ m ∈ (s.node n).lastM, m ≤ 28000) ∧ (∀ d ∈ (s.node n).lastD, d ≤ 27500)
    ∧ (∀ t ∈ (s.node n).lastT, -256 ≤ t ∧ t ≤ 256)

/-- Every persistence counter lies within 0 and its rule's persistence, and is 0 where the rule does not watch the
node (R100). -/
def CountersKept (s : State) : Prop :=
  ∀ (k : Fin 16) (n : NodeId), (s.rule k).counters[n] ≤ (s.rule k).persistence
    ∧ ((s.rule k).watches n = false → (s.rule k).counters[n] = 0)

/-- A class is active exactly while it has an expiry or a blind holder (R104), and each zone has the standings that the
active classes give it (R113). -/
structure HoldsKept (s : State) : Prop where
  active : ∀ c, (s.cls c).active = true ↔ (s.cls c).expiry.isSome = true ∨ ∃ n : NodeId, (s.cls c).holders[n] = true
  covered : ∀ z : ZoneId, s.zones[z].covered = true ↔
    ∃ c, (s.cls c).active = true ∧ (s.cls c).unload = true ∧ (s.cls c).zones[z] = true
  frozen : ∀ z : ZoneId, s.zones[z].frozen = true ↔
    ∃ c, (s.cls c).active = true ∧ (s.cls c).freeze = true ∧ (s.cls c).zones[z] = true

/-! ### Groups, the trunk port, the management unit (R137, R140, R141, R197) -/

/-- What holds of an open group record (R140, R141, R150). -/
structure GroupKept (r : GroupRecord) : Prop where
  figures : r.doneCount + r.results.length + r.remaining.length = r.fanOut
  members : r.fanOut ≤ 24
  open_ : r.remaining ≠ []
  once : (r.remaining ++ r.results.map (·.1)).Nodup

/-- Every open group record is kept, and its remaining members are exactly the slots whose active request is its member
(R4, R145, R148). -/
structure GroupsKept (s : State) : Prop where
  records : ∀ g r, s.group g = some r → GroupKept r
  members : ∀ g i, (∃ r, s.group g = some r ∧ i ∈ r.remaining) ↔
    ∃ a, (s.slot i).active = some a ∧ a.origin = .group g

/-- A CONTROLLER request is active in the slot. -/
def SlotRecord.owed (r : SlotRecord) : Bool := r.active.any fun a => decide (a.origin = .controller)

/-- The answers owed on the trunk link (R137). -/
def State.answersOwed (s : State) : Nat :=
  allSlots.countP (fun i => (s.slot i).owed) + allSlots.countP (fun i => (s.lane i).plain.isSome)
    + (List.finRange 4).countP fun g => (s.group g).isSome

/-- What holds of the trunk port (R136, R137, R180). -/
structure TrunkKept (s : State) : Prop where
  /-- one reservation for each answer owed -/
  reservations : s.trunk.reservations = s.answersOwed
  /-- an entry for every frame queued and every answer owed -/
  room : s.trunk.queue.length + s.trunk.reservations ≤ Config.egressCapacity
  /-- HOLD stands exactly while fewer than 8 entries are free -/
  hold : s.trunk.hold = true ↔ s.freeEntries < Config.holdMargin
  /-- the frame in transmission is the head of the queue -/
  head : s.trunk.transmitting = true → s.trunk.queue ≠ []
  /-- a RESTART waits only for a frame in transmission -/
  restart : s.trunk.restartPending.isSome = true → s.trunk.transmitting = true
  /-- no symbol waits for an idle transmitter, but for the GO that a reset owes before its first answer -/
  symbols : s.trunk.transmitting = false → s.trunk.flowDue = [] ∨ s.trunk.flowDue = [.go]

/-- ATTN is asserted exactly while an enabled flag is set (R197). -/
def AttnKept (s : State) : Prop :=
  s.mgmt.attn = true ↔ ∃ f : Flag, s.mgmt.flags.get f = true ∧ s.mgmt.enables.get f = true

/-! ### The tables (R54, R69, R84, R98, R103, R186) -/

/-- Every numeric table field lies in its range. -/
structure TablesKept (s : State) : Prop where
  profiles : ∀ k : Fin 8, s.profiles[k].spinUpDraw ≤ 60 ∧ s.profiles[k].runningDraw ≤ 60
    ∧ (1 ≤ s.profiles[k].spinUpDeadline ∧ s.profiles[k].spinUpDeadline ≤ 255)
    ∧ (1 ≤ s.profiles[k].spinDownDeadline ∧ s.profiles[k].spinDownDeadline ≤ 255)
    ∧ (1 ≤ s.profiles[k].loadDeadline ∧ s.profiles[k].loadDeadline ≤ 255)
    ∧ (1 ≤ s.profiles[k].unloadDeadline ∧ s.profiles[k].unloadDeadline ≤ 255)
  ceilings : s.arbiter.mainsCeiling ≤ 600 ∧ s.arbiter.batteryCeiling ≤ 600
  stagger : s.arbiter.staggerInterval ≤ 255
  nodes : ∀ n, (500 ≤ (s.node n).config.g ∧ (s.node n).config.g ≤ 2000)
    ∧ (1 ≤ (s.node n).config.k ∧ (s.node n).config.k ≤ 6)
    ∧ (2 ≤ (s.node n).config.silenceLimit ∧ (s.node n).config.silenceLimit ≤ 255)
    ∧ (1 ≤ (s.node n).config.recoveryCount ∧ (s.node n).config.recoveryCount ≤ 15)
  rules : ∀ k, (1 ≤ (s.rule k).persistence ∧ (s.rule k).persistence ≤ 15)
    ∧ (if (s.rule k).metric = .tilt then -256 ≤ (s.rule k).threshold ∧ (s.rule k).threshold ≤ 256
       else 0 ≤ (s.rule k).threshold ∧ (s.rule k).threshold ≤ 28000)
  classes : ∀ c, 1 ≤ (s.cls c).holdTime ∧ (s.cls c).holdTime ≤ 6000
  timing : s.mgmt.timing.selfParkHold ≤ 255
    ∧ (1 ≤ s.mgmt.timing.presenceDebounce ∧ s.mgmt.timing.presenceDebounce ≤ 50)
    ∧ (1 ≤ s.mgmt.timing.plainDeadline ∧ s.mgmt.timing.plainDeadline ≤ 255)

/-! ### What a command leaves as it was -/

/-- Nothing but the trunk port differs. -/
def OnlyTrunk (s t : State) : Prop := t = { s with trunk := t.trunk }

/-- The answer `a` has joined the tail of the egress queue in an unreserved entry, and nothing outside the trunk port
has changed (R137, R139). -/
def AnsweredOnly (s t : State) (a : AnswerFrame) : Prop :=
  OnlyTrunk s t ∧ t.trunk.queue = s.trunk.queue ++ [a] ∧ t.trunk.reservations = s.trunk.reservations
    ∧ t.trunk.restartPending = s.trunk.restartPending

/-- The event has touched slots, lanes, spin queues and account, groups, the trunk port, the over-ceiling condition, the
event flags and ATTN at most. -/
def SlotEvent (s t : State) : Prop :=
  t = { s with
    trunk := t.trunk, slots := t.slots, lanes := t.lanes, groups := t.groups
    arbiter := { s.arbiter with
      queues := t.arbiter.queues, reservationTotal := t.arbiter.reservationTotal
      lastGrant := t.arbiter.lastGrant, staggerExpiry := t.arbiter.staggerExpiry }
    supply := { s.supply with overCeiling := t.supply.overCeiling }
    mgmt := { s.mgmt with flags := t.mgmt.flags, attn := t.mgmt.attn } }

/-- Slot `j` and its lane are as they were. -/
def Untouched (s t : State) (j : SlotId) : Prop := t.slot j = s.slot j ∧ t.lane j = s.lane j

/-- Slot `j` is as it was, or it waited for a grant and has been granted (R42). -/
def SparedOrGranted (s t : State) (j : SlotId) : Prop :=
  Untouched s t j ∨ ((s.slot j).state = .queued ∧ (t.slot j).state = .spinningUp)

/-- Slot `j` is as it was, or has been granted, or has been shed-marked (R42, R162). -/
def Spared (s t : State) (j : SlotId) : Prop :=
  SparedOrGranted s t j ∨ ((s.slot j).shedMark = false ∧ (t.slot j).shedMark = true)

/-- The next look of the arbiter in RUN tries slot `i`, and the stagger lets its grant pass: its entry is the first, from
queue 3 down, whose slot is not frozen in `t` (R38, R40). -/
def NextGrant (s t : State) (i : SlotId) : Prop :=
  s.mgmt.mode = .run ∧ (∀ last ∈ s.arbiter.lastGrant, last + 10 * s.arbiter.staggerInterval ≤ s.now) ∧
    t.frozen i = false ∧ ∃ (front back : List QueueEntry) (c : QueueEntry),
      s.arbiter.queues[3] ++ s.arbiter.queues[2] ++ s.arbiter.queues[1] ++ s.arbiter.queues[0] = front ++ c :: back ∧
      c.slot = i ∧ ∀ x ∈ front, t.frozen x.slot = true

/-- Slot `i` has been granted at this time (R42). -/
def Granted (s t : State) (i : SlotId) : Prop :=
  (t.slot i).state = .spinningUp ∧ (t.slot i).reservation = (s.profileOf i).spinUpDraw ∧
    t.arbiter.lastGrant = some s.now

/-- Slot `i` holds the record `r` but for what a move of its state may change (state, switch, reservation, draw kept,
spin-ups and emergency unloads), and its lane the record it had but for what an issued op changes. -/
def MovedFrom (s t : State) (i : SlotId) (r : SlotRecord) : Prop :=
  t.slot i =
      { r with
        state := (t.slot i).state, powerSwitch := (t.slot i).powerSwitch, reservation := (t.slot i).reservation
        drawKept := (t.slot i).drawKept, spinUps := (t.slot i).spinUps
        emergencyUnloads := (t.slot i).emergencyUnloads } ∧
    t.lane i =
      { s.lane i with
        lastTag := (t.lane i).lastTag, governed := (t.lane i).governed, preempting := (t.lane i).preempting
        held := (t.lane i).held, transmitted := (t.lane i).transmitted }

/-! ### Conditions of the commands -/

/-- The commands that are trunk frames addressed to slot `i` with the fields `f` (R123). -/
def SlotFrameCommand (i : SlotId) (f : FrameBody) (c : Instr) : Prop :=
  c = .slotRequest i f ∨ c = .plainFrame i f ∨ c = .blockedSlotFrame i f

/-- The payloads that have the form their management kind requires: the lengths and codes of R200. -/
inductive ProperForm : Nat → List Byte → Prop
  | tableRead (table index : Byte) : table.toNat ≤ 9 → ProperForm 0 [table, index]
  | tableWrite (table index : Byte) (entry : List Byte) :
      (table.toNat, entry.length) ∈
        [(0, 1), (1, 2), (2, 6), (3, 3), (4, 4), (5, 2), (6, 8), (7, 7), (8, 4), (9, 3)] →
      ProperForm 1 (table :: index :: entry)
  | slotRead (slot part : Byte) : part.toNat ≤ 1 → ProperForm 2 [slot, part]
  | nodeRead (node : Byte) : ProperForm 3 [node]
  | statusRead (part : Byte) : part.toNat ≤ 6 → ProperForm 4 [part]
  | setMode (mode : Byte) : mode.toNat ≤ 1 → ProperForm 5 [mode]
  | clearFault (slot : Byte) : ProperForm 6 [slot]
  | withdraw (slot : Byte) : ProperForm 7 [slot]
  | restore (slot : Byte) : ProperForm 8 [slot]
  | ackEvents (flags : Byte) : flags.toNat ≤ 63 → ProperForm 9 [flags]
  | setEnables (flags : Byte) : flags.toNat ≤ 63 → ProperForm 10 [flags]
  | restart : ProperForm 11 []

/-- A trunk frame that is answered MALFORMED whatever the state: a destination, kind, priority or payload length that
R120 refuses, or a management request of kind 0 to 11 without its form (R185). -/
def RefusedFrame (f : TrunkFrame) : Prop :=
  f.destination.toNat = 29 ∨ f.destination.toNat = 30 ∨ 31 < f.destination.toNat ∨ 15 < f.body.kind.toNat
    ∨ 7 < f.body.priority.toNat ∨ 16 < f.body.payload.length
    ∨ (f.destination.toNat = 31 ∧ f.body.kind.toNat ≤ 11 ∧ ¬ProperForm f.body.kind.toNat f.body.payload)

/-- A field of two bytes, high byte first (R198). -/
def wide (n : Nat) : List Byte := [byte (n / 256), byte (n % 256)]

/-- An optional field of two bytes; absent is FFFFh (R200). -/
def wideOr (n : Option Nat) : List Byte :=
  match n with
  | some n => wide n
  | none => [0xFF, 0xFF]

/-- An optional field of one byte; absent is FFh (R200). -/
def narrowOr (n : Option Nat) : List Byte :=
  match n with
  | some n => [byte n]
  | none => [0xFF]

/-- A yes/no field of the reads (R200). -/
def yesByte (b : Bool) : Byte := if b then 1 else 0

/-- The number whose bits are these values, the first in bit 0. -/
def bitNumber : List Bool → Nat
  | [] => 0
  | b :: bs => (if b then 1 else 0) + 2 * bitNumber bs

/-- A flag set, node set, zone set or effects byte: a bit for each value, the first in bit 0 (R200). -/
def bitByte (bs : List Bool) : Byte := byte (bitNumber bs)

/-- The six flags, or the six enables, in the order of their bits (R200). -/
def flagSet (e : EventFlags) : Byte :=
  bitByte [e.holdChange, e.slotFault, e.nodeSilent, e.overCeiling, e.selfPark, e.presenceChange]

/-- A signed field of two bytes, high byte first (R198). -/
def wideSigned (t : Int) : List Byte := [highByte (BitVec.ofInt 16 t), lowByte (BitVec.ofInt 16 t)]

/-- The time that remains to an expiry, in ms, or absent (R193, R200). -/
def timeLeft (s : State) (e : Option Nat) : List Byte := wideOr (e.map fun t => t - s.now)

/-- The fields of SLOT_READ's RECORD part, in the order of R193 with the encodings of R200; tags take two bytes and each
field of an absent request is absent (log 14, log 15). -/
def recordFields (s : State) (i : SlotId) : List Byte :=
  [yesByte (s.slot i).present] ++ timeLeft s (s.slot i).debounceExpiry
    ++ [yesByte (s.slot i).inService, byte (s.slot i).state.code, byte (s.slot i).zone.val, byte (s.slot i).profile.val,
        byte (s.slot i).shedClass.val, byte (s.slot i).standing.code, byte (s.effectiveTarget i).code]
    ++ narrowOr ((s.slot i).lastPriority.map fun p => p.val)
    ++ (match (s.slot i).active with
        | some a => [byte a.origin.code] ++ wide a.tag.toNat ++ [byte a.kind.val, byte a.target.code, byte a.priority.val]
            ++ timeLeft s a.waitDeadline
        | none => List.replicate 8 0xFF)
    ++ [byte (s.slot i).reservation, byte (s.slot i).drawKept.code, yesByte (s.slot i).powerSwitch,
        yesByte (s.slot i).shedMark]
    ++ timeLeft s (s.slot i).selfParkExpiry
    ++ (match (s.slot i).faultCause with
        | some c => [byte c.codes.1, c.codes.2]
        | none => [0xFF, 0xFF])
    ++ wide (s.slot i).spinUps ++ wide (s.slot i).emergencyUnloads ++ wide (s.slot i).selfParks
    ++ wide (s.slot i).lateReports

/-- The fields of SLOT_READ's LANE part, in the order of R67 with the encodings of R200; tags and the FAILED code take two
bytes, and each field of an absent record is absent (log 14, log 15). -/
def laneFields (s : State) (i : SlotId) : List Byte :=
  wide (s.lane i).lastTag.toNat ++ byte (s.lane i).retired.length :: ((s.lane i).retired.flatMap fun t => wide t.toNat)
    ++ (match (s.lane i).governed with
        | some g => [byte g.op.code] ++ wide g.tag.toNat ++ [byte g.role.code] ++ wide (g.deadline - s.now)
        | none => List.replicate 6 0xFF)
    ++ (match (s.lane i).preempting with
        | some p => [byte p.op.code] ++ wide p.tag.toNat ++ wide (p.deadline - s.now)
        | none => List.replicate 5 0xFF)
    ++ (match (s.lane i).plain with
        | some p => [5] ++ wide p.tag.toNat ++ wide (p.deadline - s.now)
        | none => List.replicate 5 0xFF)
    ++ narrowOr ((s.lane i).held.map fun op => op.code)
    ++ (match (s.lane i).lastPreempted with
        | some p => [byte p.op.code] ++ wide p.tag.toNat ++ [byte p.outcome.codes.1] ++ wide p.outcome.codes.2.toNat
        | none => List.replicate 6 0xFF)

/-- The fields of NODE_READ, in the order of R97 and R82 with the encodings of R200. -/
def nodeFields (s : State) (n : NodeId) : List Byte :=
  [yesByte (s.node n).config.enabled, byte (s.node n).config.up.code] ++ wide (s.node n).config.g
    ++ [byte (s.node n).config.k] ++ wide (s.node n).config.silenceLimit ++ [byte (s.node n).config.recoveryCount]
    ++ narrowOr ((s.node n).config.blindClass.map fun c => c.val) ++ [byte (s.node n).status.code]
    ++ wideOr ((s.node n).lastSequence.map fun q => q.toNat) ++ [byte (s.node n).progress] ++ wide (s.node n).gapCount
    ++ timeLeft s (s.node n).silenceExpiry ++ wide (s.node n).v ++ wideOr (s.node n).lastM ++ wideOr (s.node n).lastD
    ++ (match (s.node n).lastT with
        | some t => wideSigned t
        | none => [0x80, 0x00])

/-- The six fields of a motion rule and the persistence counters of nodes 0 to 3 (R187, R200). -/
def ruleFields (r : MotionRule) : List Byte :=
  [yesByte r.inUse, bitByte r.nodes.toList, byte r.metric.code] ++ wideSigned r.threshold
    ++ [byte r.persistence, byte r.cls.val, byte r.counters[0], byte r.counters[1], byte r.counters[2], byte r.counters[3]]

/-- The four configuration fields of a class, then active, the remaining hold time, the blind holders and the fire count
(R119, R187, R200). -/
def classFields (s : State) (r : ClassRecord) : List Byte :=
  [bitByte r.zones.toList, bitByte [r.unload, r.freeze]] ++ wide r.holdTime ++ [yesByte r.active] ++ timeLeft s r.expiry
    ++ [bitByte r.holders.toList] ++ wide r.fireCount

/-- The entries of a table in ascending index, each with its fields in the order of R200; entry 8 of the priority map is
the group settings (R186, R187). -/
def tableFields (s : State) : Table → List (List Byte)
  | .kindMap => s.kindMap.toList.map fun a => [byte a.code]
  | .priorityMap => (s.arbiter.priorityMap.toList.map fun q => [byte q.val, 0])
      ++ [[byte s.arbiter.groupQueue.val, yesByte s.arbiter.groupByPriority]]
  | .drawProfiles => s.profiles.toList.map fun p => [byte p.spinUpDraw, byte p.runningDraw, byte p.spinUpDeadline,
      byte p.spinDownDeadline, byte p.loadDeadline, byte p.unloadDeadline]
  | .slotConfiguration => s.slots.toList.map fun r => [byte r.zone.val, byte r.profile.val, byte r.shedClass.val]
  | .ceilings => [wide s.arbiter.mainsCeiling ++ wide s.arbiter.batteryCeiling]
  | .stagger => [wide s.arbiter.staggerInterval]
  | .nodeConfiguration => s.nodes.toList.map fun r => [yesByte r.config.enabled, byte r.config.up.code]
      ++ wide r.config.g ++ [byte r.config.k, byte r.config.silenceLimit, byte r.config.recoveryCount]
      ++ narrowOr (r.config.blindClass.map fun c => c.val)
  | .motionRules => s.rules.toList.map ruleFields
  | .classes => s.classes.toList.map (classFields s)
  | .timing => [[byte s.mgmt.timing.selfParkHold, byte s.mgmt.timing.presenceDebounce,
      byte s.mgmt.timing.plainDeadline]]

/-- The ceiling in force while the source is `src` (R35). -/
def ceilingOf (s : State) (src : Source) : Nat :=
  if src = .mains then s.arbiter.mainsCeiling else s.arbiter.batteryCeiling

/-- The fields of an open group record (R154), its remaining members and its results each a list preceded by its length
(R200, log 14), or its number and the word free (R194, log 16). -/
def groupFields (s : State) (g : GroupId) : List Byte :=
  match s.group g with
  | some r =>
    let left := allSlots.filter fun i => decide (i ∈ r.remaining)
    [byte g.val, groupSource r.destination] ++ wide r.tag.toNat ++ [byte r.kind.val, byte r.fanOut, byte r.doneCount]
      ++ byte left.length :: (left.map fun i => byte i.val)
      ++ byte r.results.length :: r.results.flatMap fun e => [byte e.1.val, byte e.2.code]
  | none => [byte g.val, Config.freeRecordWord]

/-- The contents of STATUS_READ's sections, in the order of R194 and R154 with the encodings of R200: GENERAL, QUEUES,
CLASSES and GROUP 0 to 3; the flags and the enables take a byte each (log 26), and the word free is left open (log 16). -/
def sectionFields (s : State) : Fin 7 → List Byte
  | 0 =>
    [byte s.mgmt.mode.code, byte s.supply.source.code] ++ wide s.arbiter.mainsCeiling ++ wide s.arbiter.batteryCeiling
      ++ wide (ceilingOf s s.supply.source) ++ wide s.arbiter.reservationTotal ++ [yesByte s.supply.overCeiling]
      ++ (([0, 1, 2, 3] : List NodeId).map fun n => byte (s.node n).status.code)
      ++ [flagSet s.mgmt.flags, flagSet s.mgmt.enables]
      ++ byte (([0, 1, 2, 3] : List GroupId).filter fun g => (s.group g).isSome).length
        :: ((([0, 1, 2, 3] : List GroupId).filter fun g => (s.group g).isSome).map fun g => byte g.val)
  | 1 => ([3, 2, 1, 0] : List (Fin 4)).flatMap fun q => byte s.arbiter.queues[q].length ::
      s.arbiter.queues[q].flatMap fun e => byte e.slot.val :: narrowOr (e.priorityUsed.map fun p => p.val)
  | 2 => ([0, 1, 2, 3, 4, 5, 6, 7] : List ClassId).flatMap fun c =>
      yesByte (s.cls c).active :: timeLeft s (s.cls c).expiry
  | 3 => groupFields s 0
  | 4 => groupFields s 1
  | 5 => groupFields s 2
  | 6 => groupFields s 3

/-- The governed actions of the kind map (R122). -/
def Governed (a : Action) : Prop := a = .stopped ∨ a = .atLeastParked ∨ a = .atMostParked ∨ a = .loaded

/-- The target of a governed action over each standing target: the table of R126. -/
def targetTable : Action → Target → Option Target
  | .stopped, .stopped => some .stopped
  | .stopped, .parked => some .stopped
  | .stopped, .loaded => some .stopped
  | .atLeastParked, .stopped => some .parked
  | .atLeastParked, .parked => some .parked
  | .atLeastParked, .loaded => some .loaded
  | .atMostParked, .stopped => some .stopped
  | .atMostParked, .parked => some .parked
  | .atMostParked, .loaded => some .parked
  | .loaded, .stopped => some .loaded
  | .loaded, .parked => some .loaded
  | .loaded, .loaded => some .loaded
  | .forward, _ => none
  | .forwardIfClear, _ => none
  | .block, _ => none

/-- No check of R125 refuses a governed request of target `tgt` for slot `i`, and its carrier is present. -/
def Acceptable (s : State) (i : SlotId) (tgt : Target) : Prop :=
  (s.slot i).present = true ∧ s.mgmt.mode = .run ∧ (s.slot i).inService = true ∧ (s.slot i).state ≠ .fault
    ∧ ((s.slot i).shedMark = true → tgt = .stopped)

/-- The slot's state is the target already, or becomes it by leaving its queue (R16, R28). -/
def atTarget (st : SlotState) (tgt : Target) : Bool :=
  match tgt with
  | .stopped => decide (st = .stopped ∨ st = .queued)
  | .parked => decide (st = .parked)
  | .loaded => decide (st = .loaded)

/-- A slot frame of kind `k` that passes every check of R120, R123 and R125, with the target R126 gives it. -/
structure AcceptedFrame (s : State) (i : SlotId) (f : FrameBody) (k : Fin 16) (tgt : Target) : Prop where
  fields : f.wf = true
  kind : k.val = f.kind.toNat
  target : targetTable s.kindMap[k] (s.slot i).standing = some tgt
  acceptable : Acceptable s i tgt
  room : s.freeEntries ≠ 0

/-- The refusals of a slot frame, in the order of R120, R123, R124 and R125: each case holds where no earlier one does. -/
inductive SlotRefused (s : State) (i : SlotId) (f : FrameBody) (k : Fin 16) : AnswerCode → Prop
  | malformed : f.wf = false → SlotRefused s i f k .malformed
  | absent : f.wf = true → (s.slot i).present = false → SlotRefused s i f k .absent
  | blocked : f.wf = true → (s.slot i).present = true → k.val = f.kind.toNat → s.kindMap[k] = .block →
      SlotRefused s i f k .blocked
  | held : f.wf = true → (s.slot i).present = true → k.val = f.kind.toNat → s.kindMap[k] = .forwardIfClear →
      s.covered i = true ∨ s.frozen i = true → SlotRefused s i f k .held
  | laneBusy : f.wf = true → (s.slot i).present = true → k.val = f.kind.toNat →
      s.kindMap[k] = .forward ∨ s.kindMap[k] = .forwardIfClear ∧ s.covered i = false ∧ s.frozen i = false →
      (s.lane i).plain.isSome = true → SlotRefused s i f k .laneBusy
  | configMode : f.wf = true → (s.slot i).present = true → k.val = f.kind.toNat → Governed s.kindMap[k] →
      s.mgmt.mode = .config → SlotRefused s i f k .configMode
  | withdrawn : f.wf = true → (s.slot i).present = true → k.val = f.kind.toNat → Governed s.kindMap[k] →
      s.mgmt.mode = .run → (s.slot i).inService = false → SlotRefused s i f k .withdrawn
  | faulted : f.wf = true → (s.slot i).present = true → k.val = f.kind.toNat → Governed s.kindMap[k] →
      s.mgmt.mode = .run → (s.slot i).inService = true → (s.slot i).state = .fault → SlotRefused s i f k .faulted
  | shedding : f.wf = true → (s.slot i).present = true → k.val = f.kind.toNat →
      s.mgmt.mode = .run → (s.slot i).inService = true → (s.slot i).state ≠ .fault → (s.slot i).shedMark = true →
      targetTable s.kindMap[k] (s.slot i).standing = some .parked ∨
        targetTable s.kindMap[k] (s.slot i).standing = some .loaded → SlotRefused s i f k .shedding

/-- The refusal of a member with target `tgt` at a fan-out in RUN of a governed kind (R144), if any. -/
def memberCode (s : State) (i : SlotId) (tgt : Target) : Option AnswerCode :=
  if (s.slot i).present = false then some .absent
  else if (s.slot i).inService = false then some .withdrawn
  else if (s.slot i).state = .fault then some .faulted
  else if (s.slot i).shedMark = true ∧ tgt ≠ .stopped then some .shedding
  else none

/-- The active request of slot `i` is a member of group `g` (R4). -/
def memberOf (s : State) (g : GroupId) (i : SlotId) : Bool := (s.slot i).active.any fun a => decide (a.origin = .group g)

/-- The record after the outcome `c` of the members `is`, in their order: they leave the remaining set; DONE is counted,
any other outcome joins the results (R148). -/
def recordAfter (r : GroupRecord) (is : List SlotId) (c : AnswerCode) : GroupRecord :=
  { r with
    remaining := r.remaining.filter fun i => decide (i ∉ is)
    doneCount := r.doneCount + (if c = .done then is.length else 0)
    results := r.results ++ (if c = .done then [] else is.map fun i => (i, c)) }

/-- Group record `g` after the slots `is` have received the outcome `c`: free where nothing remains in it (R148, R150). -/
def groupAfter (s : State) (is : List SlotId) (c : AnswerCode) (g : GroupId) : Option GroupRecord :=
  match s.group g with
  | some r =>
    let after := recordAfter r (is.filter (memberOf s g)) c
    if after.remaining = [] then none else some after
  | none => none

/-- A group's answer: DONE, with the fan-out, the done count and the results (R150, R198). -/
def groupAnswer (r : GroupRecord) : AnswerFrame :=
  ⟨groupSource r.destination, byte r.kind.val, r.tag, .done,
    byte r.fanOut :: byte r.doneCount :: byte r.results.length ::
      r.results.flatMap fun e => [byte e.1.val, byte e.2.code]⟩

/-- The answers of an outcome `c` that the active requests of the slots of a list receive in turn, the slots `earlier`
having received it before: a CONTROLLER request's own answer; of a GROUP request, its group's answer where the slot is the
last that remains (R4, R128, R150). -/
def answersFrom (s : State) (c : AnswerCode) (earlier : List SlotId) : List SlotId → List AnswerFrame
  | [] => []
  | i :: rest =>
    (match (s.slot i).active with
      | none => []
      | some a => match a.origin with
        | .controller => [⟨byte i.val, byte a.kind.val, a.tag, c, []⟩]
        | .group g => (s.group g).toList.flatMap fun r =>
          let after := recordAfter r ((earlier ++ [i]).filter (memberOf s g)) c
          if after.remaining = [] then [groupAnswer after] else []) ++ answersFrom s c (earlier ++ [i]) rest

/-- The answers of an outcome `c` that the active requests of the slots `is` receive, in their order. -/
def outcomeAnswers (s : State) (is : List SlotId) (c : AnswerCode) : List AnswerFrame := answersFrom s c [] is

/-- The wait deadline of a request taken now (R127). -/
def deadlineOf (s : State) (f : FrameBody) : Option Nat :=
  if f.waitLimit = 0 then none else some (s.now + f.waitLimit.toNat * 100)

/-- A lane tag that is the first free value after the last issued one, within twelve steps (R51). -/
def FirstFree (r : LaneRecord) (tag : Byte) : Prop :=
  tag ∉ r.retired ∧ tag ∉ r.outstanding ∧
    ∃ n : Fin 12, tag = r.lastTag + 1 + BitVec.ofNat 8 n.val ∧
      ∀ m : Fin 12, m < n →
        r.lastTag + 1 + BitVec.ofNat 8 m.val ∈ r.retired ∨ r.lastTag + 1 + BitVec.ofNat 8 m.val ∈ r.outstanding

/-- An outstanding op `op` with this tag and deadline on which the slot's state waits: SOLE or preempting (R56). -/
def Awaits (s : State) (i : SlotId) (tag : Byte) (op : GovernedOp) (deadline : Nat) : Prop :=
  (∃ g ∈ (s.lane i).governed, g.role = .sole ∧ g.tag = tag ∧ g.op = op ∧ g.deadline = deadline)
    ∨ ∃ p ∈ (s.lane i).preempting, p.tag = tag ∧ p.op = op ∧ p.deadline = deadline

/-- The state in which a slot arrives when the op it waits on is DONE (R17 to R20), for a QUERY the state that the
first payload byte reports, if it is one of the three (R23, R199). -/
def arrival (op : GovernedOp) (payload : List Byte) : Option SlotState :=
  match op with
  | .spin => some .parked
  | .load => some .loaded
  | .unload => some .parked
  | .stop => some .stopped
  | .query =>
    if payload.head? = some 0 then some .stopped
    else if payload.head? = some 1 then some .parked
    else if payload.head? = some 2 then some .loaded
    else none

/-- The target that a rest state is (section 1.2). -/
def restTarget : SlotState → Target
  | .parked => .parked
  | .loaded => .loaded
  | _ => .stopped

/-- The state to which the rule of a slot's state takes it at once for an effective target: the tables of R13 to R20,
R23 and R27, in RUN or not. -/
def afterRecompute (run : Bool) : SlotState → Target → SlotState
  | .stopped, .stopped => .stopped
  | .stopped, .parked => if run then .queued else .stopped
  | .stopped, .loaded => if run then .queued else .stopped
  | .queued, .stopped => .stopped
  | .queued, .parked => .queued
  | .queued, .loaded => .queued
  | .spinningUp, .stopped => .spinningDown
  | .spinningUp, .parked => .spinningUp
  | .spinningUp, .loaded => .spinningUp
  | .parked, .stopped => .spinningDown
  | .parked, .parked => .parked
  | .parked, .loaded => .loading
  | .loading, .stopped => .unloading
  | .loading, .parked => .unloading
  | .loading, .loaded => .loading
  | .loaded, .stopped => .unloading
  | .loaded, .parked => .unloading
  | .loaded, .loaded => .loaded
  | .empty, _ => .empty
  | .unloading, _ => .unloading
  | .spinningDown, _ => .spinningDown
  | .probing, _ => .probing
  | .fault, _ => .fault

/-- Slot `i`, taken in state `st`, has gone by the rule of that state to its effective target; a slot thereby QUEUED
may have been granted in the same event (R13 to R20, R32, R42). -/
def Proceeded (s t : State) (i : SlotId) (st : SlotState) : Prop :=
  (t.slot i).state = afterRecompute (decide (s.mgmt.mode = .run)) st (t.effectiveTarget i)
    ∨ (afterRecompute (decide (s.mgmt.mode = .run)) st (t.effectiveTarget i) = .queued
        ∧ (t.slot i).state = .spinningUp ∧ t.arbiter.lastGrant = some s.now)

/-- The cause of the FAULT entered when an op fails with a code (R17 to R20, R23). -/
def failureCause : GovernedOp → Byte → FaultCause
  | .spin, c => .spinFailed c
  | .stop, c => .stopFailed c
  | .load, c => .loadFailed c
  | .unload, c => .unloadFailed c
  | .query, c => .carrierFault c

/-- The cause of the FAULT entered when an op's deadline expires (R17 to R20, R23, R59). -/
def timeoutCause : GovernedOp → FaultCause
  | .spin => .spinTimeout
  | .stop => .stopTimeout
  | .load => .loadTimeout
  | .unload => .unloadTimeout
  | .query => .probeTimeout

/-- The commands by which an op that the slot's state waits on ends other than DONE with a state to take, with the
cause of the FAULT entered and the outcome its request receives (R17 to R20, R23, R26, R57, R59). -/
inductive FailsWith (s : State) (i : SlotId) (tag : Byte) (op : GovernedOp) (deadline : Nat) :
    Instr → FaultCause → AnswerCode → Prop
  | failed (code : Byte) (p : List Byte) : p.length ≤ 16 →
      FailsWith s i tag op deadline (.completion i tag (.failed code) p) (failureCause op code) .failed
  | aborted (p : List Byte) : p.length ≤ 16 →
      FailsWith s i tag op deadline (.completion i tag .aborted p) (failureCause op 0) .failed
  | otherState (p : List Byte) : p.length ≤ 16 → arrival op p = none →
      FailsWith s i tag op deadline (.completion i tag .done p) (.carrierFault 0) .failed
  | deadline : deadline ≤ s.now →
      FailsWith s i tag op deadline (.opDeadlineExpiry i tag) (timeoutCause op) .timeout

/-- The slot and its lane stand as an entry to FAULT with this cause leaves them, the governed side of the lane
abandoned and all else kept (R26, R61). -/
def Faulted (s t : State) (i : SlotId) (cause : FaultCause) : Prop :=
  t.slot i =
      { s.slot i with
        state := .fault, powerSwitch := false, reservation := 0, shedMark := false, active := none
        faultCause := some cause } ∧
    t.lane i =
      { s.lane i with governed := none, preempting := none, held := none, retired := (t.lane i).retired } ∧
    t.mgmt.flags.slotFault = true

/-- A trunk frame, RESTART apart (R120, R137, R185). -/
def trunkFrameCommand : Instr → Bool
  | .slotRequest _ _ => true
  | .plainFrame _ _ => true
  | .groupFrame _ _ => true
  | .tableRead _ _ => true
  | .kindMapWrite _ _ _ => true
  | .priorityMapWrite _ _ _ => true
  | .drawProfileWrite _ _ _ => true
  | .slotConfigurationWrite _ _ _ => true
  | .ceilingsWrite _ _ _ => true
  | .staggerWrite _ _ _ => true
  | .nodeConfigurationWrite _ _ _ => true
  | .motionRuleWrite _ _ _ => true
  | .classWrite _ _ _ => true
  | .timingWrite _ _ _ => true
  | .slotRead _ _ => true
  | .nodeRead _ _ => true
  | .statusRead _ _ => true
  | .setModeRun _ => true
  | .setModeConfig _ => true
  | .clearFault _ _ => true
  | .withdraw _ _ => true
  | .restore _ _ => true
  | .ackEvents _ _ => true
  | .setEnables _ _ => true
  | .malformedFrame f =>
    f.malformed || !(decide (f.destination.toNat = 31) && decide (f.body.kind.toNat = 11))
  | .blockedSlotFrame _ _ => true
  | .unknownManagementKind _ _ => true
  | .restart _ p => !p.isEmpty
  | .powerOnReset => false
  | .answerSent => false
  | .restartExecution => false
  | .supplySourceLineChange _ => false
  | .sourceDebounceExpiry => false
  | .presenceInputChange _ _ => false
  | .presenceDebounceExpiry _ => false
  | .completion _ _ _ _ => false
  | .selfParked _ => false
  | .carrierFault _ _ => false
  | .opDeadlineExpiry _ _ => false
  | .selfParkHoldExpiry _ => false
  | .waitDeadline _ => false
  | .staggerTimerExpiry => false
  | .sample _ _ _ _ _ _ => false
  | .silenceTimerExpiry _ => false
  | .classExpiry _ => false

/-! ### Table writes and resets -/

/-- The entry of a node configuration write names a value in each of its code fields (R69, R84, R200). -/
def nodeCodes : List Byte → Prop
  | [enabled, up, _, _, _, _, _, blind] => enabled.toNat ≤ 1 ∧ up.toNat ≤ 5 ∧ (blind.toNat ≤ 7 ∨ blind.toNat = 255)
  | _ => False

/-- The entry of a rule write names a value in each of its code fields (R99, R200). -/
def ruleCodes : List Byte → Prop
  | [inUse, nodes, metric, _, _, _, cls] =>
    inUse.toNat ≤ 1 ∧ nodes.toNat ≤ 15 ∧ metric.toNat ≤ 3 ∧ cls.toNat ≤ 7
  | _ => False

/-- The entry of a class write names a value in each of its code fields (R116, R200). -/
def classCodes : List Byte → Prop
  | [zones, effects, _, _] => zones.toNat ≤ 15 ∧ effects.toNat ≤ 3
  | _ => False

/-- The refusals of a TABLE_WRITE with entry index `i` (R185, R188): each case holds where no earlier one does. -/
inductive WriteRefused (s : State) (tb : Table) (i : Byte) (e : List Byte) : AnswerCode → Prop
  | length : ¬ProperForm 1 (byte tb.code :: i :: e) → WriteRefused s tb i e .malformed
  | index : ProperForm 1 (byte tb.code :: i :: e) → tb.entries ≤ i.toNat → WriteRefused s tb i e .badIndex
  | locked : ProperForm 1 (byte tb.code :: i :: e) → i.toNat < tb.entries → s.mgmt.mode = .run →
      tb = .kindMap ∨ tb = .nodeConfiguration → WriteRefused s tb i e .locked
  | action (b : Byte) : tb = .kindMap → i.toNat < 16 → s.mgmt.mode = .config → e = [b] → 6 < b.toNat →
      WriteRefused s tb i e .malformed
  | groupSetting (q b : Byte) : tb = .priorityMap → i.toNat = 8 → e = [q, b] → 1 < b.toNat →
      WriteRefused s tb i e .malformed
  | nodeCode : tb = .nodeConfiguration → i.toNat < 4 → s.mgmt.mode = .config → e.length = 8 → ¬nodeCodes e →
      WriteRefused s tb i e .malformed
  | ruleCode : tb = .motionRules → i.toNat < 16 → e.length = 7 → ¬ruleCodes e → WriteRefused s tb i e .malformed
  | classCode : tb = .classes → i.toNat < 8 → e.length = 4 → ¬classCodes e → WriteRefused s tb i e .malformed
  | slotInUse (j : SlotId) : tb = .slotConfiguration → i.toNat = j.val → e.length = 3 →
      (s.slot j).state ≠ .empty → (s.slot j).state ≠ .stopped → (s.slot j).state ≠ .fault →
      WriteRefused s tb i e .inUse
  | profileInUse (k : Fin 8) (j : SlotId) : tb = .drawProfiles → i.toNat = k.val → e.length = 6 →
      s.mgmt.mode = .run → (s.slot j).profile = k → 0 < (s.slot j).reservation ∨ (s.slot j).state = .queued →
      WriteRefused s tb i e .inUse
  | classActive (c : ClassId) : tb = .classes → i.toNat = c.val → classCodes e → s.mgmt.mode = .run →
      (s.cls c).active = true → WriteRefused s tb i e .classActive

/-- The values that every table and record outside the slots, the lanes, the trunk port and the supply monitor takes
after either reset, taken at time `time` (11.6, R29, R30, R35, R54, R84, R98, R103, R113, R122, R140, R186, R190). -/
structure DefaultsHeld (t : State) (time : Nat) : Prop where
  mode : t.mgmt.mode = .config
  timing : t.mgmt.timing = ⟨20, 10, 50⟩
  enables : t.mgmt.enables = ⟨false, false, false, false, false, false⟩
  attn : t.mgmt.attn = false
  kindMap : ∀ k : Fin 16, t.kindMap[k] = .block
  priorityMap : ∀ p : Fin 8, t.arbiter.priorityMap[p].val = p.val / 2
  groupSettings : t.arbiter.groupQueue = 1 ∧ t.arbiter.groupByPriority = false
  queues : ∀ q : Fin 4, t.arbiter.queues[q] = []
  ceilings : t.arbiter.mainsCeiling = 200 ∧ t.arbiter.batteryCeiling = 80
  stagger : t.arbiter.staggerInterval = 50 ∧ t.arbiter.lastGrant = none ∧ t.arbiter.staggerExpiry = none
  profiles : ∀ k : Fin 8, t.profiles[k] = ⟨25, 8, 150, 150, 100, 50⟩
  nodes : ∀ n, t.node n =
    { config := ⟨true, .plusZ, 1000, 3, 20, 8, some 0⟩, status := .recovering, lastSequence := none, lapsed := none
      progress := 0
      silenceExpiry := some (time + 20), gapCount := 0, v := 0, lastM := none, lastD := none, lastT := none }
  rule0 : t.rule 0 = ⟨true, #v[true, true, true, true], .shock, 2500, 1, 0, #v[0, 0, 0, 0]⟩
  rule1 : t.rule 1 = ⟨true, #v[true, true, true, true], .fall, 300, 3, 0, #v[0, 0, 0, 0]⟩
  rule2 : t.rule 2 = ⟨true, #v[true, true, true, true], .tilt, 181, 10, 1, #v[0, 0, 0, 0]⟩
  otherRules : ∀ k : Fin 16, 3 ≤ k.val →
    t.rule k = ⟨false, #v[false, false, false, false], .shock, 0, 1, 0, #v[0, 0, 0, 0]⟩
  class0 : t.cls 0 = ⟨#v[true, true, true, true], true, true, 300, true, none, #v[true, true, true, true], 0⟩
  class1 : t.cls 1 = ⟨#v[true, true, true, true], true, true, 1000, false, none, #v[false, false, false, false], 0⟩
  otherClasses : ∀ c : ClassId, 2 ≤ c.val →
    t.cls c = ⟨#v[false, false, false, false], false, false, 100, false, none, #v[false, false, false, false], 0⟩
  zones : ∀ z : ZoneId, t.zones[z] = ⟨true, true⟩
  groups : ∀ g, t.group g = none

/-- The command executes a RESTART with the tag `tag` in its event (R180). -/
def ExecutesRestart (s : State) (c : Instr) (tag : Byte) : Prop :=
  (c = .restart tag [] ∧ s.trunk.transmitting = false)
    ∨ (c = .restartExecution ∧ s.trunk.transmitting = false ∧ s.trunk.restartPending = some tag)
    ∨ (c = .answerSent ∧ s.trunk.transmitting = true ∧ s.trunk.restartPending = some tag)

/-- The slot is present with its switch on, so that a RESTART takes it to PROBING (R181). -/
def probes (s : State) (i : SlotId) : Bool := (s.slot i).present && (s.slot i).powerSwitch

/-- The reservation total that a RESTART leaves: 8 for each slot that enters PROBING (R35, R181). -/
def probingTotal (s : State) : Nat := 8 * allSlots.countP (probes s)

/-- The ceiling in force that a RESTART leaves: the source is kept and the ceilings are at their defaults (R181). -/
def restartCeiling (s : State) : Nat := if s.supply.source = .mains then 200 else 80

/-- A flag's bit in a flag set byte (R200). -/
def flagBit : Flag → Nat
  | .holdChange => 0
  | .slotFault => 1
  | .nodeSilent => 2
  | .overCeiling => 3
  | .selfPark => 4
  | .presenceChange => 5

/-! ### Samples -/

/-- A sample frame on lane `n` that is accepted: its node field is the lane's, the node is enabled, and it is no
duplicate, not of the sequence either that an expiry of this instant took away (R68, R85, R87, R92). -/
def Accepts (s : State) (n : NodeId) (node seq : Byte) : Prop :=
  node.toNat = n.val ∧ (s.node n).status ≠ .off ∧ (s.node n).lastSequence ≠ some seq
    ∧ (s.node n).lapsed ≠ some (s.now, seq)

/-- The accepted sample breaks the run of sequence numbers (R85). -/
def isGap (s : State) (n : NodeId) (seq : Byte) : Bool :=
  (s.node n).lastSequence.any fun l => decide (seq ≠ l + 1)

/-- A node's recovery progress after an accepted sample, before the comparison with the recovery count: a gap restarts
it, unless it already stood at the count (R88, R89). -/
def progressAfter (r : NodeRecord) (gap : Bool) : Nat :=
  match r.status with
  | .silent => 1
  | .recovering =>
    if r.config.recoveryCount ≤ r.progress then r.config.recoveryCount else if gap then 1 else r.progress + 1
  | .live => r.progress
  | .off => r.progress

/-- The node comes to be trusted, or stays so, at an accepted sample (R88). -/
def trustedAfter (r : NodeRecord) (gap : Bool) : Bool :=
  decide (r.status = .live) || decide (r.config.recoveryCount ≤ progressAfter r gap)

/-- A rule's comparison for a sample's results M, D, V and T (the table of R81). -/
def compares (r : MotionRule) (m d v : Nat) (t : Int) : Prop :=
  match r.metric with
  | .shock => r.threshold ≤ (d : Int)
  | .vibration => r.threshold ≤ (v : Int)
  | .fall => (m : Int) < r.threshold
  | .tilt => t < r.threshold

end Sys2Proof.Machine
end

