-- ==== Sys2Proof/Certificates/Slice0/Obligations.lean ====
section
/-! DEFINITION. Certificates/Slice0/Obligations.lean: the statements for the provers. -/

open Sys2Proof Sys2Proof.Machine

/-! ### The step, the resets and the trunk port -/

/-- A step takes the command at the front of the queue and is that command's effect over the queue's rest: what a step of
the model is (DESIGN CHOICE, log 6). -/
def Obligations.StepTakesFrontCommand : Prop :=
  ∀ (s : State) (c : Instr) (rest : List Instr),
    s.pending = c :: rest → step s = exec c { s with pending := rest }

/-- The model's own fields, by the model's choice in every clause: a command, POWER_ON_RESET among them, leaves the waiting
commands alone (log 6, log 12); none but a power-on reset moves the time base (log 1) or forgets what was sent on the
trunk link and the lanes (log 11). -/
def Obligations.CommandsKeepQueueAndTime : Prop :=
  ∀ (s t : State) (c : Instr), exec c s = .next t →
    t.pending = s.pending ∧
    (c ≠ .powerOnReset → t.now = s.now ∧ s.trunk.transmitted <+: t.trunk.transmitted ∧
      ∀ i, (s.lane i).transmitted <+: (t.lane i).transmitted)

/-- With no command waiting one millisecond passes, each expiry that the time base has reached, and nothing else, waits as
its command, and an idle transmitter begins the frame that waits at the head, its symbols before it (all the model's
choice: log 2, log 3, log 21). -/
def Obligations.IdleStepIsTick : Prop :=
  ∀ s : State, s.pending = [] →
    ∃ t, step s = .next t ∧ t = { s with now := s.now + 1, pending := t.pending, trunk := t.trunk } ∧
      (s.trunk.transmitting = false → s.trunk.restartPending = none → s.trunk.queue ≠ [] →
        t.trunk =
          { s.trunk with
            transmitting := true, flowDue := []
            transmitted := s.trunk.transmitted ++ s.trunk.flowDue.map .symbol }) ∧
      (s.trunk.transmitting = true ∨ s.trunk.restartPending ≠ none ∨ s.trunk.queue = [] → t.trunk = s.trunk) ∧
      (∀ i, .presenceDebounceExpiry i ∈ t.pending ↔ ∃ e ∈ (s.slot i).debounceExpiry, e ≤ s.now + 1) ∧
      (∀ i, .selfParkHoldExpiry i ∈ t.pending ↔ ∃ e ∈ (s.slot i).selfParkExpiry, e ≤ s.now + 1) ∧
      (∀ i, .waitDeadline i ∈ t.pending ↔
        ∃ a ∈ (s.slot i).active, ∃ e ∈ a.waitDeadline, e ≤ s.now + 1) ∧
      (∀ i tag, .opDeadlineExpiry i tag ∈ t.pending ↔
        (∃ g ∈ (s.lane i).governed, g.tag = tag ∧ g.deadline ≤ s.now + 1) ∨
        (∃ p ∈ (s.lane i).preempting, p.tag = tag ∧ p.deadline ≤ s.now + 1) ∨
        (∃ p ∈ (s.lane i).plain, p.tag = tag ∧ p.deadline ≤ s.now + 1)) ∧
      (.sourceDebounceExpiry ∈ t.pending ↔ ∃ e ∈ s.supply.debounceExpiry, e ≤ s.now + 1) ∧
      (.staggerTimerExpiry ∈ t.pending ↔ ∃ e ∈ s.arbiter.staggerExpiry, e ≤ s.now + 1) ∧
      (∀ n, .silenceTimerExpiry n ∈ t.pending ↔ ∃ e ∈ (s.node n).silenceExpiry, e ≤ s.now + 1) ∧
      (∀ c, .classExpiry c ∈ t.pending ↔
        (s.cls c).active = true ∧ ∃ e ∈ (s.cls c).expiry, e ≤ s.now + 1) ∧
      t.pending.Perm ({ s with now := s.now + 1 }).due

/-- A power-on reset gives every block its power-on values over the present pin levels (R1, R50, R155, R171, R179). That
the time base starts from 0 (log 1), that the waiting commands are kept (log 12), that the records of what was sent are
emptied (log 11) and that the nodes' own field lapsed is absent (log 33) is the model's choice. -/
def Obligations.PowerOnResetDefaults : Prop :=
  ∀ s : State, ∃ t, exec .powerOnReset s = .next t ∧ DefaultsHeld t 0 ∧ t.now = 0 ∧ t.pending = s.pending ∧
    t.mgmt.flags = ⟨false, false, false, false, false, false⟩ ∧ t.arbiter.reservationTotal = 0 ∧
    t.trunk = ⟨[], false, 0, false, [.go], none, []⟩ ∧
    t.supply = ⟨s.supply.line, .battery, if s.supply.line = .high then some 100 else none, false⟩ ∧
    ∀ i : SlotId,
      t.lane i = ⟨255, [], none, none, none, none, none, []⟩ ∧ (t.slot i).zone.val = i.val / 6 ∧
      t.slot i =
        { present := false, input := (s.slot i).input
          debounceExpiry := if (s.slot i).input = .low then some 100 else none
          inService := true, state := .empty, zone := (t.slot i).zone, profile := 0, shedClass := 0
          standing := .stopped, lastPriority := none, active := none, reservation := 0, drawKept := .running
          powerSwitch := false, shedMark := false, selfParkExpiry := none, faultCause := none
          spinUps := 0, emergencyUnloads := 0, selfParks := 0, lateReports := 0 }

/-- A RESTART whose arrival finds a frame in transmission only becomes pending, with its own tag; while the frame runs no
command but ANSWER_SENT and a power-on reset, and no tick, executes it: it stays pending and the egress queue is not
emptied (R180). That RESTART_EXECUTION while a frame runs or without a pending RESTART changes nothing is the model's
choice (log 10). -/
def Obligations.RestartWaitsForFrame : Prop :=
  ∀ (s : State) (tag : Byte),
    (s.trunk.transmitting = true →
      exec (.restart tag []) s = .next { s with trunk := { s.trunk with restartPending := some tag } }) ∧
    (s.trunk.transmitting = true → s.trunk.restartPending.isSome = true →
      (∀ (c : Instr) (t : State), c ≠ .answerSent → c ≠ .powerOnReset → exec c s = .next t →
        t.trunk.transmitting = true ∧ t.trunk.restartPending.isSome = true ∧ s.trunk.queue <+: t.trunk.queue) ∧
      ∀ t : State, s.pending = [] → step s = .next t → t.trunk = s.trunk) ∧
    (s.trunk.transmitting = true → exec .restartExecution s = .next s) ∧
    (s.trunk.restartPending = none → exec .restartExecution s = .next s)

/-- The execution of a RESTART (R181): every block at its RESTART values, the switches and the lanes' tags kept, each
present slot whose switch is on PROBING with its QUERY sent, the over-ceiling test with its marking, and the DONE alone
in the emptied queue, before which GO is sent. By the model's choice the DONE's payload is empty (log 24), RESTART_EXECUTION
is an executing event (log 10), a symbol that waited is dropped (log 31), the DONE is begun when the time base next
advances (log 21), and the nodes' own field lapsed is absent (log 33). -/
def Obligations.RestartExecution : Prop :=
  ∀ (s : State) (c : Instr) (tag : Byte), ExecutesRestart s c tag → LanesKept s →
    ∃ t, exec c s = .next t ∧ DefaultsHeld t s.now ∧ t.now = s.now ∧
      t.arbiter.reservationTotal = probingTotal s ∧
      t.supply =
        { s.supply with
          debounceExpiry := if sourceOf s.supply.line = s.supply.source then none else some (s.now + 100)
          overCeiling := decide (restartCeiling s < probingTotal s) } ∧
      t.mgmt.flags = ⟨false, false, false, decide (restartCeiling s < probingTotal s), false, false⟩ ∧
      t.trunk = ⟨[⟨31, 11, tag, .done, []⟩], false, 0, false, [.go], none,
        s.trunk.transmitted ++ (if c = .answerSent then (s.trunk.queue.take 1).map .answer else [])⟩ ∧
      (∃ u, step { t with pending := [] } = .next u ∧ u.trunk = ⟨[⟨31, 11, tag, .done, []⟩], true, 0, false, [], none,
        t.trunk.transmitted ++ [.symbol .go]⟩) ∧
      ∀ i : SlotId, (t.slot i).zone.val = i.val / 6 ∧
        t.slot i =
          { present := (s.slot i).present, input := (s.slot i).input
            debounceExpiry := if seated (s.slot i).input = (s.slot i).present then none else some (s.now + 100)
            inService := true
            state := if probes s i then .probing else if (s.slot i).present then .stopped else .empty
            zone := (t.slot i).zone, profile := 0, shedClass := 0, standing := .stopped, lastPriority := none
            active := none, reservation := if probes s i then 8 else 0, drawKept := .running
            powerSwitch := (s.slot i).powerSwitch
            shedMark := probes s i && decide (restartCeiling s < probingTotal s) &&
              decide (restartCeiling s < 8 * allSlots.countP fun j => probes s j && decide (j ≤ i))
            selfParkExpiry := none, faultCause := none
            spinUps := 0, emergencyUnloads := 0, selfParks := 0, lateReports := 0 } ∧
        (t.lane i).preempting = none ∧ (t.lane i).held = none ∧ (t.lane i).plain = none ∧
        (t.lane i).lastPreempted = none ∧ (∀ x ∈ (s.lane i).outstanding, x ∈ (t.lane i).retired) ∧
        (probes s i = false →
          (t.lane i).governed = none ∧ (t.lane i).lastTag = (s.lane i).lastTag ∧
          (t.lane i).transmitted = (s.lane i).transmitted) ∧
        (probes s i = true →
          FirstFree { s.lane i with retired := (t.lane i).retired, governed := none, preempting := none, plain := none }
            (t.lane i).lastTag ∧
          (t.lane i).governed = some ⟨.query, (t.lane i).lastTag, s.now, s.now + 250, .sole⟩ ∧
          (t.lane i).transmitted = (s.lane i).transmitted ++ [.governed .query (t.lane i).lastTag])

/-- ANSWER_SENT with no RESTART pending: the frame sent leaves the head of the queue, the waiting symbols go out between
frames, the next frame is begun, and HOLD is left with GO when 8 entries are free again (R136, R137). A frame that was
placed while the transmitter was idle has been begun, its symbols before it, and sent; with no frame queued nothing has
been sent (both the model's choice: log 21, log 29). -/
def Obligations.AnswerSentFreesEntry : Prop :=
  ∀ (s : State) (a : AnswerFrame) (rest : List AnswerFrame), TrunkKept s → s.trunk.restartPending = none →
    (s.trunk.queue = a :: rest →
      ∃ t, exec .answerSent s = .next t ∧ OnlyTrunk s t ∧
        t.trunk = ⟨rest, !rest.isEmpty, s.trunk.reservations, decide (t.freeEntries < 8), [], none,
          s.trunk.transmitted
            ++ (if s.trunk.transmitting then .answer a :: s.trunk.flowDue.map .symbol
                else s.trunk.flowDue.map .symbol ++ [.answer a])
            ++ (if s.trunk.hold && decide (8 ≤ t.freeEntries) then [.symbol .go] else [])⟩) ∧
    (s.trunk.queue = [] → exec .answerSent s = .next s)

/-- A trunk frame other than RESTART that finds no free egress entry is discarded without answer and without change
(R137). -/
def Obligations.FullEgressDiscardsFrames : Prop :=
  ∀ (s : State) (c : Instr), s.freeEntries = 0 → trunkFrameCommand c = true → exec c s = .next s

/-- Frames refused by R120, R142 and R185 are answered with their destination as source, kind and tag echoed and an
empty payload, and change nothing but the trunk port. A frame in which nothing is refused has the effect of the command
its destination and kind make it (the model's choice: log 9). -/
def Obligations.RefusedFramesAnswered : Prop :=
  ∀ (s : State) (f : TrunkFrame) (b : FrameBody) (d : GroupDest) (k : Fin 16) (unknown : Fin 4) (tag : Byte),
    s.freeEntries ≠ 0 →
    (RefusedFrame f → ∃ t, exec (.malformedFrame f) s = .next t ∧
      AnsweredOnly s t ⟨f.destination, f.body.kind, f.body.tag, .malformed, []⟩) ∧
    (¬RefusedFrame f → exec (.malformedFrame f) s = exec (s.trunkCommand f) s) ∧
    (∃ t, exec (.unknownManagementKind unknown tag) s = .next t ∧
      AnsweredOnly s t ⟨31, byte (12 + unknown.val), tag, .malformed, []⟩) ∧
    (b.wf = false → ∃ t, exec (.groupFrame d b) s = .next t ∧
      AnsweredOnly s t ⟨groupSource d, b.kind, b.tag, .malformed, []⟩) ∧
    (b.wf = true → k.val = b.kind.toNat → s.kindMap[k] = .forward ∨ s.kindMap[k] = .forwardIfClear →
      ∃ t, exec (.groupFrame d b) s = .next t ∧
        AnsweredOnly s t ⟨groupSource d, b.kind, b.tag, .malformed, []⟩) ∧
    (b.wf = true → k.val = b.kind.toNat → s.kindMap[k] ≠ .forward → s.kindMap[k] ≠ .forwardIfClear →
      (∀ g, (s.group g).isSome = true) →
      ∃ t, exec (.groupFrame d b) s = .next t ∧
        AnsweredOnly s t ⟨groupSource d, b.kind, b.tag, .groupFull, []⟩)

/-! ### Slot-addressed frames and group frames -/

/-- A slot frame is refused by the first check that refuses it, in the order of R123: MALFORMED (R120), ABSENT and BLOCKED
(R123), HELD and LANE_BUSY (R124), CONFIG_MODE, WITHDRAWN, FAULTED and SHEDDING (R125). It changes nothing but the trunk
port, where its answer echoes kind and tag with an empty payload (R139). -/
def Obligations.SlotFrameRefused : Prop :=
  ∀ (s : State) (i : SlotId) (f : FrameBody) (c : Instr) (k : Fin 16) (code : AnswerCode),
    SlotFrameCommand i f c → s.freeEntries ≠ 0 → SlotRefused s i f k code →
    ∃ t, exec c s = .next t ∧ AnsweredOnly s t ⟨byte i.val, f.kind, f.tag, code, []⟩

/-- A plain frame that no check refuses is issued on the lane with a fresh tag, kind and payload unchanged, the plain
deadline running; nothing else but the trunk port's reservation changes (R62). -/
def Obligations.PlainFrameTaken : Prop :=
  ∀ (s : State) (i : SlotId) (f : FrameBody) (c : Instr) (k : Fin 16),
    SlotFrameCommand i f c → s.freeEntries ≠ 0 → f.wf = true → (s.slot i).present = true → k.val = f.kind.toNat →
    s.kindMap[k] = .forward ∨ s.kindMap[k] = .forwardIfClear ∧ s.covered i = false ∧ s.frozen i = false →
    (s.lane i).plain = none → LaneKept s i →
    ∃ t, exec c s = .next t ∧ t = { s with trunk := t.trunk, lanes := t.lanes } ∧
      t.trunk.queue = s.trunk.queue ∧ t.trunk.reservations = s.trunk.reservations + 1 ∧
      FirstFree (s.lane i) (t.lane i).lastTag ∧
      t.lane i =
        { s.lane i with
          lastTag := (t.lane i).lastTag
          plain := some ⟨(t.lane i).lastTag, f.tag, k, s.now, s.now + 10 * s.mgmt.timing.plainDeadline⟩
          transmitted := (s.lane i).transmitted ++ [.plain (t.lane i).lastTag k f.payload] } ∧
      ∀ j, j ≠ i → t.lane j = s.lane j

/-- An accepted request: the former one, CONTROLLER or GROUP, receives SUPERSEDED, on the trunk link or in its group's
record; the new one becomes active with its tag, kind, target, priority and wait deadline, unless the slot already stands
at its target, when it is answered DONE; standing target and last priority are written; no other slot moves but by a grant
(R3, R127, R128, R148, R150). -/
def Obligations.AcceptedRequestRecorded : Prop :=
  ∀ (s : State) (i : SlotId) (f : FrameBody) (c : Instr) (k : Fin 16) (p : Fin 8) (tgt : Target),
    SlotFrameCommand i f c → AcceptedFrame s i f k tgt → p.val = f.priority.toNat →
    AccountKept s → HeadsAllowed s → GroupsKept s →
    ∃ t, exec c s = .next t ∧ SlotEvent s t ∧ t.mgmt = s.mgmt ∧
      (∀ g, t.group g = groupAfter s [i] .superseded g) ∧
      MovedFrom s t i { s.slot i with
        standing := tgt, lastPriority := some p
        active := if atTarget (s.slot i).state tgt then none
          else some ⟨.controller, f.tag, k, tgt, deadlineOf s f, p⟩ } ∧
      t.trunk.queue = s.trunk.queue ++ outcomeAnswers s [i] .superseded
        ++ (if atTarget (s.slot i).state tgt then [⟨byte i.val, f.kind, f.tag, .done, []⟩] else []) ∧
      t.trunk.reservations = (s.trunk.reservations - (outcomeAnswers s [i] .superseded).length)
        + (if atTarget (s.slot i).state tgt then 0 else 1) ∧
      (t.slot i).emergencyUnloads = (s.slot i).emergencyUnloads ∧
      ∀ j, j ≠ i → SparedOrGranted s t j

/-- Acceptance moves the slot by the rule of its state, with the op the new state waits on asked of the lane, no op in
flight abandoned, and a queued slot keeping its place (R13 to R18, R34, R129). -/
def Obligations.AcceptedRequestMovesSlot : Prop :=
  ∀ (s : State) (i : SlotId) (f : FrameBody) (c : Instr) (k : Fin 16) (tgt : Target),
    SlotFrameCommand i f c → AcceptedFrame s i f k tgt → AccountKept s → LanesKept s →
    ∃ t, exec c s = .next t ∧ Proceeded s t i (s.slot i).state ∧
      (t.lane i).awaited = (t.slot i).state.waitsOn ∧
      (∀ x ∈ (s.lane i).outstanding, x ∈ (t.lane i).outstanding) ∧
      ((s.slot i).state = .spinningUp → (t.slot i).state = .spinningDown → (t.slot i).drawKept = .spinUp) ∧
      ((s.slot i).state = .parked → (t.slot i).state = .spinningDown → (t.slot i).drawKept = .running) ∧
      ((s.slot i).state = .queued → tgt ≠ .stopped → t.arbiter.queues = s.arbiter.queues) ∧
      ((t.slot i).state = .stopped → t.entriesOf i = 0) ∧
      t.arbiter.reservationTotal = s.arbiter.reservationTotal
        + ((allSlots.filter fun j => decide ((t.slot j).state = .spinningUp ∧ (s.slot j).state ≠ .spinningUp)).map
            fun j => (t.slot j).reservation).sum

/-- A request that raises a STOPPED slot while the stagger refuses joins the tail of the queue of its priority with that
priority used; the other queues are as they were (R31, R32, R38). -/
def Obligations.RequestJoinsQueueTail : Prop :=
  ∀ (s : State) (i : SlotId) (f : FrameBody) (c : Instr) (k : Fin 16) (p : Fin 8) (tgt : Target) (last : Nat),
    SlotFrameCommand i f c → AcceptedFrame s i f k tgt → p.val = f.priority.toNat → AccountKept s →
    (s.slot i).state = .stopped → tgt ≠ .stopped → s.arbiter.lastGrant = some last →
    s.now < last + 10 * s.arbiter.staggerInterval →
    ∃ t, exec c s = .next t ∧ (t.slot i).state = .queued ∧ t.arbiter.lastGrant = some last ∧
      t.arbiter.queues[s.arbiter.priorityMap[p]] = s.arbiter.queues[s.arbiter.priorityMap[p]] ++ [⟨i, some p⟩] ∧
      (∀ q : Fin 4, q ≠ s.arbiter.priorityMap[p] → t.arbiter.queues[q] = s.arbiter.queues[q]) ∧
      ∀ j, j ≠ i → Untouched s t j

/-- A group frame of a BLOCK kind, or of a governed kind in CONFIG, is answered in its event with every member refused,
in ascending slot number, and leaves nothing but that answer (R142, R144, R147, R150, R153). -/
def Obligations.GroupAnsweredAtOnce : Prop :=
  ∀ (s : State) (d : GroupDest) (f : FrameBody) (k : Fin 16) (code : AnswerCode),
    s.freeEntries ≠ 0 → f.wf = true → k.val = f.kind.toNat → (∃ g, s.group g = none) →
    (s.kindMap[k] = .block ∧ code = .blocked) ∨
      (Governed s.kindMap[k] ∧ s.mgmt.mode = .config ∧ code = .configMode) →
    ∃ t, exec (.groupFrame d f) s = .next t ∧
      AnsweredOnly s t ⟨groupSource d, f.kind, f.tag, .done,
        byte (s.members d).length :: 0 :: byte (s.members d).length ::
          (s.members d).flatMap fun i =>
            [byte i.val, byte (if (s.slot i).present then code else .absent).code]⟩

/-- A group frame of a governed kind in RUN opens the lowest free record and takes the members in ascending slot number:
each is refused with its outcome in the results and nothing of its slot changed, or becomes the slot's active request with
its own target, its former request receiving SUPERSEDED, and goes by its state's rule, or is counted DONE at once; a record
that nothing remains in is answered last and freed. While the stagger refuses, the members that are raised join the tail of
the group queue, or of the queue of the group's priority where the settings say so, in ascending slot number (R142 to R147,
R150). -/
def Obligations.GroupMembersAccepted : Prop :=
  ∀ (s : State) (d : GroupDest) (f : FrameBody) (k : Fin 16) (p : Fin 8) (g : GroupId) (target : SlotId → Target),
    s.freeEntries ≠ 0 → f.wf = true → k.val = f.kind.toNat → p.val = f.priority.toNat →
    s.mgmt.mode = .run → s.group g = none → (∀ h, h < g → (s.group h).isSome = true) →
    (∀ i, targetTable s.kindMap[k] (s.slot i).standing = some (target i)) →
    AccountKept s → HeadsAllowed s → GroupsKept s →
    let refused := (s.members d).filterMap fun i => (memberCode s i (target i)).map fun c => (i, c)
    let taken := (s.members d).filter fun i => (memberCode s i (target i)).isNone
    let left := taken.filter fun i => !atTarget (s.slot i).state (target i)
    let record : GroupRecord := ⟨d, f.tag, k, s.kindMap[k], p, f.waitLimit, (s.members d).length, left,
      taken.length - left.length, refused⟩
    ∃ t, exec (.groupFrame d f) s = .next t ∧ SlotEvent s t ∧ t.mgmt = s.mgmt ∧
      (∀ i, i ∉ taken → SparedOrGranted s t i) ∧
      (∀ i ∈ taken,
        MovedFrom s t i { s.slot i with
          standing := target i, lastPriority := some p
          active := if atTarget (s.slot i).state (target i) then none
            else some ⟨.group g, f.tag, k, target i, deadlineOf s f, p⟩ } ∧
        Proceeded s t i (s.slot i).state ∧ (LaneKept s i → (t.lane i).awaited = (t.slot i).state.waitsOn) ∧
        (t.slot i).emergencyUnloads = (s.slot i).emergencyUnloads) ∧
      t.group g = (if left = [] then none else some record) ∧
      (∀ h, h ≠ g → t.group h = groupAfter s taken .superseded h) ∧
      t.trunk.queue = s.trunk.queue ++ outcomeAnswers s taken .superseded
        ++ (if left = [] then [⟨groupSource d, f.kind, f.tag, .done, byte (s.members d).length :: byte taken.length ::
              byte refused.length :: refused.flatMap fun e => [byte e.1.val, byte e.2.code]⟩] else []) ∧
      (∀ last, s.arbiter.lastGrant = some last → s.now < last + 10 * s.arbiter.staggerInterval →
        ∀ q : Fin 4, t.arbiter.queues[q] =
          s.arbiter.queues[q].filter (fun e => !(decide (e.slot ∈ taken) && decide (target e.slot = .stopped)))
            ++ (if q = (if s.arbiter.groupByPriority then s.arbiter.priorityMap[p] else s.arbiter.groupQueue) then
                (taken.filter fun i => decide ((s.slot i).state = .stopped ∧ target i ≠ .stopped)).map
                  fun i => ⟨i, some p⟩
              else []))

/-! ### Reads and refused management requests -/

/-- The reads are answered DONE with the contents of the moment, every field and its place written out, the entries of the
ten tables among them, and change nothing but the trunk port (R67, R97, R119, R187, R193, R194); the named values have the
codes of R200. That a tag takes two bytes and the remaining members of a group are sent as a list (log 14), that each field
of an absent record is absent (log 15), that the word free is left open (log 16) and that flags and enables take a byte each
(log 26) is the model's choice. -/
def Obligations.ReadsAnswered : Prop :=
  (∀ (s : State) (tag index : Byte) (tb : Table) (i : SlotId) (n : NodeId) (part : Fin 7), s.freeEntries ≠ 0 →
    (∀ fields, (tableFields s tb)[index.toNat]? = some fields →
      ∃ t, exec (.tableRead tag [byte tb.code, index]) s = .next t ∧
        AnsweredOnly s t ⟨31, 0, tag, .done, byte tb.code :: index :: fields⟩) ∧
    (∃ t, exec (.slotRead tag [byte i.val, 0]) s = .next t ∧
      AnsweredOnly s t ⟨31, 2, tag, .done, recordFields s i⟩) ∧
    (∃ t, exec (.slotRead tag [byte i.val, 1]) s = .next t ∧
      AnsweredOnly s t ⟨31, 2, tag, .done, laneFields s i⟩) ∧
    (∃ t, exec (.nodeRead tag [byte n.val]) s = .next t ∧
      AnsweredOnly s t ⟨31, 3, tag, .done, nodeFields s n⟩) ∧
    (∃ t, exec (.statusRead tag [byte part.val]) s = .next t ∧
      AnsweredOnly s t ⟨31, 4, tag, .done, sectionFields s part⟩)) ∧
  (∀ s : State, ([.kindMap, .priorityMap, .drawProfiles, .slotConfiguration, .ceilings, .stagger, .nodeConfiguration,
      .motionRules, .classes, .timing] : List Table).map (fun tb => (tb.code, (tableFields s tb).length)) =
    [(0, 16), (1, 9), (2, 8), (3, 24), (4, 1), (5, 1), (6, 4), (7, 16), (8, 8), (9, 1)]) ∧
  ([.stopped, .atLeastParked, .atMostParked, .loaded, .forward, .forwardIfClear, .block] : List Action).map Action.code =
    List.range 7 ∧
  ([.shock, .vibration, .fall, .tilt] : List Metric).map Metric.code = List.range 4 ∧
  ([.empty, .stopped, .queued, .spinningUp, .parked, .loading, .loaded, .unloading, .spinningDown, .probing,
    .fault] : List SlotState).map SlotState.code = List.range 11 ∧
  ([.stopped, .parked, .loaded] : List Target).map Target.code = List.range 3 ∧
  ([.spinUp, .running] : List DrawKept).map DrawKept.code = List.range 2 ∧
  ([.controller, .group 0, .group 1, .group 2, .group 3] : List Origin).map Origin.code = List.range 5 ∧
  (∀ c : Byte, ([.spinFailed c, .spinTimeout, .loadFailed c, .loadTimeout, .unloadFailed c, .unloadTimeout, .stopFailed c,
      .stopTimeout, .carrierFault c, .probeTimeout] : List FaultCause).map FaultCause.codes =
    [(0, c), (1, 0), (2, c), (3, 0), (4, c), (5, 0), (6, c), (7, 0), (8, c), (9, 0)]) ∧
  ([.off, .live, .silent, .recovering] : List NodeStatus).map NodeStatus.code = List.range 4 ∧
  ([.sole, .first, .residual] : List Role).map Role.code = List.range 3 ∧
  ([.spin, .stop, .load, .unload, .query] : List GovernedOp).map GovernedOp.code = List.range 5 ∧
  (∀ c : Byte, ([.done, .failed c, .aborted, .timeout] : List OpOutcome).map OpOutcome.codes =
    [(0, 0), (1, c), (2, 0), (3, 0)]) ∧
  ([.mains, .battery] : List Source).map Source.code = List.range 2 ∧
  ([.config, .run] : List Mode).map Mode.code = List.range 2 ∧
  ([.plusX, .minusX, .plusY, .minusY, .plusZ, .minusZ] : List Direction).map Direction.code = List.range 6

/-- Every read answer takes at most 56 bytes, and so fits the 60 of an answer payload; a GROUP section with 23 results and
one remaining member takes 56 (12.3; log 14). Every group answer takes at most 51: from any record that is open, and from
any that a group frame opens, every run of member outcomes, whether it leaves members remaining or empties the record and so
answers it, comes to a payload of at most 51 bytes (R148, R150). -/
def Obligations.ReadPayloadsFit : Prop :=
  ∀ s : State, AccountKept s → LanesKept s → GroupsKept s →
    (∀ i, (s.recordPart i).length ≤ 56 ∧ (s.lanePart i).length ≤ 56) ∧
    (∀ n, (s.nodeReadPayload n).length ≤ 56) ∧
    (∀ part : Fin 7, (s.statusReadPayload part.val).length ≤ 56) ∧
    (∀ g r, s.group g = some r → r.results.length = 23 → r.remaining.length = 1 →
      (s.statusReadPayload (3 + g.val)).length = 56) ∧
    (∀ (tb : Table) (index : Byte), (s.tablePayload tb index).length ≤ 56) ∧
    ∀ r : GroupRecord, (∃ g, s.group g = some r) ∨ (∃ d f a, r = s.openedRecord d f a) →
      ∀ outcomes : List (SlotId × AnswerCode), (outcomes.map (·.1)).Nodup → (∀ o ∈ outcomes, o.1 ∈ r.remaining) →
        (outcomes.foldl (fun r o => r.withOutcome o.1 o.2) r).payload.length ≤ 51

/-- A management request whose payload does not have the length and the codes of its form is refused MALFORMED, and one
whose index lies outside its range BAD_INDEX, with an empty payload and no change but the trunk port's (R185, R200). -/
def Obligations.RequestFormsRefused : Prop :=
  ∀ (s : State) (tag b part : Byte) (p : List Byte) (tb : Table), s.freeEntries ≠ 0 →
    (∀ q ∈ [(Instr.tableRead tag p, 0), (.slotRead tag p, 2), (.nodeRead tag p, 3), (.statusRead tag p, 4),
        (.clearFault tag p, 6), (.withdraw tag p, 7), (.restore tag p, 8), (.ackEvents tag p, 9),
        (.setEnables tag p, 10), (.restart tag p, 11)],
      ¬ProperForm q.2 p →
      ∃ t, exec q.1 s = .next t ∧ AnsweredOnly s t ⟨31, byte q.2, tag, .malformed, []⟩) ∧
    (tb.code, tb.entries) ∈
      [(0, 16), (1, 9), (2, 8), (3, 24), (4, 1), (5, 1), (6, 4), (7, 16), (8, 8), (9, 1)] ∧
    (tb.entries ≤ b.toNat → ∃ t, exec (.tableRead tag [byte tb.code, b]) s = .next t ∧
      AnsweredOnly s t ⟨31, 0, tag, .badIndex, []⟩) ∧
    (24 ≤ b.toNat → part.toNat ≤ 1 → ∃ t, exec (.slotRead tag [b, part]) s = .next t ∧
      AnsweredOnly s t ⟨31, 2, tag, .badIndex, []⟩) ∧
    (4 ≤ b.toNat → ∃ t, exec (.nodeRead tag [b]) s = .next t ∧ AnsweredOnly s t ⟨31, 3, tag, .badIndex, []⟩) ∧
    (∀ q ∈ [(Instr.clearFault tag [b], 6), (.withdraw tag [b], 7), (.restore tag [b], 8)],
      24 ≤ b.toNat → ∃ t, exec q.1 s = .next t ∧ AnsweredOnly s t ⟨31, byte q.2, tag, .badIndex, []⟩)

/-- A TABLE_WRITE is refused by the first check that refuses it, and leaves the entry and every state that depends on
it as it was (R185, R188). -/
def Obligations.TableWritesRefused : Prop :=
  ∀ (s : State) (tb : Table) (tag index : Byte) (entry : List Byte) (code : AnswerCode),
    s.freeEntries ≠ 0 → WriteRefused s tb index entry code →
    ∃ t, exec (writeCommand tag index entry tb) s = .next t ∧ AnsweredOnly s t ⟨31, 1, tag, code, []⟩

/-! ### Table writes -/

/-- Writes of the kind map, the priority map and its group settings, the stagger, the timing table and a motion rule:
the fields are clamped and stored, a rule's four counters become 0, the answer is DONE with the entry as stored, and
nothing else changes (R30, R38, R99, R122, R186, R189). -/
def Obligations.PlainTableWritesStored : Prop :=
  ∀ (s : State) (tag index b0 b1 b2 : Byte) (w : Word16) (a : Action) (q : Fin 4) (yes : Bool) (ns : Set4)
    (m : Metric) (c : ClassId), s.freeEntries ≠ 0 →
    (∀ k : Fin 16, s.mgmt.mode = .config → k.val = index.toNat →
      ∃ t, exec (.kindMapWrite tag index [byte a.code]) s = .next t ∧
        AnsweredOnly { s with kindMap := s.kindMap.set k.val a } t ⟨31, 1, tag, .done, [0, index, byte a.code]⟩) ∧
    (∀ k : Fin 8, k.val = index.toNat → q.val = min b0.toNat 3 →
      ∃ t, exec (.priorityMapWrite tag index [b0, b1]) s = .next t ∧
        AnsweredOnly { s with arbiter := { s.arbiter with priorityMap := s.arbiter.priorityMap.set k.val q } } t
          ⟨31, 1, tag, .done, [1, index, byte q.val, 0]⟩) ∧
    (index = 8 → q.val = min b0.toNat 3 →
      ∃ t, exec (.priorityMapWrite tag index [b0, if yes then 1 else 0]) s = .next t ∧
        AnsweredOnly { s with arbiter := { s.arbiter with groupQueue := q, groupByPriority := yes } } t
          ⟨31, 1, tag, .done, [1, 8, byte q.val, if yes then 1 else 0]⟩) ∧
    (index = 0 → ∃ t, exec (.staggerWrite tag index [highByte w, lowByte w]) s = .next t ∧
      AnsweredOnly { s with arbiter := { s.arbiter with staggerInterval := min w.toNat 255 } } t
        ⟨31, 1, tag, .done, [5, 0, 0, byte (min w.toNat 255)]⟩) ∧
    (index = 0 → ∃ t, exec (.timingWrite tag index [b0, b1, b2]) s = .next t ∧
      AnsweredOnly { s with mgmt := { s.mgmt with
          timing := ⟨b0.toNat, max 1 (min 50 b1.toNat), max 1 b2.toNat⟩ } } t
        ⟨31, 1, tag, .done, [9, 0, b0, byte (max 1 (min 50 b1.toNat)), byte (max 1 b2.toNat)]⟩) ∧
    (∀ k : Fin 16, k.val = index.toNat →
      let th : Int := if m = .tilt then max (-256) (min 256 w.toInt) else max 0 (min 28000 w.toInt)
      let r : MotionRule := ⟨yes, ns, m, th, max 1 (min 15 b0.toNat), c, #v[0, 0, 0, 0]⟩
      ∃ t, exec (.motionRuleWrite tag index
          (flagByte yes ++ set4Byte ns ++ [byte m.code, highByte w, lowByte w, b0, byte c.val])) s = .next t ∧
        AnsweredOnly { s with rules := s.rules.set k.val r } t
          ⟨31, 1, tag, .done, 7 :: index :: (flagByte yes ++ set4Byte ns ++ [byte m.code] ++ signedTwo th ++
            [byte (max 1 (min 15 b0.toNat)), byte c.val, 0, 0, 0, 0])⟩)

/-- A draw-profile write that no slot's use forbids stores the clamped draws and deadlines and derives the reservations
of the powered slots that use the profile again; the total follows, and the over-ceiling condition is tested where it
has changed (R2, R10, R37, R158). -/
def Obligations.DrawProfileWriteRederives : Prop :=
  ∀ (s : State) (tag index b0 b1 b2 b3 b4 b5 : Byte) (k : Fin 8), s.freeEntries ≠ 0 → k.val = index.toNat →
    AccountKept s →
    (s.mgmt.mode = .config ∨
      ∀ j, (s.slot j).profile = k → (s.slot j).reservation = 0 ∧ (s.slot j).state ≠ .queued) →
    let p : DrawProfile := ⟨min b0.toNat 60, min b1.toNat 60, max 1 b2.toNat, max 1 b3.toNat, max 1 b4.toNat,
      max 1 b5.toNat⟩
    ∃ t, exec (.drawProfileWrite tag index [b0, b1, b2, b3, b4, b5]) s = .next t ∧
      SlotEvent { s with profiles := s.profiles.set k.val p } t ∧
      [⟨31, 1, tag, .done, [2, index, byte p.spinUpDraw, byte p.runningDraw, byte p.spinUpDeadline,
        byte p.spinDownDeadline, byte p.loadDeadline, byte p.unloadDeadline]⟩] <:+ t.trunk.queue ∧
      (∀ i, (t.slot i).reservation = if (s.slot i).profile = k ∧ (s.slot i).powerSwitch = true
        then (if (s.slot i).state = .spinningUp ∨ (s.slot i).state = .spinningDown ∧ (s.slot i).drawKept = .spinUp
          then p.spinUpDraw else p.runningDraw)
        else (s.slot i).reservation) ∧
      t.arbiter.reservationTotal = (allSlots.map fun i => (t.slot i).reservation).sum ∧
      (∀ i, (t.slot i).shedMark = (s.slot i).shedMark →
        t.slot i = { s.slot i with reservation := (t.slot i).reservation } ∧ t.lane i = s.lane i) ∧
      (t.arbiter.reservationTotal ≤ s.ceilingInForce → ∀ i, (t.slot i).shedMark = (s.slot i).shedMark) ∧
      t.supply.overCeiling = (if t.arbiter.reservationTotal = s.arbiter.reservationTotal then s.supply.overCeiling
        else decide (s.ceilingInForce < t.arbiter.reservationTotal))

/-- A slot-configuration write of a slot at rest stores the clamped fields, and the slot goes by its state's rule to the
effective target under its new zone (R2, R12, R188). -/
def Obligations.SlotConfigurationWriteStored : Prop :=
  ∀ (s : State) (tag index b0 b1 b2 : Byte) (i : SlotId) (z : ZoneId) (p : Fin 8) (sc : Fin 4),
    s.freeEntries ≠ 0 → i.val = index.toNat → z.val = min b0.toNat 3 → p.val = min b1.toNat 7 →
    sc.val = min b2.toNat 3 → AccountKept s →
    (s.slot i).state = .empty ∨ (s.slot i).state = .stopped ∨ (s.slot i).state = .fault →
    ∃ t, exec (.slotConfigurationWrite tag index [b0, b1, b2]) s = .next t ∧ SlotEvent s t ∧ t.mgmt = s.mgmt ∧
      t.trunk.queue = s.trunk.queue ++ [⟨31, 1, tag, .done, [3, index, byte z.val, byte p.val, byte sc.val]⟩] ∧
      MovedFrom s t i { s.slot i with zone := z, profile := p, shedClass := sc } ∧
      Proceeded s t i (s.slot i).state ∧
      ∀ j, j ≠ i → SparedOrGranted s t j

/-- A ceilings write stores each field clamped to 600 or keeps it where marked FFFFh; unchanged ceilings change nothing
more; at a changed ceiling the arbiter looks, and grants the first entry not frozen if its draw fits and the stagger has
passed; a slot else changes only by a grant or a shed mark, and the over-ceiling condition is the new figures' (R36, R39 to
R42, R158, R167). -/
def Obligations.CeilingsWriteStored : Prop :=
  ∀ (s : State) (tag : Byte) (mw bw : Word16), s.freeEntries ≠ 0 → AccountKept s →
    let m := if mw.toNat = 65535 then s.arbiter.mainsCeiling else min mw.toNat 600
    let b := if bw.toNat = 65535 then s.arbiter.batteryCeiling else min bw.toNat 600
    let stored : State := { s with arbiter := { s.arbiter with mainsCeiling := m, batteryCeiling := b } }
    ∃ t, exec (.ceilingsWrite tag 0 [highByte mw, lowByte mw, highByte bw, lowByte bw]) s = .next t ∧
      SlotEvent stored t ∧ [⟨31, 1, tag, .done, [4, 0] ++ two m ++ two b⟩] <:+ t.trunk.queue ∧
      (m = s.arbiter.mainsCeiling → b = s.arbiter.batteryCeiling →
        AnsweredOnly s t ⟨31, 1, tag, .done, [4, 0] ++ two m ++ two b⟩) ∧
      (∀ i, Spared s t i) ∧
      (m ≠ s.arbiter.mainsCeiling ∨ b ≠ s.arbiter.batteryCeiling → ∀ i, NextGrant s s i →
        s.arbiter.reservationTotal + (s.profileOf i).spinUpDraw ≤ stored.ceilingInForce → Granted s t i) ∧
      (stored.ceilingInForce < s.arbiter.reservationTotal →
        t.arbiter.reservationTotal = s.arbiter.reservationTotal ∧ t.arbiter.lastGrant = s.arbiter.lastGrant ∧
        (stored.ceilingInForce ≠ s.ceilingInForce → t.supply.overCeiling = true ∧
          (s.supply.overCeiling = false → t.mgmt.flags.overCeiling = true))) ∧
      (s.arbiter.reservationTotal ≤ stored.ceilingInForce →
        (∀ i, (t.slot i).shedMark = (s.slot i).shedMark) ∧ t.arbiter.reservationTotal ≤ stored.ceilingInForce ∧
        (stored.ceilingInForce ≠ s.ceilingInForce → t.supply.overCeiling = false))

/-- A node configuration write in CONFIG stores the clamped fields; a changed G sets V to 0; a disable or an enable acts
on the supervision fields and the counters; the node is then a blind holder of exactly its blind class exactly while SILENT
or RECOVERING: a class it joins becomes active, a class it leaves gets its hold time where it was the last holder, and is
else as it was (R70, R84, R93, R94, R95, R110, R111). That a disable or an enable leaves the node's own field lapsed absent
and any other write keeps it is the model's reading (log 33). -/
def Obligations.NodeConfigurationWriteActs : Prop :=
  ∀ (s : State) (tag index kb sl rc : Byte) (gw : Word16) (e : Bool) (d : Direction) (blind : Option ClassId)
    (n : NodeId), s.freeEntries ≠ 0 → n.val = index.toNat → s.mgmt.mode = .config → AccountKept s → NodesKept s →
    let old := s.node n
    let cfg : NodeConfig := ⟨e, d, max 500 (min 2000 gw.toNat), max 1 (min 6 kb.toNat), max 2 sl.toNat,
      max 1 (min 15 rc.toNat), blind⟩
    ∃ t, exec (.nodeConfigurationWrite tag index ([if e then 1 else 0, byte d.code, highByte gw, lowByte gw, kb, sl, rc]
        ++ optOne (blind.map (·.val)))) s = .next t ∧
      t.trunk.queue = s.trunk.queue ++ [⟨31, 1, tag, .done, [6, index, if e then 1 else 0, byte d.code]
        ++ two cfg.g ++ [byte cfg.k, byte cfg.silenceLimit, byte cfg.recoveryCount] ++ optOne (blind.map (·.val))⟩] ∧
      t.node n =
        { old with
          config := cfg
          v := if (old.config.enabled && !e) || decide (cfg.g ≠ old.config.g) then 0 else old.v
          status := if old.config.enabled = e then old.status else if e then .recovering else .off
          lastSequence := if old.config.enabled = e then old.lastSequence else none
          lapsed := if old.config.enabled = e then old.lapsed else none
          progress := if old.config.enabled = e then old.progress else 0
          silenceExpiry := if old.config.enabled = e then old.silenceExpiry
            else if e then some (s.now + cfg.silenceLimit) else none } ∧
      (∀ m, m ≠ n → t.node m = s.node m) ∧ t.mgmt.flags.nodeSilent = s.mgmt.flags.nodeSilent ∧
      (∀ (k : Fin 16) (m : NodeId), (t.rule k).counters[m] =
        if m = n ∧ old.config.enabled = true ∧ e = false then 0 else (s.rule k).counters[m]) ∧
      ∀ c : ClassId,
        let held : Bool := (s.cls c).holders[n]
        let holds : Bool := (t.node n).status.blind && decide (blind = some c)
        t.cls c =
          (if held = holds then s.cls c
          else if holds then { s.cls c with active := true, holders := (s.cls c).holders.set n.val true }
          else
            { s.cls c with
              holders := (s.cls c).holders.set n.val false
              expiry := if ∀ m : NodeId, m ≠ n → (s.cls c).holders[m] = false
                then some (max ((s.cls c).expiry.getD 0) (s.now + 10 * (s.cls c).holdTime)) else (s.cls c).expiry }) ∧
        (held = false → holds = true → (s.cls c).active = false → t.mgmt.flags.holdChange = true)

/-- A class write stores its four fields, the hold time clamped, and keeps the state fields; of an active class in CONFIG
the standings of the zones named before or after follow, the slots whose coverage changed go by their rules without
counting an emergency unload, and HOLD_CHANGE is not set (R116, R117). -/
def Obligations.ClassWriteActs : Prop :=
  ∀ (s : State) (tag index : Byte) (zs : Set4) (u fr : Bool) (w : Word16) (c : ClassId), s.freeEntries ≠ 0 →
    c.val = index.toNat → AccountKept s → HoldsKept s →
    let stored : ClassRecord := { s.cls c with zones := zs, unload := u, freeze := fr, holdTime := max 1 (min 6000 w.toNat) }
    let entry := set4Byte zs ++ [byte ((if u then 1 else 0) + (if fr then 2 else 0)), highByte w, lowByte w]
    ((s.cls c).active = false →
      ∃ t, exec (.classWrite tag index entry) s = .next t ∧
        AnsweredOnly { s with classes := s.classes.set c.val stored } t
          ⟨31, 1, tag, .done, 8 :: index :: (stored.fieldBytes ++ [0] ++ optTwo (remaining s.now stored.expiry)
            ++ set4Byte stored.holders ++ two stored.fireCount)⟩) ∧
    ((s.cls c).active = true → s.mgmt.mode = .config →
      ∃ t, exec (.classWrite tag index entry) s = .next t ∧ t.classes = s.classes.set c.val stored ∧
        t.trunk.queue = s.trunk.queue ++
          [⟨31, 1, tag, .done, 8 :: index :: (stored.fieldBytes ++ [1] ++ optTwo (remaining s.now stored.expiry)
            ++ set4Byte stored.holders ++ two stored.fireCount)⟩] ∧
        t.mgmt = s.mgmt ∧
        (∀ z : ZoneId, (s.cls c).zones[z] = false → zs[z] = false → t.zones[z] = s.zones[z]) ∧
        (∀ z : ZoneId, zs[z] = true → (u = true → t.zones[z].covered = true) ∧ (fr = true → t.zones[z].frozen = true)) ∧
        ∀ i, (t.slot i).emergencyUnloads = (s.slot i).emergencyUnloads ∧
          (t.covered i = s.covered i → Untouched s t i) ∧ (t.covered i ≠ s.covered i → Proceeded s t i (s.slot i).state))

/-! ### Mode, slot and event requests -/

/-- SET_MODE to the mode in force changes nothing; to CONFIG it is taken exactly while every slot is EMPTY, STOPPED or
FAULT and no group is open; to RUN it enqueues the STOPPED slots whose effective target lies above STOPPED, in ascending
slot number, by their last priorities (R25, R31, R32, R190). -/
def Obligations.ModeRequests : Prop :=
  ∀ (s : State) (tag : Byte), s.freeEntries ≠ 0 →
    (s.mgmt.mode = .run → ∃ t, exec (.setModeRun tag) s = .next t ∧ AnsweredOnly s t ⟨31, 5, tag, .done, [1]⟩) ∧
    (s.mgmt.mode = .config → ∃ t, exec (.setModeConfig tag) s = .next t ∧
      AnsweredOnly s t ⟨31, 5, tag, .done, [0]⟩) ∧
    (s.mgmt.mode = .run →
      (∀ i, (s.slot i).state = .empty ∨ (s.slot i).state = .stopped ∨ (s.slot i).state = .fault) →
      (∀ g, s.group g = none) →
      ∃ t, exec (.setModeConfig tag) s = .next t ∧
        AnsweredOnly { s with mgmt := { s.mgmt with mode := .config } } t ⟨31, 5, tag, .done, [0]⟩) ∧
    (s.mgmt.mode = .run →
      (∃ i, (s.slot i).state ≠ .empty ∧ (s.slot i).state ≠ .stopped ∧ (s.slot i).state ≠ .fault) ∨
        (∃ g, (s.group g).isSome = true) →
      ∃ t, exec (.setModeConfig tag) s = .next t ∧ AnsweredOnly s t ⟨31, 5, tag, .inUse, []⟩) ∧
    (s.mgmt.mode = .config → AccountKept s →
      let raised := fun i => decide ((s.slot i).state = .stopped ∧ s.effectiveTarget i ≠ .stopped)
      ∃ t, exec (.setModeRun tag) s = .next t ∧ t.mgmt = { s.mgmt with mode := .run } ∧
        t.trunk.queue = s.trunk.queue ++ [⟨31, 5, tag, .done, [1]⟩] ∧
        (∀ i, raised i = true → ((t.slot i).state = .queued ∨ (t.slot i).state = .spinningUp) ∧
          MovedFrom s t i (s.slot i)) ∧
        (∀ i, raised i = false → SparedOrGranted s t i) ∧
        (t.arbiter.lastGrant = s.arbiter.lastGrant → (∀ i, (s.slot i).state ≠ .queued) →
          (∀ i, raised i = true → (s.slot i).active = none ∧ (t.slot i).state = .queued) →
          ∀ q : Fin 4, t.arbiter.queues[q] = s.arbiter.queues[q] ++
            (allSlots.filter fun i => raised i && decide (q =
              ((s.slot i).lastPriority.map fun p => s.arbiter.priorityMap[p]).getD 0)).map
                fun i => ⟨i, (s.slot i).lastPriority⟩))

/-- CLEAR_FAULT, WITHDRAW and RESTORE naming one slot: FAULT goes to STOPPED; a slot leaves service with its request
given WITHDRAWN, on the trunk link or in its group's record, and goes down by its state's rule, its standing target kept;
a slot returns with standing target STOPPED; in any other case the record is as it was. Each is answered DONE last (R27,
R148, R150, R176, R177, R178, R192). -/
def Obligations.SlotRequests : Prop :=
  ∀ (s : State) (tag : Byte) (i : SlotId), s.freeEntries ≠ 0 → AccountKept s →
    ((s.slot i).state = .fault → ∃ t, exec (.clearFault tag [byte i.val]) s = .next t ∧
      AnsweredOnly (s.modifySlot i fun r => { r with state := .stopped, standing := .stopped }) t
        ⟨31, 6, tag, .done, [1]⟩) ∧
    ((s.slot i).state ≠ .fault → ∃ t, exec (.clearFault tag [byte i.val]) s = .next t ∧
      AnsweredOnly s t ⟨31, 6, tag, .done, [byte (s.slot i).state.code]⟩) ∧
    ((s.slot i).inService = true → GroupsKept s →
      ∃ t, exec (.withdraw tag [byte i.val]) s = .next t ∧ SlotEvent s t ∧ t.mgmt = s.mgmt ∧
        t.trunk.queue = s.trunk.queue ++ outcomeAnswers s [i] .withdrawn ++ [⟨31, 7, tag, .done, []⟩] ∧
        (∀ g, t.group g = groupAfter s [i] .withdrawn g) ∧
        t.slot i =
          { s.slot i with
            inService := false, active := none
            state := afterRecompute true (s.slot i).state .stopped
            powerSwitch := (afterRecompute true (s.slot i).state .stopped).powered
            drawKept := if (s.slot i).state = .spinningUp then .spinUp
              else if (s.slot i).state = .parked then .running else (s.slot i).drawKept } ∧
        MovedFrom s t i (t.slot i) ∧ (LaneKept s i → (t.lane i).awaited = (t.slot i).state.waitsOn) ∧
        (∀ x ∈ (s.lane i).outstanding, x ∈ (t.lane i).outstanding) ∧ t.entriesOf i = 0 ∧
        ∀ j, j ≠ i → Untouched s t j) ∧
    ((s.slot i).inService = false → ∃ t, exec (.withdraw tag [byte i.val]) s = .next t ∧
      AnsweredOnly s t ⟨31, 7, tag, .done, []⟩) ∧
    ((s.slot i).inService = false → ∃ t, exec (.restore tag [byte i.val]) s = .next t ∧ SlotEvent s t ∧
      t.mgmt = s.mgmt ∧ t.trunk.queue = s.trunk.queue ++ [⟨31, 8, tag, .done, []⟩] ∧
      MovedFrom s t i { s.slot i with inService := true, standing := .stopped } ∧
      (t.slot i).state = afterRecompute true (s.slot i).state .stopped ∧
      ∀ j, j ≠ i → Untouched s t j) ∧
    ((s.slot i).inService = true → ∃ t, exec (.restore tag [byte i.val]) s = .next t ∧
      AnsweredOnly s t ⟨31, 8, tag, .done, []⟩)

/-- ACK_EVENTS clears the flags named and no other; SET_ENABLES replaces the six enables; ATTN follows in the event, and
both answers hold the flags and enables as they then stand, a bit for each (R196, R197, R200). That the payload is one byte
of flags and then one of enables is the model's reading (log 26). -/
def Obligations.EventRequestsAnswered : Prop :=
  ∀ (s : State) (tag b : Byte), s.freeEntries ≠ 0 → b.toNat ≤ 63 →
    (∃ t, exec (.ackEvents tag [b]) s = .next t ∧
      (∀ f, t.mgmt.flags.get f = (s.mgmt.flags.get f && !b.getLsbD (flagBit f))) ∧
      t.mgmt.enables = s.mgmt.enables ∧
      AnsweredOnly { s with mgmt := { s.mgmt with flags := t.mgmt.flags, attn := t.mgmt.attn } } t
        ⟨31, 9, tag, .done, [t.mgmt.flags.toByte, t.mgmt.enables.toByte]⟩ ∧ AttnKept t) ∧
    (∃ t, exec (.setEnables tag [b]) s = .next t ∧
      (∀ f, t.mgmt.enables.get f = b.getLsbD (flagBit f)) ∧ t.mgmt.flags = s.mgmt.flags ∧
      AnsweredOnly { s with mgmt := { s.mgmt with enables := t.mgmt.enables, attn := t.mgmt.attn } } t
        ⟨31, 10, tag, .done, [t.mgmt.flags.toByte, b]⟩ ∧ AttnKept t) ∧
    ∀ (e : EventFlags) (f : Flag), e.toByte.getLsbD (flagBit f) = e.get f ∧ e.toByte.toNat ≤ 63

/-! ### Input lines -/

/-- A changed level of the supply-source line or of a presence input starts the debounce where it comes to differ from
the debounced value and cancels it where it returns; nothing else changes. An expiry that is absent or not yet reached
changes nothing (R156, R171; log 4). -/
def Obligations.InputLinesDebounced : Prop :=
  ∀ (s : State) (level : Level) (i : SlotId),
    (s.supply.line ≠ level → exec (.supplySourceLineChange level) s = .next { s with supply := { s.supply with
      line := level
      debounceExpiry := if sourceOf level = s.supply.source then none
        else some (s.now + 10 * s.mgmt.timing.presenceDebounce) } }) ∧
    (s.supply.line = level → exec (.supplySourceLineChange level) s = .next s) ∧
    ((s.slot i).input ≠ level → exec (.presenceInputChange i level) s = .next (s.modifySlot i fun r => { r with
      input := level
      debounceExpiry := if ((level = .low) ↔ (s.slot i).present = true) then none
        else some (s.now + 10 * s.mgmt.timing.presenceDebounce) })) ∧
    ((s.slot i).input = level → exec (.presenceInputChange i level) s = .next s) ∧
    ((∀ e ∈ s.supply.debounceExpiry, s.now < e) → exec .sourceDebounceExpiry s = .next s) ∧
    ((∀ e ∈ (s.slot i).debounceExpiry, s.now < e) → exec (.presenceDebounceExpiry i) s = .next s)

/-- A change of source: the ceiling in force becomes the new source's. Where it covers the total, nothing is marked, and the
arbiter looks: the first entry not frozen is granted if its draw fits and the stagger has passed. Where it does not, the
shed selector marks the shortest run of candidates, by ascending shed class and then descending slot number, that covers
the shortfall with the slots already marked: each request gets SHED, on the trunk link or in its group's record, and each
slot standing target STOPPED and goes down by its state's rule (R39 to R42, R148, R150, R157 to R163). -/
def Obligations.SourceChangeSheds : Prop :=
  ∀ (s : State) (e : Nat) (order : List SlotId), s.supply.debounceExpiry = some e → e ≤ s.now → AccountKept s →
    GroupsKept s →
    (∀ i, i ∈ order ↔ 0 < (s.slot i).reservation ∧ (s.slot i).shedMark = false ∧ (s.slot i).shedClass ≠ 3 ∧
      (s.slot i).state ≠ .fault) →
    order.Pairwise (fun i j => (s.slot i).shedClass < (s.slot j).shedClass ∨
      ((s.slot i).shedClass = (s.slot j).shedClass ∧ j < i)) →
    let src := sourceOf s.supply.line
    let relief := (allSlots.map fun i => if (s.slot i).shedMark then (s.slot i).reservation else 0).sum
    let sumOf := fun n => relief + ((order.take n).map fun i => (s.slot i).reservation).sum
    ∃ t, exec .sourceDebounceExpiry s = .next t ∧
      t.supply = ⟨s.supply.line, src, none, decide (ceilingOf s src < s.arbiter.reservationTotal)⟩ ∧
      (s.arbiter.reservationTotal ≤ ceilingOf s src → (∀ i, SparedOrGranted s t i) ∧ t.groups = s.groups ∧
        ∀ i, NextGrant s s i → s.arbiter.reservationTotal + (s.profileOf i).spinUpDraw ≤ ceilingOf s src →
          Granted s t i) ∧
      (ceilingOf s src < s.arbiter.reservationTotal →
        t.arbiter.reservationTotal = s.arbiter.reservationTotal ∧
        (s.supply.overCeiling = false → t.mgmt.flags.overCeiling = true) ∧
        ∃ n : Fin 25, n.val ≤ order.length ∧
          (s.arbiter.reservationTotal ≤ ceilingOf s src + sumOf n.val ∨ n.val = order.length) ∧
          (∀ m : Fin 25, m < n → ceilingOf s src + sumOf m.val < s.arbiter.reservationTotal) ∧
          t.trunk.queue = s.trunk.queue ++ outcomeAnswers s (order.take n.val) .shed ∧
          (∀ g, t.group g = groupAfter s (order.take n.val) .shed g) ∧
          (∀ i, i ∉ order.take n.val → Untouched s t i) ∧
          ∀ i ∈ order.take n.val, (t.slot i).shedMark = true ∧ (t.slot i).standing = .stopped ∧
            (t.slot i).active = none ∧ (t.slot i).state = afterRecompute true (s.slot i).state .stopped ∧
            (t.slot i).reservation = (s.slot i).reservation ∧
            (t.slot i).emergencyUnloads = (s.slot i).emergencyUnloads)

/-- A debounced presence change sets PRESENCE_CHANGE. A carrier gained takes EMPTY to STOPPED with standing target
STOPPED; a carrier lost takes any state to EMPTY: its lane's ops are abandoned, its plain frame is answered GONE and its
request given GONE, on the trunk link or in its group's record, its queue entry leaves, and the fields R174 keeps are kept
(R148, R150, R171 to R174). -/
def Obligations.PresenceChanges : Prop :=
  ∀ (s : State) (i : SlotId) (e : Nat), (s.slot i).debounceExpiry = some e → e ≤ s.now → AccountKept s →
    GroupsKept s →
    ((s.slot i).input = .low → ∃ t, exec (.presenceDebounceExpiry i) s = .next t ∧ SlotEvent s t ∧
      t.trunk = s.trunk ∧ t.mgmt.flags = { s.mgmt.flags with presenceChange := true } ∧
      t.slot i = { s.slot i with present := true, debounceExpiry := none, state := .stopped, standing := .stopped } ∧
      t.lane i = s.lane i ∧ ∀ j, j ≠ i → Untouched s t j) ∧
    ((s.slot i).input = .high → ∃ t, exec (.presenceDebounceExpiry i) s = .next t ∧ SlotEvent s t ∧
      s.trunk.queue ++ ((s.lane i).plain.toList.map fun p => ⟨byte i.val, byte p.kind.val, p.trunkTag, .gone, []⟩)
        ++ outcomeAnswers s [i] .gone <+: t.trunk.queue ∧
      ((∀ j, j ≠ i → (t.slot j).shedMark = (s.slot j).shedMark) → ∀ g, t.group g = groupAfter s [i] .gone g) ∧
      t.mgmt.flags.presenceChange = true ∧
      t.slot i =
        { s.slot i with
          present := false, debounceExpiry := none, state := .empty, active := none, reservation := 0
          drawKept := .running, powerSwitch := false, shedMark := false, selfParkExpiry := none } ∧
      (t.lane i).governed = none ∧ (t.lane i).preempting = none ∧ (t.lane i).held = none ∧
      (t.lane i).plain = none ∧ (t.lane i).lastTag = (s.lane i).lastTag ∧
      (t.lane i).lastPreempted = (s.lane i).lastPreempted ∧ (t.lane i).transmitted = (s.lane i).transmitted ∧
      (∀ x ∈ (s.lane i).outstanding, x ∈ (t.lane i).retired) ∧ t.entriesOf i = 0 ∧
      ∀ j, j ≠ i → Spared s t j)

/-! ### Lane events -/

/-- DONE of the op that the slot's state waits on: the slot arrives in the state of that op's rule, gives DONE to a request
it thereby reaches, on the trunk link or in its group's record, and proceeds by the rule of the state taken, asking the lane
for the op it then waits on. Where the event also marks the slot for shedding, that is the shed selector's doing (R17 to
R20, R23, R28, R55, R56, R148, R150). -/
def Obligations.CompletionsMoveSlot : Prop :=
  ∀ (s : State) (i : SlotId) (tag : Byte) (op : GovernedOp) (deadline : Nat) (payload : List Byte) (st : SlotState),
    Awaits s i tag op deadline → arrival op payload = some st → payload.length ≤ 16 →
    AccountKept s → HeadsAllowed s → LanesKept s →
    ∃ t, exec (.completion i tag .done payload) s = .next t ∧ SlotEvent s t ∧ (∀ j, j ≠ i → Spared s t j) ∧
      (t.slot i).emergencyUnloads = (s.slot i).emergencyUnloads ∧
      (GroupsKept s →
        let reached := (s.slot i).active.any fun a => decide (a.target = restTarget st)
        s.trunk.queue ++ (if reached then outcomeAnswers s [i] .done else []) <+: t.trunk.queue ∧
        ((∀ j, (t.slot j).shedMark = true → (s.slot j).shedMark = true) →
          ∀ g, t.group g = if reached then groupAfter s [i] .done g else s.group g)) ∧
      ((t.slot i).shedMark = (if op = .stop then false else (s.slot i).shedMark) →
        Proceeded s t i st ∧ (t.lane i).awaited = (t.slot i).state.waitsOn ∧
        MovedFrom s t i { s.slot i with
          shedMark := (t.slot i).shedMark
          active := (s.slot i).active.filter fun a => decide (a.target ≠ restTarget st)
          standing := if op = .query ∧ (s.slot i).active = none then restTarget st else (s.slot i).standing } ∧
        ((t.slot i).state = .stopped → (t.slot i).reservation = 0 ∧ (t.slot i).powerSwitch = false))

/-- The op that the slot's state waits on fails, is aborted, times out, or a QUERY reports another state: the slot enters
FAULT with the cause of R17 to R20 and R23, its request receives FAILED or TIMEOUT, on the trunk link or in its group's
record, the governed side of the lane is abandoned, its tags retired in the order issued, and the plain op runs on; the
reservation given up lets the arbiter grant the first entry not frozen (R26, R39 to R42, R52, R57, R59, R61, R148). That
draw kept is left as it was is the model's reading (log 22). -/
def Obligations.FailureEntersFault : Prop :=
  ∀ (s : State) (i : SlotId) (tag : Byte) (op : GovernedOp) (deadline : Nat) (c : Instr) (cause : FaultCause)
    (code : AnswerCode), Awaits s i tag op deadline → FailsWith s i tag op deadline c cause code →
    AccountKept s → LanesKept s →
    ∃ t, exec c s = .next t ∧ SlotEvent s t ∧ Faulted s t i cause ∧ (∀ j, j ≠ i → Spared s t j) ∧
      (GroupsKept s → s.trunk.queue ++ outcomeAnswers s [i] code <+: t.trunk.queue ∧
        ((∀ j, j ≠ i → (t.slot j).shedMark = (s.slot j).shedMark) → ∀ g, t.group g = groupAfter s [i] code g)) ∧
      (0 < (s.slot i).reservation → ∀ j, NextGrant s s j →
        s.arbiter.reservationTotal - (s.slot i).reservation + (s.profileOf j).spinUpDraw ≤ s.ceilingInForce →
        Granted s t j) ∧
      (∀ g ∈ (s.lane i).governed, g.tag ≠ tag → g.tag ∈ (t.lane i).retired ∧
        (code = .timeout → [g.tag, tag] <:+ (t.lane i).retired)) ∧
      (code = .timeout → [tag] <:+ (t.lane i).retired)

/-- The first op of a pair, while the second is outstanding or after it, moves nothing: its end is recorded as the last
preempted outcome; a FIRST op gives its place to the preempting op, and a RESIDUAL op releases the held command, issued
with a fresh tag in the same event (R21, R55, R56, R59). -/
def Obligations.FirstOpsMoveNothing : Prop :=
  ∀ (s : State) (i : SlotId) (g : GovernedRecord) (o : OpOutcome) (c : Instr) (payload : List Byte),
    (s.lane i).governed = some g → g.role ≠ .sole → LaneKept s i → payload.length ≤ 16 →
    (c = .completion i g.tag .done payload ∧ o = .done) ∨
      (∃ code, c = .completion i g.tag (.failed code) payload ∧ o = .failed code) ∨
      (c = .completion i g.tag .aborted payload ∧ o = .aborted) ∨
      (c = .opDeadlineExpiry i g.tag ∧ g.deadline ≤ s.now ∧ o = .timeout) →
    ∃ t, exec c s = .next t ∧ t = { s with lanes := t.lanes } ∧ (∀ j, j ≠ i → t.lane j = s.lane j) ∧
      (t.lane i).lastPreempted = some ⟨g.op, g.tag, o⟩ ∧ (t.lane i).preempting = none ∧ (t.lane i).held = none ∧
      (t.lane i).plain = (s.lane i).plain ∧
      (o ≠ .timeout → (t.lane i).retired = (s.lane i).retired) ∧
      (o = .timeout → g.tag ∈ (t.lane i).retired ∧ (t.lane i).retired.length ≤ 8) ∧
      (g.role = .first → (t.lane i).governed =
          (s.lane i).preempting.map fun p => ⟨p.op, p.tag, p.issued, p.deadline, .sole⟩) ∧
      (g.role = .first ∨ (s.lane i).held = none → (t.lane i).lastTag = (s.lane i).lastTag ∧
        (t.lane i).transmitted = (s.lane i).transmitted) ∧
      (g.role = .residual → (s.lane i).held = none → (t.lane i).governed = none) ∧
      (g.role = .residual → ∀ op ∈ (s.lane i).held,
        (t.lane i).governed = some ⟨op, (t.lane i).lastTag, s.now, s.now + opDuration (s.profileOf i) op, .sole⟩ ∧
        FirstFree { s.lane i with retired := (t.lane i).retired, governed := none } (t.lane i).lastTag ∧
        (t.lane i).transmitted = (s.lane i).transmitted ++ [.governed op (t.lane i).lastTag])

/-- A completion that matches no outstanding op is counted as a late report and takes its tag out of the retired tags,
and does nothing else; one with a payload longer than 16 bytes is discarded; a deadline whose op is gone, or that is not
reached, has nothing to act on (R49, R52, R58, R60; log 4). -/
def Obligations.LateReportsCounted : Prop :=
  ∀ (s : State) (i : SlotId) (tag : Byte) (o : CompletionOutcome) (payload : List Byte),
    (tag ∉ (s.lane i).outstanding → payload.length ≤ 16 →
      exec (.completion i tag o payload) s = .next
        ((s.modifyLane i fun r => { r with retired := r.retired.erase tag }).modifySlot i fun r =>
          { r with lateReports := min (r.lateReports + 1) 65535 })) ∧
    (16 < payload.length → exec (.completion i tag o payload) s = .next s) ∧
    (tag ∉ (s.lane i).outstanding → exec (.opDeadlineExpiry i tag) s = .next s) ∧
    ((∀ g ∈ (s.lane i).governed, s.now < g.deadline) → (∀ p ∈ (s.lane i).preempting, s.now < p.deadline) →
      (∀ p ∈ (s.lane i).plain, s.now < p.deadline) → exec (.opDeadlineExpiry i tag) s = .next s)

/-- The end of a plain op is answered with the slot as source and the trunk frame's tag and kind, spends the reservation
and frees the plain record; nothing but the trunk port and the lane changes (R63, R59). -/
def Obligations.PlainOpsAnswered : Prop :=
  ∀ (s : State) (i : SlotId) (p : PlainRecord) (payload reply : List Byte) (c : Instr) (code : AnswerCode),
    (s.lane i).plain = some p → LaneKept s i → payload.length ≤ 16 →
    (c = .completion i p.tag .done payload ∧ code = .done ∧ reply = payload) ∨
      (∃ x, c = .completion i p.tag (.failed x) payload ∧ code = .failed ∧ reply = [x]) ∨
      (c = .completion i p.tag .aborted payload ∧ code = .failed ∧ reply = [0]) ∨
      (c = .opDeadlineExpiry i p.tag ∧ p.deadline ≤ s.now ∧ code = .timeout ∧ reply = []) →
    ∃ t, exec c s = .next t ∧ t = { s with trunk := t.trunk, lanes := t.lanes } ∧
      t.trunk.queue = s.trunk.queue ++ [⟨byte i.val, byte p.kind.val, p.trunkTag, code, reply⟩] ∧
      t.trunk.reservations = s.trunk.reservations - 1 ∧
      t.lane i = { s.lane i with plain := none, retired := (t.lane i).retired } ∧
      (code ≠ .timeout → (t.lane i).retired = (s.lane i).retired) ∧
      (code = .timeout → p.tag ∈ (t.lane i).retired) ∧
      ∀ j, j ≠ i → t.lane j = s.lane j

/-- A SELF_PARKED beacon is counted in every state. In LOADED it also starts the hold, unless its time is 0, sets
SELF_PARK, and takes the slot to PARKED, from which it proceeds on the recomputed effective target. The hold's expiry
lifts its cap and the slot goes by its state's rule; an expiry that is absent or not yet reached changes nothing (R6,
R22, R65; log 4). -/
def Obligations.SelfParkStartsAndEnds : Prop :=
  ∀ (s : State) (i : SlotId),
    ((s.slot i).state ≠ .loaded → exec (.selfParked i) s = .next (s.modifySlot i fun r =>
      { r with selfParks := min (r.selfParks + 1) 65535 })) ∧
    ((s.slot i).state = .loaded → AccountKept s → LaneKept s i →
      ∃ t, exec (.selfParked i) s = .next t ∧ SlotEvent s t ∧
        MovedFrom s t i { s.slot i with
          selfParks := min ((s.slot i).selfParks + 1) 65535
          selfParkExpiry := if s.mgmt.timing.selfParkHold = 0 then (s.slot i).selfParkExpiry
            else some (s.now + 100 * s.mgmt.timing.selfParkHold)
          active := (s.slot i).active.filter fun a => decide (a.target ≠ .parked) } ∧
        t.mgmt.flags = { s.mgmt.flags with selfPark := true } ∧
        Proceeded s t i .parked ∧ (0 < s.mgmt.timing.selfParkHold → (t.slot i).state ≠ .loading) ∧
        (t.slot i).reservation = (s.slot i).reservation ∧
        (t.slot i).emergencyUnloads = (s.slot i).emergencyUnloads ∧
        (t.lane i).awaited = (t.slot i).state.waitsOn ∧
        ∀ j, j ≠ i → Untouched s t j) ∧
    ((∀ e ∈ (s.slot i).selfParkExpiry, s.now < e) → exec (.selfParkHoldExpiry i) s = .next s) ∧
    (∀ e ∈ (s.slot i).selfParkExpiry, e ≤ s.now → AccountKept s →
      ∃ t, exec (.selfParkHoldExpiry i) s = .next t ∧ SlotEvent s t ∧ t.trunk = s.trunk ∧ t.mgmt = s.mgmt ∧
        MovedFrom s t i { s.slot i with selfParkExpiry := none } ∧ Proceeded s t i (s.slot i).state ∧
        (LaneKept s i → (t.lane i).awaited = (t.slot i).state.waitsOn) ∧
        ∀ j, j ≠ i → SparedOrGranted s t j)

/-- A CARRIER_FAULT beacon in a powered state enters FAULT with its code: the active request receives FAILED, on the trunk
link or in its group's record, the governed side of the lane is abandoned with its tags retired, and another slot changes
only by a grant or a shed mark; in any other state the beacon is disregarded (R24, R26, R61, R148). That draw kept is left
as it was is the model's reading (log 22). -/
def Obligations.CarrierFaultEntersFault : Prop :=
  ∀ (s : State) (i : SlotId) (code : Byte),
    ((s.slot i).state ∈ [.spinningUp, .parked, .loading, .loaded, .unloading, .spinningDown, .probing] →
      AccountKept s → GroupsKept s →
      ∃ t, exec (.carrierFault i code) s = .next t ∧ SlotEvent s t ∧ Faulted s t i (.carrierFault code) ∧
        (∀ j, j ≠ i → Spared s t j) ∧ s.trunk.queue ++ outcomeAnswers s [i] .failed <+: t.trunk.queue ∧
        ((∀ j, j ≠ i → (t.slot j).shedMark = (s.slot j).shedMark) → ∀ g, t.group g = groupAfter s [i] .failed g) ∧
        (∀ g ∈ (s.lane i).governed, g.tag ∈ (t.lane i).retired) ∧
        ∀ p ∈ (s.lane i).preempting, p.tag ∈ (t.lane i).retired) ∧
    ((s.slot i).state ∈ [.empty, .stopped, .queued, .fault] → exec (.carrierFault i code) s = .next s)

/-! ### Timers -/

/-- A wait deadline takes effect only in a waiting position: the request receives WAIT_EXPIRED, on the trunk link or in its
group's record, the standing target becomes the settled state, and the slot goes by its state's rule. Otherwise the request
goes on without a deadline (R45, R130, R131, R148, R150; log 4). -/
def Obligations.WaitDeadlineTested : Prop :=
  ∀ (s : State) (i : SlotId) (a : ActiveRequest) (e : Nat), (s.slot i).active = some a →
    a.waitDeadline = some e → AccountKept s → GroupsKept s →
    let waits := (s.slot i).state = .queued ∨
      (((s.slot i).state = .parked ∨ (s.slot i).state = .unloading) ∧
        (s.effectiveTarget i).rank < a.target.rank ∧ (s.covered i = true ∨ (s.slot i).selfParkExpiry ≠ none))
    (s.now < e → exec (.waitDeadline i) s = .next s) ∧
    (e ≤ s.now → ¬waits → ∃ t, exec (.waitDeadline i) s = .next t ∧
      t = s.modifySlot i fun r => { r with active := some { a with waitDeadline := none } }) ∧
    (e ≤ s.now → waits → ∃ t, exec (.waitDeadline i) s = .next t ∧ SlotEvent s t ∧ t.mgmt = s.mgmt ∧
      t.trunk.queue = s.trunk.queue ++ outcomeAnswers s [i] .waitExpired ∧
      (∀ g, t.group g = groupAfter s [i] .waitExpired g) ∧
      t.trunk.reservations = s.trunk.reservations - (outcomeAnswers s [i] .waitExpired).length ∧
      MovedFrom s t i { s.slot i with
        active := none, standing := if (s.slot i).state = .queued then .stopped else .parked } ∧
      (t.slot i).state = afterRecompute true (s.slot i).state (t.effectiveTarget i) ∧
      ((s.slot i).state = .queued → (t.slot i).state = .stopped ∧ t.entriesOf i = 0) ∧
      ∀ j, j ≠ i → Untouched s t j)

/-- The stagger timer's expiry becomes absent and the arbiter looks: the candidate is the first entry, from queue 3 down,
whose slot is not frozen. It is granted if its draw fits and the stagger has passed; if the stagger alone refuses, the
timer is set again; if its draw does not fit, no entry behind it is tried. In CONFIG nothing is granted (R38 to R42). An
expiry that is not yet reached changes nothing (the model's choice: log 4). -/
def Obligations.StaggerExpiryGrants : Prop :=
  ∀ (s : State) (e : Nat) (front back : List QueueEntry) (c : QueueEntry), s.arbiter.staggerExpiry = some e →
    AccountKept s →
    let quiet : State := { s with arbiter := { s.arbiter with staggerExpiry := none } }
    (s.now < e → exec .staggerTimerExpiry s = .next s) ∧
    (e ≤ s.now → s.mgmt.mode = .config → exec .staggerTimerExpiry s = .next quiet) ∧
    (e ≤ s.now → s.mgmt.mode = .run → (∀ q : Fin 4, ∀ x ∈ s.arbiter.queues[q], s.frozen x.slot = true) →
      exec .staggerTimerExpiry s = .next quiet) ∧
    (e ≤ s.now → s.mgmt.mode = .run →
      s.arbiter.queues[3] ++ s.arbiter.queues[2] ++ s.arbiter.queues[1] ++ s.arbiter.queues[0] = front ++ c :: back →
      (∀ x ∈ front, s.frozen x.slot = true) → s.frozen c.slot = false →
      (s.ceilingInForce < s.arbiter.reservationTotal + (s.profileOf c.slot).spinUpDraw →
        exec .staggerTimerExpiry s = .next quiet) ∧
      (s.arbiter.reservationTotal + (s.profileOf c.slot).spinUpDraw ≤ s.ceilingInForce →
        (∀ last, s.arbiter.lastGrant = some last → s.now < last + 10 * s.arbiter.staggerInterval →
          exec .staggerTimerExpiry s = .next { s with arbiter := { s.arbiter with
            staggerExpiry := some (last + 10 * s.arbiter.staggerInterval) } }) ∧
        ((∀ last ∈ s.arbiter.lastGrant, last + 10 * s.arbiter.staggerInterval ≤ s.now) →
          ∃ t, exec .staggerTimerExpiry s = .next t ∧ SlotEvent s t ∧ t.mgmt = s.mgmt ∧ t.trunk = s.trunk ∧
            t.slot c.slot =
              { s.slot c.slot with
                state := .spinningUp, powerSwitch := true, reservation := (s.profileOf c.slot).spinUpDraw
                spinUps := min ((s.slot c.slot).spinUps + 1) 65535 } ∧
            MovedFrom s t c.slot (t.slot c.slot) ∧
            t.arbiter.lastGrant = some s.now ∧ t.entriesOf c.slot = 0 ∧
            (LaneKept s c.slot → (t.lane c.slot).awaited = some .spin) ∧
            (∀ j, j ≠ c.slot → SparedOrGranted s t j) ∧
            (0 < s.arbiter.staggerInterval → (∀ j, j ≠ c.slot → Untouched s t j) ∧
              t.arbiter.reservationTotal = s.arbiter.reservationTotal + (s.profileOf c.slot).spinUpDraw))))

/-! ### Samples, nodes, rules and classes -/

/-- An accepted sample writes its node's record, the four results computed from the clamped axes with the settings and
the V the node had, and supervises it: last sequence, gap count, silence timer, status and progress; a node whose progress
already stands at its recovery count goes LIVE, on a gap too. The three other nodes are as they were (R72 to R81, R85, R87 to
R89). That a sample is accepted where it is no duplicate of the node's own field lapsed, and that an accepted sample leaves
that field absent, is the model's reading of R92 (log 33). -/
def Obligations.SampleUpdatesNode : Prop :=
  ∀ (s : State) (n : NodeId) (node seq : Byte) (x y z : Word16) (a b c : Nat), Accepts s n node seq →
    let old := s.node n
    let cx := max (-16000) (min 16000 x.toInt)
    let cy := max (-16000) (min 16000 y.toInt)
    let cz := max (-16000) (min 16000 z.toInt)
    let m := a + 3 * (b + c) / 8
    let d := ((m : Int) - old.config.g).natAbs
    let gap := isGap s n seq
    c ≤ b → b ≤ a → [a, b, c].Perm [cx.natAbs, cy.natAbs, cz.natAbs] →
    ∃ t, exec (.sample n node seq x y z) s = .next t ∧
      ((t.node n).v : Int) = old.v + Int.tdiv ((d : Int) - old.v) (2 ^ old.config.k) ∧
      t.node n =
        { old with
          lastSequence := some seq
          lapsed := none
          gapCount := if gap then min (old.gapCount + 1) 65535 else old.gapCount
          silenceExpiry := some (s.now + old.config.silenceLimit)
          status := if trustedAfter old gap then .live else .recovering
          progress := if old.status = .live then old.progress
            else if trustedAfter old gap then 0 else progressAfter old gap
          v := (t.node n).v
          lastM := some m
          lastD := some d
          lastT := some (max (-256) (min 256 (Int.tdiv (256 * (match old.config.up with
            | .plusX => cx
            | .minusX => -cx
            | .plusY => cy
            | .minusY => -cy
            | .plusZ => cz
            | .minusZ => -cz)) old.config.g))) } ∧
      (∀ j, j ≠ n → t.node j = s.node j) ∧ t.mgmt.flags.nodeSilent = s.mgmt.flags.nodeSilent

/-- A sample whose node field is not its lane's, or of a disabled node (R68), or with the node's last sequence number again
(R86), changes nothing at all: the silence timer of a node that keeps repeating its last frame runs out. At the instant of
that expiry the duplicate is discarded in either order: taken after the expiry it changes nothing either (R92; log 33). -/
def Obligations.SampleDiscarded : Prop :=
  ∀ (s : State) (n : NodeId) (node seq : Byte) (x y z : Word16),
    (node.toNat ≠ n.val → exec (.sample n node seq x y z) s = .next s) ∧
    ((s.node n).status = .off → exec (.sample n node seq x y z) s = .next s) ∧
    ((s.node n).lastSequence = some seq → exec (.sample n node seq x y z) s = .next s ∧
      ∀ e, (s.node n).silenceExpiry = some e → e ≤ s.now →
        ∃ t, exec (.silenceTimerExpiry n) s = .next t ∧ (t.node n).status = .silent ∧
          exec (.sample n node seq x y z) t = .next t)

/-- An accepted sample is evaluated by every rule in use that watches its node, and by no other; a rule whose counter
then stands at its persistence fires; each firing is taken by its class: expiry, fire count, and an onset where the
class was inactive (R81, R100 to R102, R105, R111). Accepts is the model's reading of R92 where it speaks of lapsed
(log 33). -/
def Obligations.RulesCountAndFire : Prop :=
  ∀ (s : State) (n : NodeId) (node seq : Byte) (x y z : Word16), Accepts s n node seq →
    ∃ t, exec (.sample n node seq x y z) s = .next t ∧
      (∀ k : Fin 16, t.rule k = { s.rule k with counters := (t.rule k).counters } ∧
        (∀ m : NodeId, m ≠ n → (t.rule k).counters[m] = (s.rule k).counters[m]) ∧
        ((s.rule k).inUse = false ∨ (s.rule k).nodes[n] = false → (t.rule k).counters[n] = (s.rule k).counters[n]) ∧
        ((s.rule k).inUse = true → (s.rule k).nodes[n] = true →
          ∀ m ∈ (t.node n).lastM, ∀ d ∈ (t.node n).lastD, ∀ tilt ∈ (t.node n).lastT,
            (compares (s.rule k) m d (t.node n).v tilt →
              (t.rule k).counters[n] = min ((s.rule k).counters[n] + 1) (s.rule k).persistence) ∧
            (¬compares (s.rule k) m d (t.node n).v tilt → (t.rule k).counters[n] = 0))) ∧
      ∀ c : ClassId,
        let firings := (List.finRange 16).countP fun k =>
          (s.rule k).inUse && (s.rule k).nodes[n] && decide ((s.rule k).cls = c) &&
            decide ((t.rule k).counters[n] = (s.rule k).persistence)
        let left := (s.node n).status.blind && !(t.node n).status.blind &&
          decide ((s.node n).config.blindClass = some c)
        (t.cls c).fireCount = (if firings = 0 then (s.cls c).fireCount
          else min ((s.cls c).fireCount + firings) 65535) ∧
        (0 < firings →
          (t.cls c).expiry = some (max ((s.cls c).expiry.getD 0) (s.now + 10 * (s.cls c).holdTime)) ∧
          (t.cls c).active = true ∧ ((s.cls c).active = false → t.mgmt.flags.holdChange = true)) ∧
        (firings = 0 → left = false → t.cls c = s.cls c) ∧
        (left = true → (t.cls c).holders[n] = false ∧
          ((s.cls c).holders[n] = true → (∀ m : NodeId, m ≠ n → (s.cls c).holders[m] = false) →
            (t.cls c).expiry = some (max ((s.cls c).expiry.getD 0) (s.now + 10 * (s.cls c).holdTime))))

/-- A silence timer's expiry: the node becomes SILENT with V at 0 and the last M, D and T kept, its persistence counters
become 0 in every rule, NODE_SILENT is set, and a LIVE node joins its blind class, an onset where that was inactive
(R90, R91, R93, R110). That an expiry absent or not yet reached changes nothing (log 4), and that the node's own field
lapsed keeps the lost sequence with the time of the expiry (log 33), is the model's reading. -/
def Obligations.SilenceExpires : Prop :=
  ∀ (s : State) (n : NodeId),
    ((∀ e ∈ (s.node n).silenceExpiry, s.now < e) → exec (.silenceTimerExpiry n) s = .next s) ∧
    (∀ e ∈ (s.node n).silenceExpiry, e ≤ s.now →
      ∃ t, exec (.silenceTimerExpiry n) s = .next t ∧
        t.node n =
          { s.node n with
            status := .silent, progress := 0, lastSequence := none, silenceExpiry := none, v := 0
            lapsed := (s.node n).lastSequence.map fun q => (s.now, q) } ∧
        (∀ m, m ≠ n → t.node m = s.node m) ∧ t.mgmt.flags.nodeSilent = true ∧
        (∀ (k : Fin 16) (m : NodeId), (t.rule k).counters[m] = if m = n then 0 else (s.rule k).counters[m]) ∧
        ((s.node n).status ≠ .live → t.classes = s.classes ∧ t.mgmt.flags.holdChange = s.mgmt.flags.holdChange) ∧
        ((s.node n).status = .live → ∀ c : ClassId,
          ((s.node n).config.blindClass ≠ some c → t.cls c = s.cls c) ∧
          ((s.node n).config.blindClass = some c →
            t.cls c = { s.cls c with active := true, holders := (s.cls c).holders.set n.val true } ∧
            ((s.cls c).active = false → t.mgmt.flags.holdChange = true))))

/-- The expiry of an active class: without blind holders the class clears; with one or more it stays active with no
expiry, no event is raised and no report is made. An expiry that has been moved later is not reached until its new time
(R107). -/
def Obligations.ClassExpires : Prop :=
  ∀ (s : State) (c : ClassId) (e : Nat), (s.cls c).active = true → (s.cls c).expiry = some e →
    (s.now < e → exec (.classExpiry c) s = .next s) ∧
    (e ≤ s.now → (∃ n : NodeId, (s.cls c).holders[n] = true) →
      exec (.classExpiry c) s = .next (s.modifyClass c fun r => { r with expiry := none })) ∧
    (e ≤ s.now → (∀ n : NodeId, (s.cls c).holders[n] = false) →
      ∃ t, exec (.classExpiry c) s = .next t ∧ t.cls c = { s.cls c with active := false, expiry := none } ∧
        t.mgmt.flags.holdChange = true ∧ (∀ d, d ≠ c → t.cls d = s.cls d) ∧ t.nodes = s.nodes ∧ t.rules = s.rules)

/-- Where a sample, a silence, a class's expiry or a node configuration write changes the unload coverage of a slot's zone,
the slot goes by its state's rule to the new effective target, and a fall out of LOADED or LOADING at an onset counts an
emergency unload; slots whose coverage did not change move only by a grant. Where a zone ceases to be frozen in RUN the
arbiter looks: the first entry not frozen is granted if its draw fits and the stagger has passed, the slots standing in
QUEUED and STOPPED by their targets as every step keeps them (R12, R39 to R42, R94, R95, R106, R108, R110, R113, R114,
R115). -/
def Obligations.HoldsMoveSlots : Prop :=
  ∀ (s : State) (cmd : Instr),
    (∃ n node seq x y z, cmd = .sample n node seq x y z) ∨ (∃ n, cmd = .silenceTimerExpiry n) ∨
      (∃ c, cmd = .classExpiry c) ∨ (∃ tag index entry, cmd = .nodeConfigurationWrite tag index entry) →
    AccountKept s → HeadsAllowed s → HoldsKept s →
    ∃ t, exec cmd s = .next t ∧ t.groups = s.groups ∧
      ((∀ tag index entry, cmd ≠ .nodeConfigurationWrite tag index entry) → t.trunk = s.trunk) ∧
      (∀ i, MovedFrom s t i (s.slot i) ∧
        (t.covered i = s.covered i → SparedOrGranted s t i) ∧
        (t.covered i ≠ s.covered i → Proceeded s t i (s.slot i).state ∧
          (LaneKept s i → (t.lane i).awaited = (t.slot i).state.waitsOn)) ∧
        (t.slot i).emergencyUnloads =
          (if t.covered i && !s.covered i &&
              decide ((s.slot i).state = .loaded ∨ (s.slot i).state = .loading)
            then min ((s.slot i).emergencyUnloads + 1) 65535 else (s.slot i).emergencyUnloads)) ∧
      (TargetsServed s → ∀ z : ZoneId, s.zones[z].frozen = true → t.zones[z].frozen = false → ∀ i, NextGrant s t i →
        s.arbiter.reservationTotal + (s.profileOf i).spinUpDraw ≤ s.ceilingInForce → Granted s t i)

/-- The magnitude over clamped axes lies within 0 to 28000, is 0 exactly when all three are 0 and 28000 when all three
stand at an end of the range; the deviation lies within 0 to 27500, reached with M = 28000 and G = 500, does not keep
the sign, and is G where M is 0 (R75, R76). -/
def Obligations.MagnitudeAndDeviation : Prop :=
  ∀ (a b c : Nat), c ≤ b → b ≤ a → a ≤ 16000 →
    (∀ x y z, [a, b, c].Perm [x, y, z] → magnitude x y z = a + 3 * (b + c) / 8) ∧
    b + c ≤ 32000 ∧ 3 * (b + c) ≤ 96000 ∧ 3 * (b + c) / 8 ≤ 12000 ∧ magnitude a b c ≤ 28000 ∧
    (magnitude a b c = 0 ↔ a = 0 ∧ b = 0 ∧ c = 0) ∧ magnitude 16000 16000 16000 = 28000 ∧
    ∀ g, 500 ≤ g → g ≤ 2000 →
      (deviation (magnitude a b c) g : Int) = |(magnitude a b c : Int) - g| ∧
      deviation (magnitude a b c) g ≤ 27500 ∧ deviation 28000 500 = 27500 ∧ deviation 0 g = g ∧
      ∀ k ≤ g, deviation (g + k) g = deviation (g - k) g

/-- Under a D that stays the same, V comes to rest 2^k - 1 short of D on the side it started on, each update shortening
the gap by at least 1 and leaving it at least 2^k - 1; a gap below 2^k does not move it (R78). -/
def Obligations.SteadyDeviationSettles : Prop :=
  ∀ (v d k : Nat), 1 ≤ k → k ≤ 6 →
    (v + 2 ^ k ≤ d → vibration v d k ≤ d ∧ v + 1 ≤ vibration v d k ∧ vibration v d k + (2 ^ k - 1) ≤ d ∧
      ∃ n ≤ d - v, ∀ m, n ≤ m → (fun u => vibration u d k)^[m] v = d - (2 ^ k - 1)) ∧
    (d + 2 ^ k ≤ v → d ≤ vibration v d k ∧ vibration v d k + 1 ≤ v ∧ d + (2 ^ k - 1) ≤ vibration v d k ∧
      ∃ n ≤ v - d, ∀ m, n ≤ m → (fun u => vibration u d k)^[m] v = d + (2 ^ k - 1)) ∧
    (v < d + 2 ^ k → d < v + 2 ^ k → vibration v d k = v)

/-! ### What every step keeps -/

/-- Every step keeps the account (each slot's presence, switch, reservation, debounce, queue entry and request as its
state gives them, the reservation total their sum) and keeps the heads off the media where a cap holds (R9, R10, R12,
R29, R37). It keeps too that a slot is QUEUED only for an effective target above STOPPED and that in RUN a STOPPED slot's
effective target is STOPPED (R13, R16, R25). -/
def Obligations.StepKeepsAccount : Prop :=
  ∀ s t : State, AccountKept s → HeadsAllowed s → step s = .next t →
    AccountKept t ∧ HeadsAllowed t ∧ (TargetsServed s → TargetsServed t)

/-- Every step keeps the lanes: at most a preempting pair of governed ops, tags distinct and not retired, at most eight
retired tags, and the slot waiting on the op last asked (R50 to R53, R55). -/
def Obligations.StepKeepsLanes : Prop :=
  ∀ s t : State, AccountKept s → LanesKept s → step s = .next t → LanesKept t

/-- Every step keeps the nodes: supervision fields as the status gives them, each node a blind holder of exactly its
blind class exactly while SILENT or RECOVERING, and the computed values within their ranges (R71, R84, R89, R90, R93). -/
def Obligations.StepKeepsNodes : Prop :=
  ∀ s t : State, NodesKept s → ValuesKept s → step s = .next t → NodesKept t ∧ ValuesKept t

/-- Every step keeps the persistence counters within their rules' persistence, a class active exactly while it has an
expiry or a blind holder, and each zone's standings those its active classes give (R100, R104, R113). -/
def Obligations.StepKeepsHolds : Prop :=
  ∀ s t : State, CountersKept s → HoldsKept s → step s = .next t → CountersKept t ∧ HoldsKept t

/-- Every step keeps the group table: done, results and remaining add up to the fan-out, no open record has an empty
remaining set, and the remaining members are exactly the slots whose active request is the group's (R4, R140, R141). -/
def Obligations.StepKeepsGroups : Prop :=
  ∀ s t : State, GroupsKept s → step s = .next t → GroupsKept t

/-- Every step keeps the trunk port: one reservation for each answer owed, room for every frame and every answer owed, HOLD
exactly while fewer than 8 entries are free, the frame in transmission at the head of the queue, a RESTART pending only
while a frame runs, and no symbol waiting for an idle transmitter but a reset's GO (R136, R137, R180). When an idle
transmitter begins a frame is the model's choice (log 21), on which the last two clauses rest. -/
def Obligations.StepKeepsTrunk : Prop :=
  ∀ s t : State, TrunkKept s → step s = .next t → TrunkKept t

/-- Every step keeps ATTN asserted exactly while an enabled flag is set, and every table field within its range (R197,
R189). -/
def Obligations.StepKeepsAttnAndTables : Prop :=
  ∀ s t : State, AttnKept s → TablesKept s → step s = .next t → AttnKept t ∧ TablesKept t

/-- What every step keeps holds after reset. -/
def Obligations.KeptAtReset : Prop :=
  AccountKept State.reset ∧ HeadsAllowed State.reset ∧ TargetsServed State.reset ∧ LanesKept State.reset ∧
    NodesKept State.reset ∧ ValuesKept State.reset ∧ CountersKept State.reset ∧ HoldsKept State.reset ∧ GroupsKept State.reset ∧
    TrunkKept State.reset ∧ AttnKept State.reset ∧ TablesKept State.reset

/-- A slot leaves QUEUED for SPINNING_UP in a step only in RUN, with its zone not frozen, with the reservation total,
its draw included, within the ceiling in force, and with the stagger interval passed since the previous grant, at the
time that is then the time of last grant (R38, R41, R42). -/
def Obligations.GrantsWithinCeiling : Prop :=
  ∀ (s t : State) (i : SlotId), AccountKept s → step s = .next t → (s.slot i).state = .queued →
    (t.slot i).state = .spinningUp →
    t.mgmt.mode = .run ∧ t.frozen i = false ∧ t.arbiter.reservationTotal ≤ t.ceilingInForce ∧
      (t.slot i).reservation = (t.profileOf i).spinUpDraw ∧ t.arbiter.lastGrant = some s.now ∧
      ∀ last ∈ s.arbiter.lastGrant, last + 10 * t.arbiter.staggerInterval ≤ s.now

/-! ### Frames on the wire and table entries -/

/-- Frames sent with the delimiter, the escapes and the CRC, with any bytes but the delimiter between them, are received as
they were, on the trunk link, on a carrier lane and on a sensor lane; an answer and a COMMAND that the gateway sends hold
their fields in the order of R198 and R199 with the codes given there, and no unescaped delimiter or symbol inside. The CRC
has the check value 29B1h and leaves 0 over a frame with its own CRC; a frame whose CRC differs is discarded (R198,
R199). -/
def Obligations.FramesRoundTrip : Prop :=
  (∀ fs : List (List Byte × TrunkFrame), (∀ q ∈ fs, (∀ b ∈ q.1, b ≠ 0xC3) ∧ q.2.body.payload.length ≤ 249) →
    trunkFrames (fs.flatMap fun q => q.1 ++ wireBytes q.2.bodyBytes) = fs.map (·.2)) ∧
  (∀ (lane : SlotId) (tag code : Byte) (p : List Byte), p.length ≤ 16 →
    laneCommands lane (wireBytes ([byte (5 + p.length), 2, tag, 0, code] ++ p)) = [.completion lane tag .done p] ∧
    laneCommands lane (wireBytes ([byte (5 + p.length), 2, tag, 1, code] ++ p)) =
      [.completion lane tag (.failed code) p] ∧
    laneCommands lane (wireBytes ([byte (5 + p.length), 2, tag, 2, code] ++ p)) =
      [.completion lane tag .aborted p] ∧
    laneCommands lane (wireBytes [4, 3, 0, code]) = [.selfParked lane] ∧
    laneCommands lane (wireBytes [4, 3, 1, code]) = [.carrierFault lane code]) ∧
  (∀ (n : NodeId) (node seq : Byte) (x y z : Word16),
    sampleCommands n (wireBytes [9, node, seq, highByte x, lowByte x, highByte y, lowByte y, highByte z, lowByte z]) =
      [.sample n node seq x y z]) ∧
  (∀ a : AnswerFrame, a.payload.length ≤ 60 → receivedBodies .idle (TrunkOutput.answer a).bytes =
    [[byte (5 + a.payload.length), a.source, a.kind, a.tag, byte a.code.code] ++ a.payload]) ∧
  ([.done, .failed, .timeout, .absent, .blocked, .held, .faulted, .superseded, .withdrawn, .shed, .shedding, .gone,
    .waitExpired, .groupFull, .configMode, .laneBusy, .malformed, .badIndex, .locked, .inUse,
    .classActive] : List AnswerCode).map AnswerCode.code = List.range 21 ∧
  (∀ (op : GovernedOp) (tag : Byte) (kind : Fin 16) (p : List Byte), p.length ≤ 16 →
    receivedBodies .idle (LaneCommand.governed op tag).bytes = [[4, 1, byte op.code, tag]] ∧
    receivedBodies .idle (LaneCommand.plain tag kind p).bytes =
      [[byte (5 + p.length), 1, 5, tag, byte kind.val] ++ p]) ∧
  (TrunkOutput.symbol .hold).bytes = [0x3C] ∧ (TrunkOutput.symbol .go).bytes = [0x3D] ∧
  (∀ body : List Byte, ∃ inner, wireBytes body = 0xC3 :: inner ∧ ∀ b ∈ inner, b ≠ 0xC3 ∧ b ≠ 0x3C ∧ b ≠ 0x3D) ∧
  crc16 [0x31, 0x32, 0x33, 0x34, 0x35, 0x36, 0x37, 0x38, 0x39] = 0x29B1 ∧
  (∀ bs : List Byte, crc16 (bs ++ crcBytes bs) = 0) ∧
  ∀ (len hi lo : Byte) (fields : List Byte), fields.length + 1 = len.toNat → [hi, lo] ≠ crcBytes (len :: fields) →
    receivedBodies .idle (0xC3 :: escaped (len :: fields ++ [hi, lo])) = []

/-- What TABLE_READ returns of an entry, written back, is the entry: every table's encoding and its reading agree on
every value the table can hold (R189, R200). -/
def Obligations.TableEntriesRoundTrip : Prop :=
  ∀ s : State, TablesKept s →
    (∀ k : Fin 16, (s.entryBytes .kindMap k.val).head?.bind actionOf = some s.kindMap[k]) ∧
    (∀ k : Fin 9, s.writePriorityMap k.val (s.entryBytes .priorityMap k.val) = .stored s) ∧
    (∀ k : Fin 8, profileEntry (s.entryBytes .drawProfiles k.val) = some s.profiles[k]) ∧
    (∀ i : SlotId, slotEntry (s.entryBytes .slotConfiguration i.val) =
      some ((s.slot i).zone, (s.slot i).profile, (s.slot i).shedClass)) ∧
    (∀ m b : Nat, ceilingsEntry m b (s.entryBytes .ceilings 0) =
      some (s.arbiter.mainsCeiling, s.arbiter.batteryCeiling)) ∧
    staggerEntry (s.entryBytes .stagger 0) = some s.arbiter.staggerInterval ∧
    (∀ n : NodeId, nodeEntry (s.entryBytes .nodeConfiguration n.val) = some (s.node n).config) ∧
    (∀ k : Fin 16, ruleEntry ((s.entryBytes .motionRules k.val).take 7) =
      some { s.rule k with counters := #v[0, 0, 0, 0] }) ∧
    (∀ c : ClassId, classEntry ((s.entryBytes .classes c.val).take 4) =
      some ((s.cls c).zones, (s.cls c).unload, (s.cls c).freeze, (s.cls c).holdTime)) ∧
    timingEntry (s.entryBytes .timing 0) = some s.mgmt.timing
end

