-- ==== Sys2Proof/Laws/State.lean ====
section
/-! SUPPORT. Laws/State.lean: what each update of the state's records leaves and what it gives, so that no proof unfolds a
record update: one lemma per field per update, and the reading of a record after a write. -/

namespace Sys2Proof.Machine

variable (s : State)

/-! ### modifySlot -/

@[simp] theorem State.modifySlot_now (i : SlotId) (f : SlotRecord → SlotRecord) :
    (s.modifySlot i f).now = s.now := rfl
@[simp] theorem State.modifySlot_trunk (i : SlotId) (f : SlotRecord → SlotRecord) :
    (s.modifySlot i f).trunk = s.trunk := rfl
@[simp] theorem State.modifySlot_kindMap (i : SlotId) (f : SlotRecord → SlotRecord) :
    (s.modifySlot i f).kindMap = s.kindMap := rfl
@[simp] theorem State.modifySlot_profiles (i : SlotId) (f : SlotRecord → SlotRecord) :
    (s.modifySlot i f).profiles = s.profiles := rfl
@[simp] theorem State.modifySlot_lanes (i : SlotId) (f : SlotRecord → SlotRecord) :
    (s.modifySlot i f).lanes = s.lanes := rfl
@[simp] theorem State.modifySlot_arbiter (i : SlotId) (f : SlotRecord → SlotRecord) :
    (s.modifySlot i f).arbiter = s.arbiter := rfl
@[simp] theorem State.modifySlot_nodes (i : SlotId) (f : SlotRecord → SlotRecord) :
    (s.modifySlot i f).nodes = s.nodes := rfl
@[simp] theorem State.modifySlot_rules (i : SlotId) (f : SlotRecord → SlotRecord) :
    (s.modifySlot i f).rules = s.rules := rfl
@[simp] theorem State.modifySlot_classes (i : SlotId) (f : SlotRecord → SlotRecord) :
    (s.modifySlot i f).classes = s.classes := rfl
@[simp] theorem State.modifySlot_zones (i : SlotId) (f : SlotRecord → SlotRecord) :
    (s.modifySlot i f).zones = s.zones := rfl
@[simp] theorem State.modifySlot_groups (i : SlotId) (f : SlotRecord → SlotRecord) :
    (s.modifySlot i f).groups = s.groups := rfl
@[simp] theorem State.modifySlot_supply (i : SlotId) (f : SlotRecord → SlotRecord) :
    (s.modifySlot i f).supply = s.supply := rfl
@[simp] theorem State.modifySlot_mgmt (i : SlotId) (f : SlotRecord → SlotRecord) :
    (s.modifySlot i f).mgmt = s.mgmt := rfl
@[simp] theorem State.modifySlot_pending (i : SlotId) (f : SlotRecord → SlotRecord) :
    (s.modifySlot i f).pending = s.pending := rfl
@[simp] theorem State.modifySlot_lane (i : SlotId) (f : SlotRecord → SlotRecord) (j : SlotId) :
    (s.modifySlot i f).lane j = s.lane j := rfl
@[simp] theorem State.modifySlot_node (i : SlotId) (f : SlotRecord → SlotRecord) (m : NodeId) :
    (s.modifySlot i f).node m = s.node m := rfl
@[simp] theorem State.modifySlot_cls (i : SlotId) (f : SlotRecord → SlotRecord) (d : ClassId) :
    (s.modifySlot i f).cls d = s.cls d := rfl
@[simp] theorem State.modifySlot_rule (i : SlotId) (f : SlotRecord → SlotRecord) (r : Fin 16) :
    (s.modifySlot i f).rule r = s.rule r := rfl
@[simp] theorem State.modifySlot_group (i : SlotId) (f : SlotRecord → SlotRecord) (h : GroupId) :
    (s.modifySlot i f).group h = s.group h := rfl
@[simp] theorem State.modifySlot_ceilingInForce (i : SlotId) (f : SlotRecord → SlotRecord) :
    (s.modifySlot i f).ceilingInForce = s.ceilingInForce := rfl
@[simp] theorem State.modifySlot_examined (i : SlotId) (f : SlotRecord → SlotRecord) :
    (s.modifySlot i f).examined = s.examined := rfl
@[simp] theorem State.modifySlot_freeEntries (i : SlotId) (f : SlotRecord → SlotRecord) :
    (s.modifySlot i f).freeEntries = s.freeEntries := by
  simp only [State.freeEntries, State.modifySlot_trunk]

/-! ### modifyLane -/

@[simp] theorem State.modifyLane_now (i : SlotId) (f : LaneRecord → LaneRecord) :
    (s.modifyLane i f).now = s.now := rfl
@[simp] theorem State.modifyLane_trunk (i : SlotId) (f : LaneRecord → LaneRecord) :
    (s.modifyLane i f).trunk = s.trunk := rfl
@[simp] theorem State.modifyLane_kindMap (i : SlotId) (f : LaneRecord → LaneRecord) :
    (s.modifyLane i f).kindMap = s.kindMap := rfl
@[simp] theorem State.modifyLane_slots (i : SlotId) (f : LaneRecord → LaneRecord) :
    (s.modifyLane i f).slots = s.slots := rfl
@[simp] theorem State.modifyLane_profiles (i : SlotId) (f : LaneRecord → LaneRecord) :
    (s.modifyLane i f).profiles = s.profiles := rfl
@[simp] theorem State.modifyLane_arbiter (i : SlotId) (f : LaneRecord → LaneRecord) :
    (s.modifyLane i f).arbiter = s.arbiter := rfl
@[simp] theorem State.modifyLane_nodes (i : SlotId) (f : LaneRecord → LaneRecord) :
    (s.modifyLane i f).nodes = s.nodes := rfl
@[simp] theorem State.modifyLane_rules (i : SlotId) (f : LaneRecord → LaneRecord) :
    (s.modifyLane i f).rules = s.rules := rfl
@[simp] theorem State.modifyLane_classes (i : SlotId) (f : LaneRecord → LaneRecord) :
    (s.modifyLane i f).classes = s.classes := rfl
@[simp] theorem State.modifyLane_zones (i : SlotId) (f : LaneRecord → LaneRecord) :
    (s.modifyLane i f).zones = s.zones := rfl
@[simp] theorem State.modifyLane_groups (i : SlotId) (f : LaneRecord → LaneRecord) :
    (s.modifyLane i f).groups = s.groups := rfl
@[simp] theorem State.modifyLane_supply (i : SlotId) (f : LaneRecord → LaneRecord) :
    (s.modifyLane i f).supply = s.supply := rfl
@[simp] theorem State.modifyLane_mgmt (i : SlotId) (f : LaneRecord → LaneRecord) :
    (s.modifyLane i f).mgmt = s.mgmt := rfl
@[simp] theorem State.modifyLane_pending (i : SlotId) (f : LaneRecord → LaneRecord) :
    (s.modifyLane i f).pending = s.pending := rfl
@[simp] theorem State.modifyLane_slot (i : SlotId) (f : LaneRecord → LaneRecord) (j : SlotId) :
    (s.modifyLane i f).slot j = s.slot j := rfl
@[simp] theorem State.modifyLane_node (i : SlotId) (f : LaneRecord → LaneRecord) (m : NodeId) :
    (s.modifyLane i f).node m = s.node m := rfl
@[simp] theorem State.modifyLane_cls (i : SlotId) (f : LaneRecord → LaneRecord) (d : ClassId) :
    (s.modifyLane i f).cls d = s.cls d := rfl
@[simp] theorem State.modifyLane_rule (i : SlotId) (f : LaneRecord → LaneRecord) (r : Fin 16) :
    (s.modifyLane i f).rule r = s.rule r := rfl
@[simp] theorem State.modifyLane_group (i : SlotId) (f : LaneRecord → LaneRecord) (h : GroupId) :
    (s.modifyLane i f).group h = s.group h := rfl
@[simp] theorem State.modifyLane_profileOf (i : SlotId) (f : LaneRecord → LaneRecord) (j : SlotId) :
    (s.modifyLane i f).profileOf j = s.profileOf j := rfl
@[simp] theorem State.modifyLane_covered (i : SlotId) (f : LaneRecord → LaneRecord) (j : SlotId) :
    (s.modifyLane i f).covered j = s.covered j := rfl
@[simp] theorem State.modifyLane_frozen (i : SlotId) (f : LaneRecord → LaneRecord) (j : SlotId) :
    (s.modifyLane i f).frozen j = s.frozen j := rfl
@[simp] theorem State.modifyLane_effectiveTarget (i : SlotId) (f : LaneRecord → LaneRecord) (j : SlotId) :
    (s.modifyLane i f).effectiveTarget j = s.effectiveTarget j := by
  simp only [State.effectiveTarget, State.modifyLane_slot, State.modifyLane_covered]
@[simp] theorem State.modifyLane_ceilingInForce (i : SlotId) (f : LaneRecord → LaneRecord) :
    (s.modifyLane i f).ceilingInForce = s.ceilingInForce := rfl
@[simp] theorem State.modifyLane_examined (i : SlotId) (f : LaneRecord → LaneRecord) :
    (s.modifyLane i f).examined = s.examined := rfl
@[simp] theorem State.modifyLane_freeEntries (i : SlotId) (f : LaneRecord → LaneRecord) :
    (s.modifyLane i f).freeEntries = s.freeEntries := by
  simp only [State.freeEntries, State.modifyLane_trunk]

/-! ### modifyNode -/

@[simp] theorem State.modifyNode_now (n : NodeId) (f : NodeRecord → NodeRecord) :
    (s.modifyNode n f).now = s.now := rfl
@[simp] theorem State.modifyNode_trunk (n : NodeId) (f : NodeRecord → NodeRecord) :
    (s.modifyNode n f).trunk = s.trunk := rfl
@[simp] theorem State.modifyNode_kindMap (n : NodeId) (f : NodeRecord → NodeRecord) :
    (s.modifyNode n f).kindMap = s.kindMap := rfl
@[simp] theorem State.modifyNode_slots (n : NodeId) (f : NodeRecord → NodeRecord) :
    (s.modifyNode n f).slots = s.slots := rfl
@[simp] theorem State.modifyNode_profiles (n : NodeId) (f : NodeRecord → NodeRecord) :
    (s.modifyNode n f).profiles = s.profiles := rfl
@[simp] theorem State.modifyNode_lanes (n : NodeId) (f : NodeRecord → NodeRecord) :
    (s.modifyNode n f).lanes = s.lanes := rfl
@[simp] theorem State.modifyNode_arbiter (n : NodeId) (f : NodeRecord → NodeRecord) :
    (s.modifyNode n f).arbiter = s.arbiter := rfl
@[simp] theorem State.modifyNode_rules (n : NodeId) (f : NodeRecord → NodeRecord) :
    (s.modifyNode n f).rules = s.rules := rfl
@[simp] theorem State.modifyNode_classes (n : NodeId) (f : NodeRecord → NodeRecord) :
    (s.modifyNode n f).classes = s.classes := rfl
@[simp] theorem State.modifyNode_zones (n : NodeId) (f : NodeRecord → NodeRecord) :
    (s.modifyNode n f).zones = s.zones := rfl
@[simp] theorem State.modifyNode_groups (n : NodeId) (f : NodeRecord → NodeRecord) :
    (s.modifyNode n f).groups = s.groups := rfl
@[simp] theorem State.modifyNode_supply (n : NodeId) (f : NodeRecord → NodeRecord) :
    (s.modifyNode n f).supply = s.supply := rfl
@[simp] theorem State.modifyNode_mgmt (n : NodeId) (f : NodeRecord → NodeRecord) :
    (s.modifyNode n f).mgmt = s.mgmt := rfl
@[simp] theorem State.modifyNode_pending (n : NodeId) (f : NodeRecord → NodeRecord) :
    (s.modifyNode n f).pending = s.pending := rfl
@[simp] theorem State.modifyNode_slot (n : NodeId) (f : NodeRecord → NodeRecord) (j : SlotId) :
    (s.modifyNode n f).slot j = s.slot j := rfl
@[simp] theorem State.modifyNode_lane (n : NodeId) (f : NodeRecord → NodeRecord) (j : SlotId) :
    (s.modifyNode n f).lane j = s.lane j := rfl
@[simp] theorem State.modifyNode_cls (n : NodeId) (f : NodeRecord → NodeRecord) (d : ClassId) :
    (s.modifyNode n f).cls d = s.cls d := rfl
@[simp] theorem State.modifyNode_rule (n : NodeId) (f : NodeRecord → NodeRecord) (r : Fin 16) :
    (s.modifyNode n f).rule r = s.rule r := rfl
@[simp] theorem State.modifyNode_group (n : NodeId) (f : NodeRecord → NodeRecord) (h : GroupId) :
    (s.modifyNode n f).group h = s.group h := rfl
@[simp] theorem State.modifyNode_profileOf (n : NodeId) (f : NodeRecord → NodeRecord) (j : SlotId) :
    (s.modifyNode n f).profileOf j = s.profileOf j := rfl
@[simp] theorem State.modifyNode_covered (n : NodeId) (f : NodeRecord → NodeRecord) (j : SlotId) :
    (s.modifyNode n f).covered j = s.covered j := rfl
@[simp] theorem State.modifyNode_frozen (n : NodeId) (f : NodeRecord → NodeRecord) (j : SlotId) :
    (s.modifyNode n f).frozen j = s.frozen j := rfl
@[simp] theorem State.modifyNode_effectiveTarget (n : NodeId) (f : NodeRecord → NodeRecord) (j : SlotId) :
    (s.modifyNode n f).effectiveTarget j = s.effectiveTarget j := by
  simp only [State.effectiveTarget, State.modifyNode_slot, State.modifyNode_covered]
@[simp] theorem State.modifyNode_ceilingInForce (n : NodeId) (f : NodeRecord → NodeRecord) :
    (s.modifyNode n f).ceilingInForce = s.ceilingInForce := rfl
@[simp] theorem State.modifyNode_examined (n : NodeId) (f : NodeRecord → NodeRecord) :
    (s.modifyNode n f).examined = s.examined := rfl
@[simp] theorem State.modifyNode_freeEntries (n : NodeId) (f : NodeRecord → NodeRecord) :
    (s.modifyNode n f).freeEntries = s.freeEntries := by
  simp only [State.freeEntries, State.modifyNode_trunk]

/-! ### modifyClass -/

@[simp] theorem State.modifyClass_now (c : ClassId) (f : ClassRecord → ClassRecord) :
    (s.modifyClass c f).now = s.now := rfl
@[simp] theorem State.modifyClass_trunk (c : ClassId) (f : ClassRecord → ClassRecord) :
    (s.modifyClass c f).trunk = s.trunk := rfl
@[simp] theorem State.modifyClass_kindMap (c : ClassId) (f : ClassRecord → ClassRecord) :
    (s.modifyClass c f).kindMap = s.kindMap := rfl
@[simp] theorem State.modifyClass_slots (c : ClassId) (f : ClassRecord → ClassRecord) :
    (s.modifyClass c f).slots = s.slots := rfl
@[simp] theorem State.modifyClass_profiles (c : ClassId) (f : ClassRecord → ClassRecord) :
    (s.modifyClass c f).profiles = s.profiles := rfl
@[simp] theorem State.modifyClass_lanes (c : ClassId) (f : ClassRecord → ClassRecord) :
    (s.modifyClass c f).lanes = s.lanes := rfl
@[simp] theorem State.modifyClass_arbiter (c : ClassId) (f : ClassRecord → ClassRecord) :
    (s.modifyClass c f).arbiter = s.arbiter := rfl
@[simp] theorem State.modifyClass_nodes (c : ClassId) (f : ClassRecord → ClassRecord) :
    (s.modifyClass c f).nodes = s.nodes := rfl
@[simp] theorem State.modifyClass_rules (c : ClassId) (f : ClassRecord → ClassRecord) :
    (s.modifyClass c f).rules = s.rules := rfl
@[simp] theorem State.modifyClass_zones (c : ClassId) (f : ClassRecord → ClassRecord) :
    (s.modifyClass c f).zones = s.zones := rfl
@[simp] theorem State.modifyClass_groups (c : ClassId) (f : ClassRecord → ClassRecord) :
    (s.modifyClass c f).groups = s.groups := rfl
@[simp] theorem State.modifyClass_supply (c : ClassId) (f : ClassRecord → ClassRecord) :
    (s.modifyClass c f).supply = s.supply := rfl
@[simp] theorem State.modifyClass_mgmt (c : ClassId) (f : ClassRecord → ClassRecord) :
    (s.modifyClass c f).mgmt = s.mgmt := rfl
@[simp] theorem State.modifyClass_pending (c : ClassId) (f : ClassRecord → ClassRecord) :
    (s.modifyClass c f).pending = s.pending := rfl
@[simp] theorem State.modifyClass_slot (c : ClassId) (f : ClassRecord → ClassRecord) (j : SlotId) :
    (s.modifyClass c f).slot j = s.slot j := rfl
@[simp] theorem State.modifyClass_lane (c : ClassId) (f : ClassRecord → ClassRecord) (j : SlotId) :
    (s.modifyClass c f).lane j = s.lane j := rfl
@[simp] theorem State.modifyClass_node (c : ClassId) (f : ClassRecord → ClassRecord) (m : NodeId) :
    (s.modifyClass c f).node m = s.node m := rfl
@[simp] theorem State.modifyClass_rule (c : ClassId) (f : ClassRecord → ClassRecord) (r : Fin 16) :
    (s.modifyClass c f).rule r = s.rule r := rfl
@[simp] theorem State.modifyClass_group (c : ClassId) (f : ClassRecord → ClassRecord) (h : GroupId) :
    (s.modifyClass c f).group h = s.group h := rfl
@[simp] theorem State.modifyClass_profileOf (c : ClassId) (f : ClassRecord → ClassRecord) (j : SlotId) :
    (s.modifyClass c f).profileOf j = s.profileOf j := rfl
@[simp] theorem State.modifyClass_covered (c : ClassId) (f : ClassRecord → ClassRecord) (j : SlotId) :
    (s.modifyClass c f).covered j = s.covered j := rfl
@[simp] theorem State.modifyClass_frozen (c : ClassId) (f : ClassRecord → ClassRecord) (j : SlotId) :
    (s.modifyClass c f).frozen j = s.frozen j := rfl
@[simp] theorem State.modifyClass_effectiveTarget (c : ClassId) (f : ClassRecord → ClassRecord) (j : SlotId) :
    (s.modifyClass c f).effectiveTarget j = s.effectiveTarget j := by
  simp only [State.effectiveTarget, State.modifyClass_slot, State.modifyClass_covered]
@[simp] theorem State.modifyClass_ceilingInForce (c : ClassId) (f : ClassRecord → ClassRecord) :
    (s.modifyClass c f).ceilingInForce = s.ceilingInForce := rfl
@[simp] theorem State.modifyClass_examined (c : ClassId) (f : ClassRecord → ClassRecord) :
    (s.modifyClass c f).examined = s.examined := rfl
@[simp] theorem State.modifyClass_freeEntries (c : ClassId) (f : ClassRecord → ClassRecord) :
    (s.modifyClass c f).freeEntries = s.freeEntries := by
  simp only [State.freeEntries, State.modifyClass_trunk]

/-! ### modifyRule -/

@[simp] theorem State.modifyRule_now (k : Fin 16) (f : MotionRule → MotionRule) :
    (s.modifyRule k f).now = s.now := rfl
@[simp] theorem State.modifyRule_trunk (k : Fin 16) (f : MotionRule → MotionRule) :
    (s.modifyRule k f).trunk = s.trunk := rfl
@[simp] theorem State.modifyRule_kindMap (k : Fin 16) (f : MotionRule → MotionRule) :
    (s.modifyRule k f).kindMap = s.kindMap := rfl
@[simp] theorem State.modifyRule_slots (k : Fin 16) (f : MotionRule → MotionRule) :
    (s.modifyRule k f).slots = s.slots := rfl
@[simp] theorem State.modifyRule_profiles (k : Fin 16) (f : MotionRule → MotionRule) :
    (s.modifyRule k f).profiles = s.profiles := rfl
@[simp] theorem State.modifyRule_lanes (k : Fin 16) (f : MotionRule → MotionRule) :
    (s.modifyRule k f).lanes = s.lanes := rfl
@[simp] theorem State.modifyRule_arbiter (k : Fin 16) (f : MotionRule → MotionRule) :
    (s.modifyRule k f).arbiter = s.arbiter := rfl
@[simp] theorem State.modifyRule_nodes (k : Fin 16) (f : MotionRule → MotionRule) :
    (s.modifyRule k f).nodes = s.nodes := rfl
@[simp] theorem State.modifyRule_classes (k : Fin 16) (f : MotionRule → MotionRule) :
    (s.modifyRule k f).classes = s.classes := rfl
@[simp] theorem State.modifyRule_zones (k : Fin 16) (f : MotionRule → MotionRule) :
    (s.modifyRule k f).zones = s.zones := rfl
@[simp] theorem State.modifyRule_groups (k : Fin 16) (f : MotionRule → MotionRule) :
    (s.modifyRule k f).groups = s.groups := rfl
@[simp] theorem State.modifyRule_supply (k : Fin 16) (f : MotionRule → MotionRule) :
    (s.modifyRule k f).supply = s.supply := rfl
@[simp] theorem State.modifyRule_mgmt (k : Fin 16) (f : MotionRule → MotionRule) :
    (s.modifyRule k f).mgmt = s.mgmt := rfl
@[simp] theorem State.modifyRule_pending (k : Fin 16) (f : MotionRule → MotionRule) :
    (s.modifyRule k f).pending = s.pending := rfl
@[simp] theorem State.modifyRule_slot (k : Fin 16) (f : MotionRule → MotionRule) (j : SlotId) :
    (s.modifyRule k f).slot j = s.slot j := rfl
@[simp] theorem State.modifyRule_lane (k : Fin 16) (f : MotionRule → MotionRule) (j : SlotId) :
    (s.modifyRule k f).lane j = s.lane j := rfl
@[simp] theorem State.modifyRule_node (k : Fin 16) (f : MotionRule → MotionRule) (m : NodeId) :
    (s.modifyRule k f).node m = s.node m := rfl
@[simp] theorem State.modifyRule_cls (k : Fin 16) (f : MotionRule → MotionRule) (d : ClassId) :
    (s.modifyRule k f).cls d = s.cls d := rfl
@[simp] theorem State.modifyRule_group (k : Fin 16) (f : MotionRule → MotionRule) (h : GroupId) :
    (s.modifyRule k f).group h = s.group h := rfl
@[simp] theorem State.modifyRule_profileOf (k : Fin 16) (f : MotionRule → MotionRule) (j : SlotId) :
    (s.modifyRule k f).profileOf j = s.profileOf j := rfl
@[simp] theorem State.modifyRule_covered (k : Fin 16) (f : MotionRule → MotionRule) (j : SlotId) :
    (s.modifyRule k f).covered j = s.covered j := rfl
@[simp] theorem State.modifyRule_frozen (k : Fin 16) (f : MotionRule → MotionRule) (j : SlotId) :
    (s.modifyRule k f).frozen j = s.frozen j := rfl
@[simp] theorem State.modifyRule_effectiveTarget (k : Fin 16) (f : MotionRule → MotionRule) (j : SlotId) :
    (s.modifyRule k f).effectiveTarget j = s.effectiveTarget j := by
  simp only [State.effectiveTarget, State.modifyRule_slot, State.modifyRule_covered]
@[simp] theorem State.modifyRule_ceilingInForce (k : Fin 16) (f : MotionRule → MotionRule) :
    (s.modifyRule k f).ceilingInForce = s.ceilingInForce := rfl
@[simp] theorem State.modifyRule_examined (k : Fin 16) (f : MotionRule → MotionRule) :
    (s.modifyRule k f).examined = s.examined := rfl
@[simp] theorem State.modifyRule_freeEntries (k : Fin 16) (f : MotionRule → MotionRule) :
    (s.modifyRule k f).freeEntries = s.freeEntries := by
  simp only [State.freeEntries, State.modifyRule_trunk]

/-! ### setGroup -/

@[simp] theorem State.setGroup_now (g : GroupId) (x : Option GroupRecord) : (s.setGroup g x).now = s.now := rfl
@[simp] theorem State.setGroup_trunk (g : GroupId) (x : Option GroupRecord) : (s.setGroup g x).trunk = s.trunk := rfl
@[simp] theorem State.setGroup_kindMap (g : GroupId) (x : Option GroupRecord) :
    (s.setGroup g x).kindMap = s.kindMap := rfl
@[simp] theorem State.setGroup_slots (g : GroupId) (x : Option GroupRecord) : (s.setGroup g x).slots = s.slots := rfl
@[simp] theorem State.setGroup_profiles (g : GroupId) (x : Option GroupRecord) :
    (s.setGroup g x).profiles = s.profiles := rfl
@[simp] theorem State.setGroup_lanes (g : GroupId) (x : Option GroupRecord) : (s.setGroup g x).lanes = s.lanes := rfl
@[simp] theorem State.setGroup_arbiter (g : GroupId) (x : Option GroupRecord) :
    (s.setGroup g x).arbiter = s.arbiter := rfl
@[simp] theorem State.setGroup_nodes (g : GroupId) (x : Option GroupRecord) : (s.setGroup g x).nodes = s.nodes := rfl
@[simp] theorem State.setGroup_rules (g : GroupId) (x : Option GroupRecord) : (s.setGroup g x).rules = s.rules := rfl
@[simp] theorem State.setGroup_classes (g : GroupId) (x : Option GroupRecord) :
    (s.setGroup g x).classes = s.classes := rfl
@[simp] theorem State.setGroup_zones (g : GroupId) (x : Option GroupRecord) : (s.setGroup g x).zones = s.zones := rfl
@[simp] theorem State.setGroup_supply (g : GroupId) (x : Option GroupRecord) :
    (s.setGroup g x).supply = s.supply := rfl
@[simp] theorem State.setGroup_mgmt (g : GroupId) (x : Option GroupRecord) : (s.setGroup g x).mgmt = s.mgmt := rfl
@[simp] theorem State.setGroup_pending (g : GroupId) (x : Option GroupRecord) :
    (s.setGroup g x).pending = s.pending := rfl
@[simp] theorem State.setGroup_slot (g : GroupId) (x : Option GroupRecord) (j : SlotId) :
    (s.setGroup g x).slot j = s.slot j := rfl
@[simp] theorem State.setGroup_lane (g : GroupId) (x : Option GroupRecord) (j : SlotId) :
    (s.setGroup g x).lane j = s.lane j := rfl
@[simp] theorem State.setGroup_node (g : GroupId) (x : Option GroupRecord) (m : NodeId) :
    (s.setGroup g x).node m = s.node m := rfl
@[simp] theorem State.setGroup_cls (g : GroupId) (x : Option GroupRecord) (d : ClassId) :
    (s.setGroup g x).cls d = s.cls d := rfl
@[simp] theorem State.setGroup_rule (g : GroupId) (x : Option GroupRecord) (r : Fin 16) :
    (s.setGroup g x).rule r = s.rule r := rfl
@[simp] theorem State.setGroup_profileOf (g : GroupId) (x : Option GroupRecord) (j : SlotId) :
    (s.setGroup g x).profileOf j = s.profileOf j := rfl
@[simp] theorem State.setGroup_covered (g : GroupId) (x : Option GroupRecord) (j : SlotId) :
    (s.setGroup g x).covered j = s.covered j := rfl
@[simp] theorem State.setGroup_frozen (g : GroupId) (x : Option GroupRecord) (j : SlotId) :
    (s.setGroup g x).frozen j = s.frozen j := rfl
@[simp] theorem State.setGroup_effectiveTarget (g : GroupId) (x : Option GroupRecord) (j : SlotId) :
    (s.setGroup g x).effectiveTarget j = s.effectiveTarget j := by
  simp only [State.effectiveTarget, State.setGroup_slot, State.setGroup_covered]
@[simp] theorem State.setGroup_ceilingInForce (g : GroupId) (x : Option GroupRecord) :
    (s.setGroup g x).ceilingInForce = s.ceilingInForce := rfl
@[simp] theorem State.setGroup_examined (g : GroupId) (x : Option GroupRecord) :
    (s.setGroup g x).examined = s.examined := rfl
@[simp] theorem State.setGroup_freeEntries (g : GroupId) (x : Option GroupRecord) :
    (s.setGroup g x).freeEntries = s.freeEntries := by
  simp only [State.freeEntries, State.setGroup_trunk]

/-! ### setEvents -/

@[simp] theorem State.setEvents_now (flags enables : EventFlags) : (s.setEvents flags enables).now = s.now := rfl
@[simp] theorem State.setEvents_trunk (flags enables : EventFlags) :
    (s.setEvents flags enables).trunk = s.trunk := rfl
@[simp] theorem State.setEvents_kindMap (flags enables : EventFlags) :
    (s.setEvents flags enables).kindMap = s.kindMap := rfl
@[simp] theorem State.setEvents_slots (flags enables : EventFlags) :
    (s.setEvents flags enables).slots = s.slots := rfl
@[simp] theorem State.setEvents_profiles (flags enables : EventFlags) :
    (s.setEvents flags enables).profiles = s.profiles := rfl
@[simp] theorem State.setEvents_lanes (flags enables : EventFlags) :
    (s.setEvents flags enables).lanes = s.lanes := rfl
@[simp] theorem State.setEvents_arbiter (flags enables : EventFlags) :
    (s.setEvents flags enables).arbiter = s.arbiter := rfl
@[simp] theorem State.setEvents_nodes (flags enables : EventFlags) :
    (s.setEvents flags enables).nodes = s.nodes := rfl
@[simp] theorem State.setEvents_rules (flags enables : EventFlags) :
    (s.setEvents flags enables).rules = s.rules := rfl
@[simp] theorem State.setEvents_classes (flags enables : EventFlags) :
    (s.setEvents flags enables).classes = s.classes := rfl
@[simp] theorem State.setEvents_zones (flags enables : EventFlags) :
    (s.setEvents flags enables).zones = s.zones := rfl
@[simp] theorem State.setEvents_groups (flags enables : EventFlags) :
    (s.setEvents flags enables).groups = s.groups := rfl
@[simp] theorem State.setEvents_supply (flags enables : EventFlags) :
    (s.setEvents flags enables).supply = s.supply := rfl
@[simp] theorem State.setEvents_pending (flags enables : EventFlags) :
    (s.setEvents flags enables).pending = s.pending := rfl
@[simp] theorem State.setEvents_slot (flags enables : EventFlags) (j : SlotId) :
    (s.setEvents flags enables).slot j = s.slot j := rfl
@[simp] theorem State.setEvents_lane (flags enables : EventFlags) (j : SlotId) :
    (s.setEvents flags enables).lane j = s.lane j := rfl
@[simp] theorem State.setEvents_node (flags enables : EventFlags) (m : NodeId) :
    (s.setEvents flags enables).node m = s.node m := rfl
@[simp] theorem State.setEvents_cls (flags enables : EventFlags) (d : ClassId) :
    (s.setEvents flags enables).cls d = s.cls d := rfl
@[simp] theorem State.setEvents_rule (flags enables : EventFlags) (r : Fin 16) :
    (s.setEvents flags enables).rule r = s.rule r := rfl
@[simp] theorem State.setEvents_group (flags enables : EventFlags) (h : GroupId) :
    (s.setEvents flags enables).group h = s.group h := rfl
@[simp] theorem State.setEvents_profileOf (flags enables : EventFlags) (j : SlotId) :
    (s.setEvents flags enables).profileOf j = s.profileOf j := rfl
@[simp] theorem State.setEvents_covered (flags enables : EventFlags) (j : SlotId) :
    (s.setEvents flags enables).covered j = s.covered j := rfl
@[simp] theorem State.setEvents_frozen (flags enables : EventFlags) (j : SlotId) :
    (s.setEvents flags enables).frozen j = s.frozen j := rfl
@[simp] theorem State.setEvents_effectiveTarget (flags enables : EventFlags) (j : SlotId) :
    (s.setEvents flags enables).effectiveTarget j = s.effectiveTarget j := by
  simp only [State.effectiveTarget, State.setEvents_slot, State.setEvents_covered]
@[simp] theorem State.setEvents_ceilingInForce (flags enables : EventFlags) :
    (s.setEvents flags enables).ceilingInForce = s.ceilingInForce := rfl
@[simp] theorem State.setEvents_examined (flags enables : EventFlags) :
    (s.setEvents flags enables).examined = s.examined := rfl
@[simp] theorem State.setEvents_freeEntries (flags enables : EventFlags) :
    (s.setEvents flags enables).freeEntries = s.freeEntries := by
  simp only [State.freeEntries, State.setEvents_trunk]

/-! ### setFlag -/

@[simp] theorem State.setFlag_now (f : Flag) : (s.setFlag f).now = s.now := rfl
@[simp] theorem State.setFlag_trunk (f : Flag) : (s.setFlag f).trunk = s.trunk := rfl
@[simp] theorem State.setFlag_kindMap (f : Flag) : (s.setFlag f).kindMap = s.kindMap := rfl
@[simp] theorem State.setFlag_slots (f : Flag) : (s.setFlag f).slots = s.slots := rfl
@[simp] theorem State.setFlag_profiles (f : Flag) : (s.setFlag f).profiles = s.profiles := rfl
@[simp] theorem State.setFlag_lanes (f : Flag) : (s.setFlag f).lanes = s.lanes := rfl
@[simp] theorem State.setFlag_arbiter (f : Flag) : (s.setFlag f).arbiter = s.arbiter := rfl
@[simp] theorem State.setFlag_nodes (f : Flag) : (s.setFlag f).nodes = s.nodes := rfl
@[simp] theorem State.setFlag_rules (f : Flag) : (s.setFlag f).rules = s.rules := rfl
@[simp] theorem State.setFlag_classes (f : Flag) : (s.setFlag f).classes = s.classes := rfl
@[simp] theorem State.setFlag_zones (f : Flag) : (s.setFlag f).zones = s.zones := rfl
@[simp] theorem State.setFlag_groups (f : Flag) : (s.setFlag f).groups = s.groups := rfl
@[simp] theorem State.setFlag_supply (f : Flag) : (s.setFlag f).supply = s.supply := rfl
@[simp] theorem State.setFlag_pending (f : Flag) : (s.setFlag f).pending = s.pending := rfl
@[simp] theorem State.setFlag_slot (f : Flag) (j : SlotId) :
    (s.setFlag f).slot j = s.slot j := rfl
@[simp] theorem State.setFlag_lane (f : Flag) (j : SlotId) :
    (s.setFlag f).lane j = s.lane j := rfl
@[simp] theorem State.setFlag_node (f : Flag) (m : NodeId) :
    (s.setFlag f).node m = s.node m := rfl
@[simp] theorem State.setFlag_cls (f : Flag) (d : ClassId) :
    (s.setFlag f).cls d = s.cls d := rfl
@[simp] theorem State.setFlag_rule (f : Flag) (r : Fin 16) :
    (s.setFlag f).rule r = s.rule r := rfl
@[simp] theorem State.setFlag_group (f : Flag) (h : GroupId) :
    (s.setFlag f).group h = s.group h := rfl
@[simp] theorem State.setFlag_profileOf (f : Flag) (j : SlotId) :
    (s.setFlag f).profileOf j = s.profileOf j := rfl
@[simp] theorem State.setFlag_covered (f : Flag) (j : SlotId) :
    (s.setFlag f).covered j = s.covered j := rfl
@[simp] theorem State.setFlag_frozen (f : Flag) (j : SlotId) :
    (s.setFlag f).frozen j = s.frozen j := rfl
@[simp] theorem State.setFlag_effectiveTarget (f : Flag) (j : SlotId) :
    (s.setFlag f).effectiveTarget j = s.effectiveTarget j := by
  simp only [State.effectiveTarget, State.setFlag_slot, State.setFlag_covered]
@[simp] theorem State.setFlag_ceilingInForce (f : Flag) :
    (s.setFlag f).ceilingInForce = s.ceilingInForce := rfl
@[simp] theorem State.setFlag_examined (f : Flag) :
    (s.setFlag f).examined = s.examined := rfl
@[simp] theorem State.setFlag_freeEntries (f : Flag) :
    (s.setFlag f).freeEntries = s.freeEntries := by
  simp only [State.freeEntries, State.setFlag_trunk]

/-! ### setMode -/

@[simp] theorem State.setMode_now (mode : Mode) : (s.setMode mode).now = s.now := rfl
@[simp] theorem State.setMode_trunk (mode : Mode) : (s.setMode mode).trunk = s.trunk := rfl
@[simp] theorem State.setMode_kindMap (mode : Mode) : (s.setMode mode).kindMap = s.kindMap := rfl
@[simp] theorem State.setMode_slots (mode : Mode) : (s.setMode mode).slots = s.slots := rfl
@[simp] theorem State.setMode_profiles (mode : Mode) : (s.setMode mode).profiles = s.profiles := rfl
@[simp] theorem State.setMode_lanes (mode : Mode) : (s.setMode mode).lanes = s.lanes := rfl
@[simp] theorem State.setMode_arbiter (mode : Mode) : (s.setMode mode).arbiter = s.arbiter := rfl
@[simp] theorem State.setMode_nodes (mode : Mode) : (s.setMode mode).nodes = s.nodes := rfl
@[simp] theorem State.setMode_rules (mode : Mode) : (s.setMode mode).rules = s.rules := rfl
@[simp] theorem State.setMode_classes (mode : Mode) : (s.setMode mode).classes = s.classes := rfl
@[simp] theorem State.setMode_zones (mode : Mode) : (s.setMode mode).zones = s.zones := rfl
@[simp] theorem State.setMode_groups (mode : Mode) : (s.setMode mode).groups = s.groups := rfl
@[simp] theorem State.setMode_supply (mode : Mode) : (s.setMode mode).supply = s.supply := rfl
@[simp] theorem State.setMode_pending (mode : Mode) : (s.setMode mode).pending = s.pending := rfl
@[simp] theorem State.setMode_slot (mode : Mode) (j : SlotId) :
    (s.setMode mode).slot j = s.slot j := rfl
@[simp] theorem State.setMode_lane (mode : Mode) (j : SlotId) :
    (s.setMode mode).lane j = s.lane j := rfl
@[simp] theorem State.setMode_node (mode : Mode) (m : NodeId) :
    (s.setMode mode).node m = s.node m := rfl
@[simp] theorem State.setMode_cls (mode : Mode) (d : ClassId) :
    (s.setMode mode).cls d = s.cls d := rfl
@[simp] theorem State.setMode_rule (mode : Mode) (r : Fin 16) :
    (s.setMode mode).rule r = s.rule r := rfl
@[simp] theorem State.setMode_group (mode : Mode) (h : GroupId) :
    (s.setMode mode).group h = s.group h := rfl
@[simp] theorem State.setMode_profileOf (mode : Mode) (j : SlotId) :
    (s.setMode mode).profileOf j = s.profileOf j := rfl
@[simp] theorem State.setMode_covered (mode : Mode) (j : SlotId) :
    (s.setMode mode).covered j = s.covered j := rfl
@[simp] theorem State.setMode_frozen (mode : Mode) (j : SlotId) :
    (s.setMode mode).frozen j = s.frozen j := rfl
@[simp] theorem State.setMode_effectiveTarget (mode : Mode) (j : SlotId) :
    (s.setMode mode).effectiveTarget j = s.effectiveTarget j := by
  simp only [State.effectiveTarget, State.setMode_slot, State.setMode_covered]
@[simp] theorem State.setMode_ceilingInForce (mode : Mode) :
    (s.setMode mode).ceilingInForce = s.ceilingInForce := rfl
@[simp] theorem State.setMode_examined (mode : Mode) :
    (s.setMode mode).examined = s.examined := rfl
@[simp] theorem State.setMode_freeEntries (mode : Mode) :
    (s.setMode mode).freeEntries = s.freeEntries := by
  simp only [State.freeEntries, State.setMode_trunk]

/-! ### sendSymbols -/

@[simp] theorem State.sendSymbols_now : (s.sendSymbols).now = s.now := rfl
@[simp] theorem State.sendSymbols_kindMap : (s.sendSymbols).kindMap = s.kindMap := rfl
@[simp] theorem State.sendSymbols_slots : (s.sendSymbols).slots = s.slots := rfl
@[simp] theorem State.sendSymbols_profiles : (s.sendSymbols).profiles = s.profiles := rfl
@[simp] theorem State.sendSymbols_lanes : (s.sendSymbols).lanes = s.lanes := rfl
@[simp] theorem State.sendSymbols_arbiter : (s.sendSymbols).arbiter = s.arbiter := rfl
@[simp] theorem State.sendSymbols_nodes : (s.sendSymbols).nodes = s.nodes := rfl
@[simp] theorem State.sendSymbols_rules : (s.sendSymbols).rules = s.rules := rfl
@[simp] theorem State.sendSymbols_classes : (s.sendSymbols).classes = s.classes := rfl
@[simp] theorem State.sendSymbols_zones : (s.sendSymbols).zones = s.zones := rfl
@[simp] theorem State.sendSymbols_groups : (s.sendSymbols).groups = s.groups := rfl
@[simp] theorem State.sendSymbols_supply : (s.sendSymbols).supply = s.supply := rfl
@[simp] theorem State.sendSymbols_mgmt : (s.sendSymbols).mgmt = s.mgmt := rfl
@[simp] theorem State.sendSymbols_pending : (s.sendSymbols).pending = s.pending := rfl
@[simp] theorem State.sendSymbols_slot (j : SlotId) :
    (s.sendSymbols).slot j = s.slot j := rfl
@[simp] theorem State.sendSymbols_lane (j : SlotId) :
    (s.sendSymbols).lane j = s.lane j := rfl
@[simp] theorem State.sendSymbols_node (m : NodeId) :
    (s.sendSymbols).node m = s.node m := rfl
@[simp] theorem State.sendSymbols_cls (d : ClassId) :
    (s.sendSymbols).cls d = s.cls d := rfl
@[simp] theorem State.sendSymbols_rule (r : Fin 16) :
    (s.sendSymbols).rule r = s.rule r := rfl
@[simp] theorem State.sendSymbols_group (h : GroupId) :
    (s.sendSymbols).group h = s.group h := rfl
@[simp] theorem State.sendSymbols_profileOf (j : SlotId) :
    (s.sendSymbols).profileOf j = s.profileOf j := rfl
@[simp] theorem State.sendSymbols_covered (j : SlotId) :
    (s.sendSymbols).covered j = s.covered j := rfl
@[simp] theorem State.sendSymbols_frozen (j : SlotId) :
    (s.sendSymbols).frozen j = s.frozen j := rfl
@[simp] theorem State.sendSymbols_effectiveTarget (j : SlotId) :
    (s.sendSymbols).effectiveTarget j = s.effectiveTarget j := by
  simp only [State.effectiveTarget, State.sendSymbols_slot, State.sendSymbols_covered]
@[simp] theorem State.sendSymbols_ceilingInForce :
    (s.sendSymbols).ceilingInForce = s.ceilingInForce := rfl
@[simp] theorem State.sendSymbols_examined :
    (s.sendSymbols).examined = s.examined := rfl

/-! ### setReservation -/

@[simp] theorem State.setReservation_now (i : SlotId) (v : Nat) : (s.setReservation i v).now = s.now := rfl
@[simp] theorem State.setReservation_trunk (i : SlotId) (v : Nat) : (s.setReservation i v).trunk = s.trunk := rfl
@[simp] theorem State.setReservation_kindMap (i : SlotId) (v : Nat) :
    (s.setReservation i v).kindMap = s.kindMap := rfl
@[simp] theorem State.setReservation_profiles (i : SlotId) (v : Nat) :
    (s.setReservation i v).profiles = s.profiles := rfl
@[simp] theorem State.setReservation_lanes (i : SlotId) (v : Nat) : (s.setReservation i v).lanes = s.lanes := rfl
@[simp] theorem State.setReservation_nodes (i : SlotId) (v : Nat) : (s.setReservation i v).nodes = s.nodes := rfl
@[simp] theorem State.setReservation_rules (i : SlotId) (v : Nat) : (s.setReservation i v).rules = s.rules := rfl
@[simp] theorem State.setReservation_classes (i : SlotId) (v : Nat) :
    (s.setReservation i v).classes = s.classes := rfl
@[simp] theorem State.setReservation_zones (i : SlotId) (v : Nat) : (s.setReservation i v).zones = s.zones := rfl
@[simp] theorem State.setReservation_groups (i : SlotId) (v : Nat) : (s.setReservation i v).groups = s.groups := rfl
@[simp] theorem State.setReservation_supply (i : SlotId) (v : Nat) : (s.setReservation i v).supply = s.supply := rfl
@[simp] theorem State.setReservation_mgmt (i : SlotId) (v : Nat) : (s.setReservation i v).mgmt = s.mgmt := rfl
@[simp] theorem State.setReservation_pending (i : SlotId) (v : Nat) :
    (s.setReservation i v).pending = s.pending := rfl
@[simp] theorem State.setReservation_lane (i : SlotId) (v : Nat) (j : SlotId) :
    (s.setReservation i v).lane j = s.lane j := rfl
@[simp] theorem State.setReservation_node (i : SlotId) (v : Nat) (m : NodeId) :
    (s.setReservation i v).node m = s.node m := rfl
@[simp] theorem State.setReservation_cls (i : SlotId) (v : Nat) (d : ClassId) :
    (s.setReservation i v).cls d = s.cls d := rfl
@[simp] theorem State.setReservation_rule (i : SlotId) (v : Nat) (r : Fin 16) :
    (s.setReservation i v).rule r = s.rule r := rfl
@[simp] theorem State.setReservation_group (i : SlotId) (v : Nat) (h : GroupId) :
    (s.setReservation i v).group h = s.group h := rfl
@[simp] theorem State.setReservation_freeEntries (i : SlotId) (v : Nat) :
    (s.setReservation i v).freeEntries = s.freeEntries := by
  simp only [State.freeEntries, State.setReservation_trunk]

/-! ### enqueue -/

@[simp] theorem State.enqueue_now (i : SlotId) : (s.enqueue i).now = s.now := rfl
@[simp] theorem State.enqueue_trunk (i : SlotId) : (s.enqueue i).trunk = s.trunk := rfl
@[simp] theorem State.enqueue_kindMap (i : SlotId) : (s.enqueue i).kindMap = s.kindMap := rfl
@[simp] theorem State.enqueue_slots (i : SlotId) : (s.enqueue i).slots = s.slots := rfl
@[simp] theorem State.enqueue_profiles (i : SlotId) : (s.enqueue i).profiles = s.profiles := rfl
@[simp] theorem State.enqueue_lanes (i : SlotId) : (s.enqueue i).lanes = s.lanes := rfl
@[simp] theorem State.enqueue_nodes (i : SlotId) : (s.enqueue i).nodes = s.nodes := rfl
@[simp] theorem State.enqueue_rules (i : SlotId) : (s.enqueue i).rules = s.rules := rfl
@[simp] theorem State.enqueue_classes (i : SlotId) : (s.enqueue i).classes = s.classes := rfl
@[simp] theorem State.enqueue_zones (i : SlotId) : (s.enqueue i).zones = s.zones := rfl
@[simp] theorem State.enqueue_groups (i : SlotId) : (s.enqueue i).groups = s.groups := rfl
@[simp] theorem State.enqueue_supply (i : SlotId) : (s.enqueue i).supply = s.supply := rfl
@[simp] theorem State.enqueue_mgmt (i : SlotId) : (s.enqueue i).mgmt = s.mgmt := rfl
@[simp] theorem State.enqueue_pending (i : SlotId) : (s.enqueue i).pending = s.pending := rfl
@[simp] theorem State.enqueue_slot (i : SlotId) (j : SlotId) :
    (s.enqueue i).slot j = s.slot j := rfl
@[simp] theorem State.enqueue_lane (i : SlotId) (j : SlotId) :
    (s.enqueue i).lane j = s.lane j := rfl
@[simp] theorem State.enqueue_node (i : SlotId) (m : NodeId) :
    (s.enqueue i).node m = s.node m := rfl
@[simp] theorem State.enqueue_cls (i : SlotId) (d : ClassId) :
    (s.enqueue i).cls d = s.cls d := rfl
@[simp] theorem State.enqueue_rule (i : SlotId) (r : Fin 16) :
    (s.enqueue i).rule r = s.rule r := rfl
@[simp] theorem State.enqueue_group (i : SlotId) (h : GroupId) :
    (s.enqueue i).group h = s.group h := rfl
@[simp] theorem State.enqueue_profileOf (i : SlotId) (j : SlotId) :
    (s.enqueue i).profileOf j = s.profileOf j := rfl
@[simp] theorem State.enqueue_covered (i : SlotId) (j : SlotId) :
    (s.enqueue i).covered j = s.covered j := rfl
@[simp] theorem State.enqueue_frozen (i : SlotId) (j : SlotId) :
    (s.enqueue i).frozen j = s.frozen j := rfl
@[simp] theorem State.enqueue_effectiveTarget (i : SlotId) (j : SlotId) :
    (s.enqueue i).effectiveTarget j = s.effectiveTarget j := by
  simp only [State.effectiveTarget, State.enqueue_slot, State.enqueue_covered]
@[simp] theorem State.enqueue_freeEntries (i : SlotId) :
    (s.enqueue i).freeEntries = s.freeEntries := by
  simp only [State.freeEntries, State.enqueue_trunk]

/-! ### dequeue -/

@[simp] theorem State.dequeue_now (i : SlotId) : (s.dequeue i).now = s.now := rfl
@[simp] theorem State.dequeue_trunk (i : SlotId) : (s.dequeue i).trunk = s.trunk := rfl
@[simp] theorem State.dequeue_kindMap (i : SlotId) : (s.dequeue i).kindMap = s.kindMap := rfl
@[simp] theorem State.dequeue_slots (i : SlotId) : (s.dequeue i).slots = s.slots := rfl
@[simp] theorem State.dequeue_profiles (i : SlotId) : (s.dequeue i).profiles = s.profiles := rfl
@[simp] theorem State.dequeue_lanes (i : SlotId) : (s.dequeue i).lanes = s.lanes := rfl
@[simp] theorem State.dequeue_nodes (i : SlotId) : (s.dequeue i).nodes = s.nodes := rfl
@[simp] theorem State.dequeue_rules (i : SlotId) : (s.dequeue i).rules = s.rules := rfl
@[simp] theorem State.dequeue_classes (i : SlotId) : (s.dequeue i).classes = s.classes := rfl
@[simp] theorem State.dequeue_zones (i : SlotId) : (s.dequeue i).zones = s.zones := rfl
@[simp] theorem State.dequeue_groups (i : SlotId) : (s.dequeue i).groups = s.groups := rfl
@[simp] theorem State.dequeue_supply (i : SlotId) : (s.dequeue i).supply = s.supply := rfl
@[simp] theorem State.dequeue_mgmt (i : SlotId) : (s.dequeue i).mgmt = s.mgmt := rfl
@[simp] theorem State.dequeue_pending (i : SlotId) : (s.dequeue i).pending = s.pending := rfl
@[simp] theorem State.dequeue_slot (i : SlotId) (j : SlotId) :
    (s.dequeue i).slot j = s.slot j := rfl
@[simp] theorem State.dequeue_lane (i : SlotId) (j : SlotId) :
    (s.dequeue i).lane j = s.lane j := rfl
@[simp] theorem State.dequeue_node (i : SlotId) (m : NodeId) :
    (s.dequeue i).node m = s.node m := rfl
@[simp] theorem State.dequeue_cls (i : SlotId) (d : ClassId) :
    (s.dequeue i).cls d = s.cls d := rfl
@[simp] theorem State.dequeue_rule (i : SlotId) (r : Fin 16) :
    (s.dequeue i).rule r = s.rule r := rfl
@[simp] theorem State.dequeue_group (i : SlotId) (h : GroupId) :
    (s.dequeue i).group h = s.group h := rfl
@[simp] theorem State.dequeue_profileOf (i : SlotId) (j : SlotId) :
    (s.dequeue i).profileOf j = s.profileOf j := rfl
@[simp] theorem State.dequeue_covered (i : SlotId) (j : SlotId) :
    (s.dequeue i).covered j = s.covered j := rfl
@[simp] theorem State.dequeue_frozen (i : SlotId) (j : SlotId) :
    (s.dequeue i).frozen j = s.frozen j := rfl
@[simp] theorem State.dequeue_effectiveTarget (i : SlotId) (j : SlotId) :
    (s.dequeue i).effectiveTarget j = s.effectiveTarget j := by
  simp only [State.effectiveTarget, State.dequeue_slot, State.dequeue_covered]
@[simp] theorem State.dequeue_freeEntries (i : SlotId) :
    (s.dequeue i).freeEntries = s.freeEntries := by
  simp only [State.freeEntries, State.dequeue_trunk]

/-! ### setOverCeiling -/

@[simp] theorem State.setOverCeiling_now (b : Bool) : (s.setOverCeiling b).now = s.now := rfl
@[simp] theorem State.setOverCeiling_trunk (b : Bool) : (s.setOverCeiling b).trunk = s.trunk := rfl
@[simp] theorem State.setOverCeiling_kindMap (b : Bool) : (s.setOverCeiling b).kindMap = s.kindMap := rfl
@[simp] theorem State.setOverCeiling_slots (b : Bool) : (s.setOverCeiling b).slots = s.slots := rfl
@[simp] theorem State.setOverCeiling_profiles (b : Bool) : (s.setOverCeiling b).profiles = s.profiles := rfl
@[simp] theorem State.setOverCeiling_lanes (b : Bool) : (s.setOverCeiling b).lanes = s.lanes := rfl
@[simp] theorem State.setOverCeiling_arbiter (b : Bool) : (s.setOverCeiling b).arbiter = s.arbiter := rfl
@[simp] theorem State.setOverCeiling_nodes (b : Bool) : (s.setOverCeiling b).nodes = s.nodes := rfl
@[simp] theorem State.setOverCeiling_rules (b : Bool) : (s.setOverCeiling b).rules = s.rules := rfl
@[simp] theorem State.setOverCeiling_classes (b : Bool) : (s.setOverCeiling b).classes = s.classes := rfl
@[simp] theorem State.setOverCeiling_zones (b : Bool) : (s.setOverCeiling b).zones = s.zones := rfl
@[simp] theorem State.setOverCeiling_groups (b : Bool) : (s.setOverCeiling b).groups = s.groups := rfl
@[simp] theorem State.setOverCeiling_mgmt (b : Bool) : (s.setOverCeiling b).mgmt = s.mgmt := rfl
@[simp] theorem State.setOverCeiling_pending (b : Bool) : (s.setOverCeiling b).pending = s.pending := rfl
@[simp] theorem State.setOverCeiling_slot (b : Bool) (j : SlotId) :
    (s.setOverCeiling b).slot j = s.slot j := rfl
@[simp] theorem State.setOverCeiling_lane (b : Bool) (j : SlotId) :
    (s.setOverCeiling b).lane j = s.lane j := rfl
@[simp] theorem State.setOverCeiling_node (b : Bool) (m : NodeId) :
    (s.setOverCeiling b).node m = s.node m := rfl
@[simp] theorem State.setOverCeiling_cls (b : Bool) (d : ClassId) :
    (s.setOverCeiling b).cls d = s.cls d := rfl
@[simp] theorem State.setOverCeiling_rule (b : Bool) (r : Fin 16) :
    (s.setOverCeiling b).rule r = s.rule r := rfl
@[simp] theorem State.setOverCeiling_group (b : Bool) (h : GroupId) :
    (s.setOverCeiling b).group h = s.group h := rfl
@[simp] theorem State.setOverCeiling_profileOf (b : Bool) (j : SlotId) :
    (s.setOverCeiling b).profileOf j = s.profileOf j := rfl
@[simp] theorem State.setOverCeiling_covered (b : Bool) (j : SlotId) :
    (s.setOverCeiling b).covered j = s.covered j := rfl
@[simp] theorem State.setOverCeiling_frozen (b : Bool) (j : SlotId) :
    (s.setOverCeiling b).frozen j = s.frozen j := rfl
@[simp] theorem State.setOverCeiling_effectiveTarget (b : Bool) (j : SlotId) :
    (s.setOverCeiling b).effectiveTarget j = s.effectiveTarget j := by
  simp only [State.effectiveTarget, State.setOverCeiling_slot, State.setOverCeiling_covered]
@[simp] theorem State.setOverCeiling_examined (b : Bool) :
    (s.setOverCeiling b).examined = s.examined := rfl
@[simp] theorem State.setOverCeiling_freeEntries (b : Bool) :
    (s.setOverCeiling b).freeEntries = s.freeEntries := by
  simp only [State.freeEntries, State.setOverCeiling_trunk]

/-! ### recomputeZones -/

@[simp] theorem State.recomputeZones_now (zs : Set4) : (s.recomputeZones zs).now = s.now := rfl
@[simp] theorem State.recomputeZones_trunk (zs : Set4) : (s.recomputeZones zs).trunk = s.trunk := rfl
@[simp] theorem State.recomputeZones_kindMap (zs : Set4) : (s.recomputeZones zs).kindMap = s.kindMap := rfl
@[simp] theorem State.recomputeZones_slots (zs : Set4) : (s.recomputeZones zs).slots = s.slots := rfl
@[simp] theorem State.recomputeZones_profiles (zs : Set4) : (s.recomputeZones zs).profiles = s.profiles := rfl
@[simp] theorem State.recomputeZones_lanes (zs : Set4) : (s.recomputeZones zs).lanes = s.lanes := rfl
@[simp] theorem State.recomputeZones_arbiter (zs : Set4) : (s.recomputeZones zs).arbiter = s.arbiter := rfl
@[simp] theorem State.recomputeZones_nodes (zs : Set4) : (s.recomputeZones zs).nodes = s.nodes := rfl
@[simp] theorem State.recomputeZones_rules (zs : Set4) : (s.recomputeZones zs).rules = s.rules := rfl
@[simp] theorem State.recomputeZones_classes (zs : Set4) : (s.recomputeZones zs).classes = s.classes := rfl
@[simp] theorem State.recomputeZones_groups (zs : Set4) : (s.recomputeZones zs).groups = s.groups := rfl
@[simp] theorem State.recomputeZones_supply (zs : Set4) : (s.recomputeZones zs).supply = s.supply := rfl
@[simp] theorem State.recomputeZones_mgmt (zs : Set4) : (s.recomputeZones zs).mgmt = s.mgmt := rfl
@[simp] theorem State.recomputeZones_pending (zs : Set4) : (s.recomputeZones zs).pending = s.pending := rfl
@[simp] theorem State.recomputeZones_slot (zs : Set4) (j : SlotId) :
    (s.recomputeZones zs).slot j = s.slot j := rfl
@[simp] theorem State.recomputeZones_lane (zs : Set4) (j : SlotId) :
    (s.recomputeZones zs).lane j = s.lane j := rfl
@[simp] theorem State.recomputeZones_node (zs : Set4) (m : NodeId) :
    (s.recomputeZones zs).node m = s.node m := rfl
@[simp] theorem State.recomputeZones_cls (zs : Set4) (d : ClassId) :
    (s.recomputeZones zs).cls d = s.cls d := rfl
@[simp] theorem State.recomputeZones_rule (zs : Set4) (r : Fin 16) :
    (s.recomputeZones zs).rule r = s.rule r := rfl
@[simp] theorem State.recomputeZones_group (zs : Set4) (h : GroupId) :
    (s.recomputeZones zs).group h = s.group h := rfl
@[simp] theorem State.recomputeZones_profileOf (zs : Set4) (j : SlotId) :
    (s.recomputeZones zs).profileOf j = s.profileOf j := rfl
@[simp] theorem State.recomputeZones_ceilingInForce (zs : Set4) :
    (s.recomputeZones zs).ceilingInForce = s.ceilingInForce := rfl
@[simp] theorem State.recomputeZones_examined (zs : Set4) :
    (s.recomputeZones zs).examined = s.examined := rfl
@[simp] theorem State.recomputeZones_freeEntries (zs : Set4) :
    (s.recomputeZones zs).freeEntries = s.freeEntries := by
  simp only [State.freeEntries, State.recomputeZones_trunk]

/-! ### zeroCounters -/

@[simp] theorem State.zeroCounters_now (n : NodeId) : (s.zeroCounters n).now = s.now := by
  simp only [State.zeroCounters]
@[simp] theorem State.zeroCounters_trunk (n : NodeId) : (s.zeroCounters n).trunk = s.trunk := by
  simp only [State.zeroCounters]
@[simp] theorem State.zeroCounters_kindMap (n : NodeId) : (s.zeroCounters n).kindMap = s.kindMap := by
  simp only [State.zeroCounters]
@[simp] theorem State.zeroCounters_slots (n : NodeId) : (s.zeroCounters n).slots = s.slots := by
  simp only [State.zeroCounters]
@[simp] theorem State.zeroCounters_profiles (n : NodeId) : (s.zeroCounters n).profiles = s.profiles := by
  simp only [State.zeroCounters]
@[simp] theorem State.zeroCounters_lanes (n : NodeId) : (s.zeroCounters n).lanes = s.lanes := by
  simp only [State.zeroCounters]
@[simp] theorem State.zeroCounters_arbiter (n : NodeId) : (s.zeroCounters n).arbiter = s.arbiter := by
  simp only [State.zeroCounters]
@[simp] theorem State.zeroCounters_nodes (n : NodeId) : (s.zeroCounters n).nodes = s.nodes := by
  simp only [State.zeroCounters]
@[simp] theorem State.zeroCounters_classes (n : NodeId) : (s.zeroCounters n).classes = s.classes := by
  simp only [State.zeroCounters]
@[simp] theorem State.zeroCounters_zones (n : NodeId) : (s.zeroCounters n).zones = s.zones := by
  simp only [State.zeroCounters]
@[simp] theorem State.zeroCounters_groups (n : NodeId) : (s.zeroCounters n).groups = s.groups := by
  simp only [State.zeroCounters]
@[simp] theorem State.zeroCounters_supply (n : NodeId) : (s.zeroCounters n).supply = s.supply := by
  simp only [State.zeroCounters]
@[simp] theorem State.zeroCounters_mgmt (n : NodeId) : (s.zeroCounters n).mgmt = s.mgmt := by
  simp only [State.zeroCounters]
@[simp] theorem State.zeroCounters_pending (n : NodeId) : (s.zeroCounters n).pending = s.pending := by
  simp only [State.zeroCounters]
@[simp] theorem State.zeroCounters_slot (n : NodeId) (j : SlotId) :
    (s.zeroCounters n).slot j = s.slot j := by
  simp only [State.zeroCounters, State.slot]
@[simp] theorem State.zeroCounters_lane (n : NodeId) (j : SlotId) :
    (s.zeroCounters n).lane j = s.lane j := by
  simp only [State.zeroCounters, State.lane]
@[simp] theorem State.zeroCounters_node (n : NodeId) (m : NodeId) :
    (s.zeroCounters n).node m = s.node m := by
  simp only [State.zeroCounters, State.node]
@[simp] theorem State.zeroCounters_cls (n : NodeId) (d : ClassId) :
    (s.zeroCounters n).cls d = s.cls d := by
  simp only [State.zeroCounters, State.cls]
@[simp] theorem State.zeroCounters_group (n : NodeId) (h : GroupId) :
    (s.zeroCounters n).group h = s.group h := by
  simp only [State.zeroCounters, State.group]
@[simp] theorem State.zeroCounters_profileOf (n : NodeId) (j : SlotId) :
    (s.zeroCounters n).profileOf j = s.profileOf j := by
  simp only [State.zeroCounters, State.profileOf, State.slot]
@[simp] theorem State.zeroCounters_covered (n : NodeId) (j : SlotId) :
    (s.zeroCounters n).covered j = s.covered j := by
  simp only [State.zeroCounters, State.covered, State.standingOf, State.slot]
@[simp] theorem State.zeroCounters_frozen (n : NodeId) (j : SlotId) :
    (s.zeroCounters n).frozen j = s.frozen j := by
  simp only [State.zeroCounters, State.frozen, State.standingOf, State.slot]
@[simp] theorem State.zeroCounters_effectiveTarget (n : NodeId) (j : SlotId) :
    (s.zeroCounters n).effectiveTarget j = s.effectiveTarget j := by
  simp only [State.effectiveTarget, State.zeroCounters_slot, State.zeroCounters_covered]
@[simp] theorem State.zeroCounters_ceilingInForce (n : NodeId) :
    (s.zeroCounters n).ceilingInForce = s.ceilingInForce := by
  simp only [State.zeroCounters, State.ceilingInForce]
@[simp] theorem State.zeroCounters_examined (n : NodeId) :
    (s.zeroCounters n).examined = s.examined := by
  simp only [State.zeroCounters, State.examined]
@[simp] theorem State.zeroCounters_freeEntries (n : NodeId) :
    (s.zeroCounters n).freeEntries = s.freeEntries := by
  simp only [State.freeEntries, State.zeroCounters_trunk]

/-! ### The spin arbiter after a write of a part of it -/

@[simp] theorem State.setReservation_queues (i : SlotId) (v : Nat) :
    (s.setReservation i v).arbiter.queues = s.arbiter.queues := rfl
@[simp] theorem State.setReservation_priorityMap (i : SlotId) (v : Nat) :
    (s.setReservation i v).arbiter.priorityMap = s.arbiter.priorityMap := rfl
@[simp] theorem State.setReservation_groupQueue (i : SlotId) (v : Nat) :
    (s.setReservation i v).arbiter.groupQueue = s.arbiter.groupQueue := rfl
@[simp] theorem State.setReservation_groupByPriority (i : SlotId) (v : Nat) :
    (s.setReservation i v).arbiter.groupByPriority = s.arbiter.groupByPriority := rfl
@[simp] theorem State.setReservation_mainsCeiling (i : SlotId) (v : Nat) :
    (s.setReservation i v).arbiter.mainsCeiling = s.arbiter.mainsCeiling := rfl
@[simp] theorem State.setReservation_batteryCeiling (i : SlotId) (v : Nat) :
    (s.setReservation i v).arbiter.batteryCeiling = s.arbiter.batteryCeiling := rfl
@[simp] theorem State.setReservation_lastGrant (i : SlotId) (v : Nat) :
    (s.setReservation i v).arbiter.lastGrant = s.arbiter.lastGrant := rfl
@[simp] theorem State.setReservation_staggerInterval (i : SlotId) (v : Nat) :
    (s.setReservation i v).arbiter.staggerInterval = s.arbiter.staggerInterval := rfl
@[simp] theorem State.setReservation_staggerExpiry (i : SlotId) (v : Nat) :
    (s.setReservation i v).arbiter.staggerExpiry = s.arbiter.staggerExpiry := rfl
@[simp] theorem State.enqueue_priorityMap (i : SlotId) :
    (s.enqueue i).arbiter.priorityMap = s.arbiter.priorityMap := rfl
@[simp] theorem State.enqueue_groupQueue (i : SlotId) :
    (s.enqueue i).arbiter.groupQueue = s.arbiter.groupQueue := rfl
@[simp] theorem State.enqueue_groupByPriority (i : SlotId) :
    (s.enqueue i).arbiter.groupByPriority = s.arbiter.groupByPriority := rfl
@[simp] theorem State.enqueue_mainsCeiling (i : SlotId) :
    (s.enqueue i).arbiter.mainsCeiling = s.arbiter.mainsCeiling := rfl
@[simp] theorem State.enqueue_batteryCeiling (i : SlotId) :
    (s.enqueue i).arbiter.batteryCeiling = s.arbiter.batteryCeiling := rfl
@[simp] theorem State.enqueue_reservationTotal (i : SlotId) :
    (s.enqueue i).arbiter.reservationTotal = s.arbiter.reservationTotal := rfl
@[simp] theorem State.enqueue_lastGrant (i : SlotId) :
    (s.enqueue i).arbiter.lastGrant = s.arbiter.lastGrant := rfl
@[simp] theorem State.enqueue_staggerInterval (i : SlotId) :
    (s.enqueue i).arbiter.staggerInterval = s.arbiter.staggerInterval := rfl
@[simp] theorem State.enqueue_staggerExpiry (i : SlotId) :
    (s.enqueue i).arbiter.staggerExpiry = s.arbiter.staggerExpiry := rfl
@[simp] theorem State.dequeue_priorityMap (i : SlotId) :
    (s.dequeue i).arbiter.priorityMap = s.arbiter.priorityMap := rfl
@[simp] theorem State.dequeue_groupQueue (i : SlotId) :
    (s.dequeue i).arbiter.groupQueue = s.arbiter.groupQueue := rfl
@[simp] theorem State.dequeue_groupByPriority (i : SlotId) :
    (s.dequeue i).arbiter.groupByPriority = s.arbiter.groupByPriority := rfl
@[simp] theorem State.dequeue_mainsCeiling (i : SlotId) :
    (s.dequeue i).arbiter.mainsCeiling = s.arbiter.mainsCeiling := rfl
@[simp] theorem State.dequeue_batteryCeiling (i : SlotId) :
    (s.dequeue i).arbiter.batteryCeiling = s.arbiter.batteryCeiling := rfl
@[simp] theorem State.dequeue_reservationTotal (i : SlotId) :
    (s.dequeue i).arbiter.reservationTotal = s.arbiter.reservationTotal := rfl
@[simp] theorem State.dequeue_lastGrant (i : SlotId) :
    (s.dequeue i).arbiter.lastGrant = s.arbiter.lastGrant := rfl
@[simp] theorem State.dequeue_staggerInterval (i : SlotId) :
    (s.dequeue i).arbiter.staggerInterval = s.arbiter.staggerInterval := rfl
@[simp] theorem State.dequeue_staggerExpiry (i : SlotId) :
    (s.dequeue i).arbiter.staggerExpiry = s.arbiter.staggerExpiry := rfl

/-! ### A record read after a field of the state is written -/

@[simp] theorem State.slot_with_now (x : Nat) (j : SlotId) :
    ({ s with now := x } : State).slot j = s.slot j := rfl
@[simp] theorem State.lane_with_now (x : Nat) (j : SlotId) :
    ({ s with now := x } : State).lane j = s.lane j := rfl
@[simp] theorem State.node_with_now (x : Nat) (m : NodeId) :
    ({ s with now := x } : State).node m = s.node m := rfl
@[simp] theorem State.cls_with_now (x : Nat) (d : ClassId) :
    ({ s with now := x } : State).cls d = s.cls d := rfl
@[simp] theorem State.rule_with_now (x : Nat) (r : Fin 16) :
    ({ s with now := x } : State).rule r = s.rule r := rfl
@[simp] theorem State.group_with_now (x : Nat) (h : GroupId) :
    ({ s with now := x } : State).group h = s.group h := rfl
@[simp] theorem State.profileOf_with_now (x : Nat) (j : SlotId) :
    ({ s with now := x } : State).profileOf j = s.profileOf j := rfl
@[simp] theorem State.covered_with_now (x : Nat) (j : SlotId) :
    ({ s with now := x } : State).covered j = s.covered j := rfl
@[simp] theorem State.frozen_with_now (x : Nat) (j : SlotId) :
    ({ s with now := x } : State).frozen j = s.frozen j := rfl
@[simp] theorem State.ceilingInForce_with_now (x : Nat) :
    ({ s with now := x } : State).ceilingInForce = s.ceilingInForce := rfl
@[simp] theorem State.examined_with_now (x : Nat) :
    ({ s with now := x } : State).examined = s.examined := rfl
@[simp] theorem State.freeEntries_with_now (x : Nat) :
    ({ s with now := x } : State).freeEntries = s.freeEntries := by
  simp only [State.freeEntries]
@[simp] theorem State.effectiveTarget_with_now (x : Nat) (j : SlotId) :
    ({ s with now := x } : State).effectiveTarget j = s.effectiveTarget j := by
  simp only [State.effectiveTarget, State.slot_with_now, State.covered_with_now]
@[simp] theorem State.slot_with_trunk (x : TrunkPort) (j : SlotId) :
    ({ s with trunk := x } : State).slot j = s.slot j := rfl
@[simp] theorem State.lane_with_trunk (x : TrunkPort) (j : SlotId) :
    ({ s with trunk := x } : State).lane j = s.lane j := rfl
@[simp] theorem State.node_with_trunk (x : TrunkPort) (m : NodeId) :
    ({ s with trunk := x } : State).node m = s.node m := rfl
@[simp] theorem State.cls_with_trunk (x : TrunkPort) (d : ClassId) :
    ({ s with trunk := x } : State).cls d = s.cls d := rfl
@[simp] theorem State.rule_with_trunk (x : TrunkPort) (r : Fin 16) :
    ({ s with trunk := x } : State).rule r = s.rule r := rfl
@[simp] theorem State.group_with_trunk (x : TrunkPort) (h : GroupId) :
    ({ s with trunk := x } : State).group h = s.group h := rfl
@[simp] theorem State.profileOf_with_trunk (x : TrunkPort) (j : SlotId) :
    ({ s with trunk := x } : State).profileOf j = s.profileOf j := rfl
@[simp] theorem State.covered_with_trunk (x : TrunkPort) (j : SlotId) :
    ({ s with trunk := x } : State).covered j = s.covered j := rfl
@[simp] theorem State.frozen_with_trunk (x : TrunkPort) (j : SlotId) :
    ({ s with trunk := x } : State).frozen j = s.frozen j := rfl
@[simp] theorem State.ceilingInForce_with_trunk (x : TrunkPort) :
    ({ s with trunk := x } : State).ceilingInForce = s.ceilingInForce := rfl
@[simp] theorem State.examined_with_trunk (x : TrunkPort) :
    ({ s with trunk := x } : State).examined = s.examined := rfl
@[simp] theorem State.effectiveTarget_with_trunk (x : TrunkPort) (j : SlotId) :
    ({ s with trunk := x } : State).effectiveTarget j = s.effectiveTarget j := by
  simp only [State.effectiveTarget, State.slot_with_trunk, State.covered_with_trunk]
@[simp] theorem State.slot_with_kindMap (x : Vector Action 16) (j : SlotId) :
    ({ s with kindMap := x } : State).slot j = s.slot j := rfl
@[simp] theorem State.lane_with_kindMap (x : Vector Action 16) (j : SlotId) :
    ({ s with kindMap := x } : State).lane j = s.lane j := rfl
@[simp] theorem State.node_with_kindMap (x : Vector Action 16) (m : NodeId) :
    ({ s with kindMap := x } : State).node m = s.node m := rfl
@[simp] theorem State.cls_with_kindMap (x : Vector Action 16) (d : ClassId) :
    ({ s with kindMap := x } : State).cls d = s.cls d := rfl
@[simp] theorem State.rule_with_kindMap (x : Vector Action 16) (r : Fin 16) :
    ({ s with kindMap := x } : State).rule r = s.rule r := rfl
@[simp] theorem State.group_with_kindMap (x : Vector Action 16) (h : GroupId) :
    ({ s with kindMap := x } : State).group h = s.group h := rfl
@[simp] theorem State.profileOf_with_kindMap (x : Vector Action 16) (j : SlotId) :
    ({ s with kindMap := x } : State).profileOf j = s.profileOf j := rfl
@[simp] theorem State.covered_with_kindMap (x : Vector Action 16) (j : SlotId) :
    ({ s with kindMap := x } : State).covered j = s.covered j := rfl
@[simp] theorem State.frozen_with_kindMap (x : Vector Action 16) (j : SlotId) :
    ({ s with kindMap := x } : State).frozen j = s.frozen j := rfl
@[simp] theorem State.ceilingInForce_with_kindMap (x : Vector Action 16) :
    ({ s with kindMap := x } : State).ceilingInForce = s.ceilingInForce := rfl
@[simp] theorem State.examined_with_kindMap (x : Vector Action 16) :
    ({ s with kindMap := x } : State).examined = s.examined := rfl
@[simp] theorem State.freeEntries_with_kindMap (x : Vector Action 16) :
    ({ s with kindMap := x } : State).freeEntries = s.freeEntries := by
  simp only [State.freeEntries]
@[simp] theorem State.effectiveTarget_with_kindMap (x : Vector Action 16) (j : SlotId) :
    ({ s with kindMap := x } : State).effectiveTarget j = s.effectiveTarget j := by
  simp only [State.effectiveTarget, State.slot_with_kindMap, State.covered_with_kindMap]
@[simp] theorem State.slot_with_profiles (x : Vector DrawProfile 8) (j : SlotId) :
    ({ s with profiles := x } : State).slot j = s.slot j := rfl
@[simp] theorem State.lane_with_profiles (x : Vector DrawProfile 8) (j : SlotId) :
    ({ s with profiles := x } : State).lane j = s.lane j := rfl
@[simp] theorem State.node_with_profiles (x : Vector DrawProfile 8) (m : NodeId) :
    ({ s with profiles := x } : State).node m = s.node m := rfl
@[simp] theorem State.cls_with_profiles (x : Vector DrawProfile 8) (d : ClassId) :
    ({ s with profiles := x } : State).cls d = s.cls d := rfl
@[simp] theorem State.rule_with_profiles (x : Vector DrawProfile 8) (r : Fin 16) :
    ({ s with profiles := x } : State).rule r = s.rule r := rfl
@[simp] theorem State.group_with_profiles (x : Vector DrawProfile 8) (h : GroupId) :
    ({ s with profiles := x } : State).group h = s.group h := rfl
@[simp] theorem State.covered_with_profiles (x : Vector DrawProfile 8) (j : SlotId) :
    ({ s with profiles := x } : State).covered j = s.covered j := rfl
@[simp] theorem State.frozen_with_profiles (x : Vector DrawProfile 8) (j : SlotId) :
    ({ s with profiles := x } : State).frozen j = s.frozen j := rfl
@[simp] theorem State.ceilingInForce_with_profiles (x : Vector DrawProfile 8) :
    ({ s with profiles := x } : State).ceilingInForce = s.ceilingInForce := rfl
@[simp] theorem State.examined_with_profiles (x : Vector DrawProfile 8) :
    ({ s with profiles := x } : State).examined = s.examined := rfl
@[simp] theorem State.freeEntries_with_profiles (x : Vector DrawProfile 8) :
    ({ s with profiles := x } : State).freeEntries = s.freeEntries := by
  simp only [State.freeEntries]
@[simp] theorem State.effectiveTarget_with_profiles (x : Vector DrawProfile 8) (j : SlotId) :
    ({ s with profiles := x } : State).effectiveTarget j = s.effectiveTarget j := by
  simp only [State.effectiveTarget, State.slot_with_profiles, State.covered_with_profiles]
@[simp] theorem State.slot_with_lanes (x : Vector LaneRecord 24) (j : SlotId) :
    ({ s with lanes := x } : State).slot j = s.slot j := rfl
@[simp] theorem State.node_with_lanes (x : Vector LaneRecord 24) (m : NodeId) :
    ({ s with lanes := x } : State).node m = s.node m := rfl
@[simp] theorem State.cls_with_lanes (x : Vector LaneRecord 24) (d : ClassId) :
    ({ s with lanes := x } : State).cls d = s.cls d := rfl
@[simp] theorem State.rule_with_lanes (x : Vector LaneRecord 24) (r : Fin 16) :
    ({ s with lanes := x } : State).rule r = s.rule r := rfl
@[simp] theorem State.group_with_lanes (x : Vector LaneRecord 24) (h : GroupId) :
    ({ s with lanes := x } : State).group h = s.group h := rfl
@[simp] theorem State.profileOf_with_lanes (x : Vector LaneRecord 24) (j : SlotId) :
    ({ s with lanes := x } : State).profileOf j = s.profileOf j := rfl
@[simp] theorem State.covered_with_lanes (x : Vector LaneRecord 24) (j : SlotId) :
    ({ s with lanes := x } : State).covered j = s.covered j := rfl
@[simp] theorem State.frozen_with_lanes (x : Vector LaneRecord 24) (j : SlotId) :
    ({ s with lanes := x } : State).frozen j = s.frozen j := rfl
@[simp] theorem State.ceilingInForce_with_lanes (x : Vector LaneRecord 24) :
    ({ s with lanes := x } : State).ceilingInForce = s.ceilingInForce := rfl
@[simp] theorem State.examined_with_lanes (x : Vector LaneRecord 24) :
    ({ s with lanes := x } : State).examined = s.examined := rfl
@[simp] theorem State.freeEntries_with_lanes (x : Vector LaneRecord 24) :
    ({ s with lanes := x } : State).freeEntries = s.freeEntries := by
  simp only [State.freeEntries]
@[simp] theorem State.effectiveTarget_with_lanes (x : Vector LaneRecord 24) (j : SlotId) :
    ({ s with lanes := x } : State).effectiveTarget j = s.effectiveTarget j := by
  simp only [State.effectiveTarget, State.slot_with_lanes, State.covered_with_lanes]
@[simp] theorem State.slot_with_arbiter (x : Arbiter) (j : SlotId) :
    ({ s with arbiter := x } : State).slot j = s.slot j := rfl
@[simp] theorem State.lane_with_arbiter (x : Arbiter) (j : SlotId) :
    ({ s with arbiter := x } : State).lane j = s.lane j := rfl
@[simp] theorem State.node_with_arbiter (x : Arbiter) (m : NodeId) :
    ({ s with arbiter := x } : State).node m = s.node m := rfl
@[simp] theorem State.cls_with_arbiter (x : Arbiter) (d : ClassId) :
    ({ s with arbiter := x } : State).cls d = s.cls d := rfl
@[simp] theorem State.rule_with_arbiter (x : Arbiter) (r : Fin 16) :
    ({ s with arbiter := x } : State).rule r = s.rule r := rfl
@[simp] theorem State.group_with_arbiter (x : Arbiter) (h : GroupId) :
    ({ s with arbiter := x } : State).group h = s.group h := rfl
@[simp] theorem State.profileOf_with_arbiter (x : Arbiter) (j : SlotId) :
    ({ s with arbiter := x } : State).profileOf j = s.profileOf j := rfl
@[simp] theorem State.covered_with_arbiter (x : Arbiter) (j : SlotId) :
    ({ s with arbiter := x } : State).covered j = s.covered j := rfl
@[simp] theorem State.frozen_with_arbiter (x : Arbiter) (j : SlotId) :
    ({ s with arbiter := x } : State).frozen j = s.frozen j := rfl
@[simp] theorem State.freeEntries_with_arbiter (x : Arbiter) :
    ({ s with arbiter := x } : State).freeEntries = s.freeEntries := by
  simp only [State.freeEntries]
@[simp] theorem State.effectiveTarget_with_arbiter (x : Arbiter) (j : SlotId) :
    ({ s with arbiter := x } : State).effectiveTarget j = s.effectiveTarget j := by
  simp only [State.effectiveTarget, State.slot_with_arbiter, State.covered_with_arbiter]
@[simp] theorem State.slot_with_zones (x : Vector ZoneStanding 4) (j : SlotId) :
    ({ s with zones := x } : State).slot j = s.slot j := rfl
@[simp] theorem State.lane_with_zones (x : Vector ZoneStanding 4) (j : SlotId) :
    ({ s with zones := x } : State).lane j = s.lane j := rfl
@[simp] theorem State.node_with_zones (x : Vector ZoneStanding 4) (m : NodeId) :
    ({ s with zones := x } : State).node m = s.node m := rfl
@[simp] theorem State.cls_with_zones (x : Vector ZoneStanding 4) (d : ClassId) :
    ({ s with zones := x } : State).cls d = s.cls d := rfl
@[simp] theorem State.rule_with_zones (x : Vector ZoneStanding 4) (r : Fin 16) :
    ({ s with zones := x } : State).rule r = s.rule r := rfl
@[simp] theorem State.group_with_zones (x : Vector ZoneStanding 4) (h : GroupId) :
    ({ s with zones := x } : State).group h = s.group h := rfl
@[simp] theorem State.profileOf_with_zones (x : Vector ZoneStanding 4) (j : SlotId) :
    ({ s with zones := x } : State).profileOf j = s.profileOf j := rfl
@[simp] theorem State.ceilingInForce_with_zones (x : Vector ZoneStanding 4) :
    ({ s with zones := x } : State).ceilingInForce = s.ceilingInForce := rfl
@[simp] theorem State.examined_with_zones (x : Vector ZoneStanding 4) :
    ({ s with zones := x } : State).examined = s.examined := rfl
@[simp] theorem State.freeEntries_with_zones (x : Vector ZoneStanding 4) :
    ({ s with zones := x } : State).freeEntries = s.freeEntries := by
  simp only [State.freeEntries]
@[simp] theorem State.slot_with_supply (x : SupplyMonitor) (j : SlotId) :
    ({ s with supply := x } : State).slot j = s.slot j := rfl
@[simp] theorem State.lane_with_supply (x : SupplyMonitor) (j : SlotId) :
    ({ s with supply := x } : State).lane j = s.lane j := rfl
@[simp] theorem State.node_with_supply (x : SupplyMonitor) (m : NodeId) :
    ({ s with supply := x } : State).node m = s.node m := rfl
@[simp] theorem State.cls_with_supply (x : SupplyMonitor) (d : ClassId) :
    ({ s with supply := x } : State).cls d = s.cls d := rfl
@[simp] theorem State.rule_with_supply (x : SupplyMonitor) (r : Fin 16) :
    ({ s with supply := x } : State).rule r = s.rule r := rfl
@[simp] theorem State.group_with_supply (x : SupplyMonitor) (h : GroupId) :
    ({ s with supply := x } : State).group h = s.group h := rfl
@[simp] theorem State.profileOf_with_supply (x : SupplyMonitor) (j : SlotId) :
    ({ s with supply := x } : State).profileOf j = s.profileOf j := rfl
@[simp] theorem State.covered_with_supply (x : SupplyMonitor) (j : SlotId) :
    ({ s with supply := x } : State).covered j = s.covered j := rfl
@[simp] theorem State.frozen_with_supply (x : SupplyMonitor) (j : SlotId) :
    ({ s with supply := x } : State).frozen j = s.frozen j := rfl
@[simp] theorem State.examined_with_supply (x : SupplyMonitor) :
    ({ s with supply := x } : State).examined = s.examined := rfl
@[simp] theorem State.freeEntries_with_supply (x : SupplyMonitor) :
    ({ s with supply := x } : State).freeEntries = s.freeEntries := by
  simp only [State.freeEntries]
@[simp] theorem State.effectiveTarget_with_supply (x : SupplyMonitor) (j : SlotId) :
    ({ s with supply := x } : State).effectiveTarget j = s.effectiveTarget j := by
  simp only [State.effectiveTarget, State.slot_with_supply, State.covered_with_supply]
@[simp] theorem State.slot_with_mgmt (x : ManagementUnit) (j : SlotId) :
    ({ s with mgmt := x } : State).slot j = s.slot j := rfl
@[simp] theorem State.lane_with_mgmt (x : ManagementUnit) (j : SlotId) :
    ({ s with mgmt := x } : State).lane j = s.lane j := rfl
@[simp] theorem State.node_with_mgmt (x : ManagementUnit) (m : NodeId) :
    ({ s with mgmt := x } : State).node m = s.node m := rfl
@[simp] theorem State.cls_with_mgmt (x : ManagementUnit) (d : ClassId) :
    ({ s with mgmt := x } : State).cls d = s.cls d := rfl
@[simp] theorem State.rule_with_mgmt (x : ManagementUnit) (r : Fin 16) :
    ({ s with mgmt := x } : State).rule r = s.rule r := rfl
@[simp] theorem State.group_with_mgmt (x : ManagementUnit) (h : GroupId) :
    ({ s with mgmt := x } : State).group h = s.group h := rfl
@[simp] theorem State.profileOf_with_mgmt (x : ManagementUnit) (j : SlotId) :
    ({ s with mgmt := x } : State).profileOf j = s.profileOf j := rfl
@[simp] theorem State.covered_with_mgmt (x : ManagementUnit) (j : SlotId) :
    ({ s with mgmt := x } : State).covered j = s.covered j := rfl
@[simp] theorem State.frozen_with_mgmt (x : ManagementUnit) (j : SlotId) :
    ({ s with mgmt := x } : State).frozen j = s.frozen j := rfl
@[simp] theorem State.ceilingInForce_with_mgmt (x : ManagementUnit) :
    ({ s with mgmt := x } : State).ceilingInForce = s.ceilingInForce := rfl
@[simp] theorem State.examined_with_mgmt (x : ManagementUnit) :
    ({ s with mgmt := x } : State).examined = s.examined := rfl
@[simp] theorem State.freeEntries_with_mgmt (x : ManagementUnit) :
    ({ s with mgmt := x } : State).freeEntries = s.freeEntries := by
  simp only [State.freeEntries]
@[simp] theorem State.effectiveTarget_with_mgmt (x : ManagementUnit) (j : SlotId) :
    ({ s with mgmt := x } : State).effectiveTarget j = s.effectiveTarget j := by
  simp only [State.effectiveTarget, State.slot_with_mgmt, State.covered_with_mgmt]
@[simp] theorem State.slot_with_pending (x : List Instr) (j : SlotId) :
    ({ s with pending := x } : State).slot j = s.slot j := rfl
@[simp] theorem State.lane_with_pending (x : List Instr) (j : SlotId) :
    ({ s with pending := x } : State).lane j = s.lane j := rfl
@[simp] theorem State.node_with_pending (x : List Instr) (m : NodeId) :
    ({ s with pending := x } : State).node m = s.node m := rfl
@[simp] theorem State.cls_with_pending (x : List Instr) (d : ClassId) :
    ({ s with pending := x } : State).cls d = s.cls d := rfl
@[simp] theorem State.rule_with_pending (x : List Instr) (r : Fin 16) :
    ({ s with pending := x } : State).rule r = s.rule r := rfl
@[simp] theorem State.group_with_pending (x : List Instr) (h : GroupId) :
    ({ s with pending := x } : State).group h = s.group h := rfl
@[simp] theorem State.profileOf_with_pending (x : List Instr) (j : SlotId) :
    ({ s with pending := x } : State).profileOf j = s.profileOf j := rfl
@[simp] theorem State.covered_with_pending (x : List Instr) (j : SlotId) :
    ({ s with pending := x } : State).covered j = s.covered j := rfl
@[simp] theorem State.frozen_with_pending (x : List Instr) (j : SlotId) :
    ({ s with pending := x } : State).frozen j = s.frozen j := rfl
@[simp] theorem State.ceilingInForce_with_pending (x : List Instr) :
    ({ s with pending := x } : State).ceilingInForce = s.ceilingInForce := rfl
@[simp] theorem State.examined_with_pending (x : List Instr) :
    ({ s with pending := x } : State).examined = s.examined := rfl
@[simp] theorem State.freeEntries_with_pending (x : List Instr) :
    ({ s with pending := x } : State).freeEntries = s.freeEntries := by
  simp only [State.freeEntries]
@[simp] theorem State.effectiveTarget_with_pending (x : List Instr) (j : SlotId) :
    ({ s with pending := x } : State).effectiveTarget j = s.effectiveTarget j := by
  simp only [State.effectiveTarget, State.slot_with_pending, State.covered_with_pending]
@[simp] theorem State.lane_with_slots (x : Vector SlotRecord 24) (j : SlotId) :
    ({ s with slots := x } : State).lane j = s.lane j := rfl
@[simp] theorem State.node_with_slots (x : Vector SlotRecord 24) (m : NodeId) :
    ({ s with slots := x } : State).node m = s.node m := rfl
@[simp] theorem State.cls_with_slots (x : Vector SlotRecord 24) (d : ClassId) :
    ({ s with slots := x } : State).cls d = s.cls d := rfl
@[simp] theorem State.rule_with_slots (x : Vector SlotRecord 24) (r : Fin 16) :
    ({ s with slots := x } : State).rule r = s.rule r := rfl
@[simp] theorem State.group_with_slots (x : Vector SlotRecord 24) (h : GroupId) :
    ({ s with slots := x } : State).group h = s.group h := rfl
@[simp] theorem State.ceilingInForce_with_slots (x : Vector SlotRecord 24) :
    ({ s with slots := x } : State).ceilingInForce = s.ceilingInForce := rfl
@[simp] theorem State.examined_with_slots (x : Vector SlotRecord 24) :
    ({ s with slots := x } : State).examined = s.examined := rfl
@[simp] theorem State.freeEntries_with_slots (x : Vector SlotRecord 24) :
    ({ s with slots := x } : State).freeEntries = s.freeEntries := by
  simp only [State.freeEntries]

/-! ### A record read after a write -/

theorem State.slot_modifySlot (i j : SlotId) (f : SlotRecord → SlotRecord) :
    (s.modifySlot i f).slot j = if j = i then f (s.slot i) else s.slot j := by
  simp only [State.slot, State.modifySlot, Fin.getElem_fin, Vector.getElem_set, Fin.ext_iff, eq_comm]

@[simp] theorem State.slot_modifySlot_self (i : SlotId) (f : SlotRecord → SlotRecord) :
    (s.modifySlot i f).slot i = f (s.slot i) := by simp [State.slot_modifySlot]

@[simp] theorem State.slot_modifySlot_of_ne {i j : SlotId} (h : j ≠ i) (f : SlotRecord → SlotRecord) :
    (s.modifySlot i f).slot j = s.slot j := by simp [State.slot_modifySlot, h]

theorem State.lane_modifyLane (i j : SlotId) (f : LaneRecord → LaneRecord) :
    (s.modifyLane i f).lane j = if j = i then f (s.lane i) else s.lane j := by
  simp only [State.lane, State.modifyLane, Fin.getElem_fin, Vector.getElem_set, Fin.ext_iff, eq_comm]

@[simp] theorem State.lane_modifyLane_self (i : SlotId) (f : LaneRecord → LaneRecord) :
    (s.modifyLane i f).lane i = f (s.lane i) := by simp [State.lane_modifyLane]

@[simp] theorem State.lane_modifyLane_of_ne {i j : SlotId} (h : j ≠ i) (f : LaneRecord → LaneRecord) :
    (s.modifyLane i f).lane j = s.lane j := by simp [State.lane_modifyLane, h]

theorem State.node_modifyNode (i j : NodeId) (f : NodeRecord → NodeRecord) :
    (s.modifyNode i f).node j = if j = i then f (s.node i) else s.node j := by
  simp only [State.node, State.modifyNode, Fin.getElem_fin, Vector.getElem_set, Fin.ext_iff, eq_comm]

@[simp] theorem State.node_modifyNode_self (i : NodeId) (f : NodeRecord → NodeRecord) :
    (s.modifyNode i f).node i = f (s.node i) := by simp [State.node_modifyNode]

@[simp] theorem State.node_modifyNode_of_ne {i j : NodeId} (h : j ≠ i) (f : NodeRecord → NodeRecord) :
    (s.modifyNode i f).node j = s.node j := by simp [State.node_modifyNode, h]

theorem State.cls_modifyClass (i j : ClassId) (f : ClassRecord → ClassRecord) :
    (s.modifyClass i f).cls j = if j = i then f (s.cls i) else s.cls j := by
  simp only [State.cls, State.modifyClass, Fin.getElem_fin, Vector.getElem_set, Fin.ext_iff, eq_comm]

@[simp] theorem State.cls_modifyClass_self (i : ClassId) (f : ClassRecord → ClassRecord) :
    (s.modifyClass i f).cls i = f (s.cls i) := by simp [State.cls_modifyClass]

@[simp] theorem State.cls_modifyClass_of_ne {i j : ClassId} (h : j ≠ i) (f : ClassRecord → ClassRecord) :
    (s.modifyClass i f).cls j = s.cls j := by simp [State.cls_modifyClass, h]

theorem State.rule_modifyRule (i j : Fin 16) (f : MotionRule → MotionRule) :
    (s.modifyRule i f).rule j = if j = i then f (s.rule i) else s.rule j := by
  simp only [State.rule, State.modifyRule, Fin.getElem_fin, Vector.getElem_set, Fin.ext_iff, eq_comm]

@[simp] theorem State.rule_modifyRule_self (i : Fin 16) (f : MotionRule → MotionRule) :
    (s.modifyRule i f).rule i = f (s.rule i) := by simp [State.rule_modifyRule]

@[simp] theorem State.rule_modifyRule_of_ne {i j : Fin 16} (h : j ≠ i) (f : MotionRule → MotionRule) :
    (s.modifyRule i f).rule j = s.rule j := by simp [State.rule_modifyRule, h]

theorem State.group_setGroup (g h : GroupId) (x : Option GroupRecord) :
    (s.setGroup g x).group h = if h = g then x else s.group h := by
  simp only [State.group, State.setGroup, Fin.getElem_fin, Vector.getElem_set, Fin.ext_iff, eq_comm]

@[simp] theorem State.group_setGroup_self (g : GroupId) (x : Option GroupRecord) : (s.setGroup g x).group g = x := by
  simp [State.group_setGroup]

@[simp] theorem State.group_setGroup_of_ne {g h : GroupId} (ne : h ≠ g) (x : Option GroupRecord) :
    (s.setGroup g x).group h = s.group h := by simp [State.group_setGroup, ne]

/-! ### The fields an update gives -/

@[simp] theorem State.setEvents_flags (flags enables : EventFlags) : (s.setEvents flags enables).mgmt.flags = flags := rfl
@[simp] theorem State.setEvents_enables (flags enables : EventFlags) :
    (s.setEvents flags enables).mgmt.enables = enables := rfl
@[simp] theorem State.setEvents_attn (flags enables : EventFlags) :
    (s.setEvents flags enables).mgmt.attn = attention flags enables := rfl
@[simp] theorem State.setEvents_mode (flags enables : EventFlags) :
    (s.setEvents flags enables).mgmt.mode = s.mgmt.mode := rfl
@[simp] theorem State.setEvents_timing (flags enables : EventFlags) :
    (s.setEvents flags enables).mgmt.timing = s.mgmt.timing := rfl
@[simp] theorem State.setFlag_flags (f : Flag) : (s.setFlag f).mgmt.flags = s.mgmt.flags.raise f := rfl
@[simp] theorem State.setFlag_enables (f : Flag) : (s.setFlag f).mgmt.enables = s.mgmt.enables := rfl
@[simp] theorem State.setFlag_attn (f : Flag) :
    (s.setFlag f).mgmt.attn = attention (s.mgmt.flags.raise f) s.mgmt.enables := rfl
@[simp] theorem State.setFlag_mode (f : Flag) : (s.setFlag f).mgmt.mode = s.mgmt.mode := rfl
@[simp] theorem State.setFlag_timing (f : Flag) : (s.setFlag f).mgmt.timing = s.mgmt.timing := rfl
@[simp] theorem State.setMode_mode (mode : Mode) : (s.setMode mode).mgmt.mode = mode := rfl
@[simp] theorem State.setOverCeiling_overCeiling (b : Bool) : (s.setOverCeiling b).supply.overCeiling = b := rfl
@[simp] theorem State.setOverCeiling_source (b : Bool) : (s.setOverCeiling b).supply.source = s.supply.source := rfl
@[simp] theorem State.setOverCeiling_line (b : Bool) : (s.setOverCeiling b).supply.line = s.supply.line := rfl
@[simp] theorem State.setOverCeiling_debounceExpiry (b : Bool) :
    (s.setOverCeiling b).supply.debounceExpiry = s.supply.debounceExpiry := rfl
@[simp] theorem State.setOverCeiling_ceiling (b : Bool) : (s.setOverCeiling b).ceilingInForce = s.ceilingInForce := rfl
@[simp] theorem State.setReservation_total (i : SlotId) (v : Nat) :
    (s.setReservation i v).arbiter.reservationTotal = s.arbiter.reservationTotal - (s.slot i).reservation + v := rfl
@[simp] theorem State.setReservation_ceiling (i : SlotId) (v : Nat) :
    (s.setReservation i v).ceilingInForce = s.ceilingInForce := rfl
@[simp] theorem State.setReservation_slot (i j : SlotId) (v : Nat) : (s.setReservation i v).slot j =
    if j = i then { s.slot i with reservation := v } else s.slot j :=
    s.slot_modifySlot i j fun r => { r with reservation := v }
@[simp] theorem State.enqueue_ceiling (i : SlotId) : (s.enqueue i).ceilingInForce = s.ceilingInForce := rfl
@[simp] theorem State.dequeue_ceiling (i : SlotId) : (s.dequeue i).ceilingInForce = s.ceilingInForce := rfl

/-- Every queue loses the slot's entries and keeps the others in order (R33). -/
@[simp] theorem State.dequeue_queue (i : SlotId) (q : Fin 4) :
    (s.dequeue i).arbiter.queues[q] = s.arbiter.queues[q].filter fun e => e.slot ≠ i := by
  simp [State.dequeue]

/-- The chosen queue gains the slot at its tail, the others are as they were (R32). -/
theorem State.enqueue_queue (i : SlotId) (q : Fin 4) : (s.enqueue i).arbiter.queues[q] =
    if q = (s.queueChoice i).1 then s.arbiter.queues[q] ++ [⟨i, (s.queueChoice i).2⟩] else s.arbiter.queues[q] := by
  simp only [State.enqueue, Fin.getElem_fin, Vector.getElem_set, Fin.ext_iff, eq_comm]
  split <;> simp_all

/-- A named zone takes the standings its classes give, another keeps its own (R113). -/
theorem State.recomputeZones_zone (zs : Set4) (z : ZoneId) :
    (s.recomputeZones zs).zones[z] = if zs[z] then s.zoneStanding z else s.zones[z] := by
  simp [State.recomputeZones]

/-- The node's counter becomes 0 in every rule, the others and every field are as they were (R100). -/
theorem State.zeroCounters_rule (n : NodeId) (k : Fin 16) :
    (s.zeroCounters n).rule k = { s.rule k with counters := (s.rule k).counters.set n.val 0 n.isLt } := by
  simp [State.zeroCounters, State.rule]

/-! ### Walks over slots -/

/-- What holds before a walk and is kept by each of its steps holds after it. -/
theorem State.forSlots_induct {P : State → Prop} {f : SlotId → State → State} (is : List SlotId) {t : State} (h : P t)
    (step : ∀ i ∈ is, ∀ u, P u → P (f i u)) : P (t.forSlots is f) := by
  unfold State.forSlots
  induction is generalizing t with
  | nil => exact h
  | cons i rest ih => exact ih (step i (by simp) t h) fun j hj => step j (by simp [hj])

end Sys2Proof.Machine
end

