-- ==== Sys2Proof/Laws/Lanes.lean ====
section
/-! SUPPORT. Laws/Lanes.lean: fresh and retired lane tags, the places an op can take, the match of a tag, and what each
settlement and abandonment leaves in a lane record (chapter 03). -/

namespace Sys2Proof.Machine

variable (r : LaneRecord)

/-! ### Fresh tags (R51) -/

/-- A tag that a fresh one may not be. -/
def LaneRecord.taken (t : Byte) : Prop := t ∈ r.retired ∨ t ∈ r.outstanding

/-- The search from `t` ends `n` values on, over taken values only, at one not taken or where its fuel ends. -/
theorem LaneRecord.freeTagFrom_spec (fuel : Nat) (t : Byte) :
    ∃ n ≤ fuel, r.freeTagFrom fuel t = t + BitVec.ofNat 8 n ∧ (∀ m < n, r.taken (t + BitVec.ofNat 8 m)) ∧
      (n < fuel → ¬r.taken (t + BitVec.ofNat 8 n)) := by
  induction fuel generalizing t with
  | zero => exact ⟨0, le_rfl, by simp [LaneRecord.freeTagFrom], by simp, by simp⟩
  | succ k ih =>
    by_cases h : r.taken t
    · obtain ⟨n, hn, he, hm, hf⟩ := ih (t + 1)
      have shift : ∀ m, t + 1 + BitVec.ofNat 8 m = t + BitVec.ofNat 8 (m + 1) := by
        intro m; rw [Nat.add_comm m 1, BitVec.ofNat_add, BitVec.add_assoc]; rfl
      refine ⟨n + 1, by omega, ?_, ?_, ?_⟩
      · have : r.freeTagFrom (k + 1) t = r.freeTagFrom k (t + 1) := by
          unfold LaneRecord.taken at h
          simp [LaneRecord.freeTagFrom, h]
        rw [this, he, shift]
      · intro m hm'
        cases m with
        | zero => simpa using h
        | succ m => rw [← shift]; exact hm m (by omega)
      · intro hn'; rw [← shift]; exact hf (by omega)
    · refine ⟨0, by omega, ?_, by simp, fun _ => by simpa using h⟩
      unfold LaneRecord.taken at h
      simp [LaneRecord.freeTagFrom, h]

/-- At most three ops are outstanding. -/
theorem LaneRecord.outstanding_length : r.outstanding.length ≤ 3 := by
  unfold LaneRecord.outstanding
  cases r.governed <;> cases r.preempting <;> cases r.plain <;> simp

/-- With at most eight retired tags a fresh tag is the first free value after the last issued one (R51). -/
theorem LaneRecord.freshTag_firstFree (h : r.retired.length ≤ Config.retiredMax) : FirstFree r r.freshTag := by
  obtain ⟨n, hn, he, hm, hf⟩ := r.freeTagFrom_spec 256 (r.lastTag + 1)
  have few : n < 12 := by
    by_contra hge
    have sub : ((List.range 12).map fun m => r.lastTag + 1 + BitVec.ofNat 8 m) ⊆ r.retired ++ r.outstanding := by
      intro x hx
      obtain ⟨m, hm', rfl⟩ := List.mem_map.1 hx
      exact List.mem_append.2 (hm m (by have := List.mem_range.1 hm'; omega))
    have nodup : ((List.range 12).map fun m => r.lastTag + 1 + BitVec.ofNat 8 m).Nodup := by
      refine List.Nodup.map_on ?_ List.nodup_range
      intro a ha b hb hab
      have ha := List.mem_range.1 ha
      have hb := List.mem_range.1 hb
      have := congrArg BitVec.toNat (BitVec.add_right_inj _ |>.1 hab)
      simpa [Nat.mod_eq_of_lt (show a < 256 by omega), Nat.mod_eq_of_lt (show b < 256 by omega)] using this
    have len := (List.subperm_of_subset nodup sub).length_le
    have := r.outstanding_length
    simp [Config.retiredMax] at len h
    omega
  have free := hf (by omega)
  unfold LaneRecord.freshTag
  rw [he]
  unfold LaneRecord.taken at free hm
  push Not at free
  exact ⟨free.1, free.2, ⟨n, few⟩, rfl, fun m hlt => hm m.val hlt⟩

/-! ### Retired tags (R52) -/

/-- A retired tag stands in the list, which holds at most eight. -/
theorem retireTag_spec (tags : List Byte) (t : Byte) (h : tags.length ≤ Config.retiredMax) :
    t ∈ retireTag tags t ∧ (retireTag tags t).length ≤ Config.retiredMax ∧ ∀ x ∈ retireTag tags t, x = t ∨ x ∈ tags := by
  unfold retireTag
  refine ⟨by simp, ?_, ?_⟩
  · split
    · simp_all [Config.retiredMax]; omega
    · simp_all [Config.retiredMax]
  · intro x hx
    rcases List.mem_append.1 hx with hx | hx
    · split at hx
      · exact .inr (List.mem_of_mem_drop hx)
      · exact .inr hx
    · exact .inl (by simpa using hx)

/-- The list stays without duplicates when a tag outside it is retired. -/
theorem retireTag_nodup {tags : List Byte} {t : Byte} (h : tags.Nodup) (n : t ∉ tags) : (retireTag tags t).Nodup := by
  unfold retireTag
  split
  · exact List.nodup_append.2 ⟨h.sublist (List.drop_sublist ..), by simp, by
      intro a ha b hb; simp at hb; subst hb; exact fun e => n (e ▸ List.mem_of_mem_drop ha)⟩
  · exact List.nodup_append.2 ⟨h, by simp, by intro a ha b hb; simp at hb; subst hb; exact fun e => n (e ▸ ha)⟩

/-! ### Issue (R49, R53, R62) -/

/-- A command carries the fresh tag, which becomes the last issued one (R49, R51). -/
@[simp] theorem LaneRecord.send_fields (c : Byte → LaneCommand) :
    (r.send c).lastTag = r.freshTag ∧ (r.send c).transmitted = r.transmitted ++ [c r.freshTag] ∧
    (r.send c).retired = r.retired ∧ (r.send c).governed = r.governed ∧ (r.send c).preempting = r.preempting ∧
    (r.send c).held = r.held ∧ (r.send c).plain = r.plain ∧ (r.send c).lastPreempted = r.lastPreempted := by
  simp [LaneRecord.send]

/-- On a lane without a governed op, the op asked is issued with role SOLE (R53). -/
theorem LaneRecord.ask_of_free (h : r.governed = none) (op : GovernedOp) (now duration : Nat) :
    r.ask op now duration = r.issueGoverned op now duration := by
  simp [LaneRecord.ask, h]

/-- Behind a SOLE LOAD or SPIN, an UNLOAD or STOP is issued as the preempting op (R53). -/
theorem LaneRecord.ask_of_preempts {g : GovernedRecord} (h : r.governed = some g) (role : g.role = .sole)
    (p : r.preempting = none) {op : GovernedOp} (pre : preempts g.op op = true) (now duration : Nat) :
    r.ask op now duration = r.issuePreempting g op now duration := by
  simp [LaneRecord.ask, h, role, p, pre]

/-- Behind a RESIDUAL op, the op asked is held, and a STOP or UNLOAD takes the place of the SPIN or LOAD held (R55). -/
theorem LaneRecord.ask_of_residual {g : GovernedRecord} (h : r.governed = some g) (role : g.role = .residual)
    (op : GovernedOp) (now duration : Nat) :
    r.ask op now duration =
      if (r.held.all fun x => preempts x op) = true then { r with held := some op } else r := by
  cases hh : r.held <;> simp [LaneRecord.ask, h, role, hh]

/-- An op asked leaves the retired tags, the plain op and the last preempted outcome, and what was sent only grows. -/
theorem LaneRecord.ask_frame (op : GovernedOp) (now duration : Nat) :
    (r.ask op now duration).retired = r.retired ∧ (r.ask op now duration).plain = r.plain ∧
    (r.ask op now duration).lastPreempted = r.lastPreempted ∧
    r.transmitted <+: (r.ask op now duration).transmitted := by
  unfold LaneRecord.ask LaneRecord.issueGoverned LaneRecord.issuePreempting
  (repeat' split) <;> simp

/-- An op asked rewrites the last tag, the governed side and what was sent, and nothing else. -/
theorem LaneRecord.ask_eq (op : GovernedOp) (now duration : Nat) :
    r.ask op now duration =
      { r with
        lastTag := (r.ask op now duration).lastTag, governed := (r.ask op now duration).governed
        preempting := (r.ask op now duration).preempting, held := (r.ask op now duration).held
        transmitted := (r.ask op now duration).transmitted } := by
  unfold LaneRecord.ask LaneRecord.issueGoverned LaneRecord.issuePreempting LaneRecord.send
  (repeat' split) <;> rfl

/-- No op outstanding is lost when another is asked (R53, R55). -/
theorem LaneRecord.ask_outstanding (op : GovernedOp) (now duration : Nat) (p : r.position) :
    ∀ x ∈ r.outstanding, x ∈ (r.ask op now duration).outstanding := by
  unfold LaneRecord.position at p
  unfold LaneRecord.ask LaneRecord.issueGoverned LaneRecord.issuePreempting LaneRecord.outstanding
  intro x hx
  cases hg : r.governed with
  | none => simp_all
  | some g => cases hr : g.role <;> simp_all <;> (repeat' split) <;> simp_all <;> tauto

/-! ### The match of a tag (R56) -/

/-- A tag matches a record that has it, or none has it. -/
theorem LaneRecord.find_cases (t : Byte) :
    (∃ g, r.governed = some g ∧ g.tag = t ∧ r.find t = .governed g) ∨
    (∃ p, r.preempting = some p ∧ p.tag = t ∧ r.find t = .preempting p) ∨
    (∃ p, r.plain = some p ∧ p.tag = t ∧ r.find t = .plain p) ∨
    (t ∉ r.outstanding ∧ r.find t = .nothing) := by
  unfold LaneRecord.find LaneRecord.findPreempting LaneRecord.findPlain LaneRecord.outstanding
  cases hg : r.governed <;> cases hp : r.preempting <;> cases hl : r.plain <;>
    simp <;> (repeat' split) <;> first | done | (simp_all [eq_comm] <;> tauto)

/-- A tag outside the outstanding ones matches nothing (R58). -/
theorem LaneRecord.find_of_not_mem {t : Byte} (h : t ∉ r.outstanding) : r.find t = .nothing := by
  rcases r.find_cases t with ⟨g, hg, ht, _⟩ | ⟨p, hp, ht, _⟩ | ⟨p, hp, ht, _⟩ | ⟨_, hn⟩
  · exact absurd (by simp [LaneRecord.outstanding, hg, ht]) h
  · exact absurd (by simp [LaneRecord.outstanding, hp, ht]) h
  · exact absurd (by simp [LaneRecord.outstanding, hp, ht]) h
  · exact hn

/-! ### Abandonment (R61) -/

/-- The tags of the governed side are those of its two records. -/
theorem LaneRecord.mem_governedTags (t : Byte) :
    t ∈ r.governedTags ↔ (∃ g, r.governed = some g ∧ g.tag = t) ∨ ∃ p, r.preempting = some p ∧ p.tag = t := by
  unfold LaneRecord.governedTags
  cases r.governed <;> cases r.preempting <;> simp [eq_comm]

/-- Abandoning the governed side leaves the plain op, the last preempted outcome, the last tag and what was sent. -/
@[simp] theorem LaneRecord.abandonGoverned_fields :
    r.abandonGoverned.governed = none ∧ r.abandonGoverned.preempting = none ∧ r.abandonGoverned.held = none ∧
    r.abandonGoverned.plain = r.plain ∧ r.abandonGoverned.lastPreempted = r.lastPreempted ∧
    r.abandonGoverned.lastTag = r.lastTag ∧ r.abandonGoverned.transmitted = r.transmitted := by
  simp [LaneRecord.abandonGoverned, LaneRecord.retireAll]

/-- Abandoning all leaves the last preempted outcome, the last tag and what was sent. -/
@[simp] theorem LaneRecord.abandonAll_fields :
    r.abandonAll.governed = none ∧ r.abandonAll.preempting = none ∧ r.abandonAll.held = none ∧
    r.abandonAll.plain = none ∧ r.abandonAll.lastPreempted = r.lastPreempted ∧ r.abandonAll.lastTag = r.lastTag ∧
    r.abandonAll.transmitted = r.transmitted := by
  simp [LaneRecord.abandonAll, LaneRecord.retireAll]

/-- The op last asked of a lane is the one asked, where the lane stands in a position of R53 that takes it. -/
theorem LaneRecord.ask_awaited (op : GovernedOp) (now duration : Nat)
    (h : r.governed = none ∧ r.preempting = none ∧ r.held = none ∨
      (∃ g, r.governed = some g ∧ g.role = .sole ∧ r.preempting = none ∧ r.held = none ∧ preempts g.op op = true) ∨
      ∃ g, r.governed = some g ∧ g.role = .residual ∧ r.preempting = none ∧ ∀ x ∈ r.held, preempts x op = true) :
    (r.ask op now duration).awaited = some op := by
  rcases h with ⟨hg, hp, hh⟩ | ⟨g, hg, role, hp, hh, pre⟩ | ⟨g, hg, role, hp, hh⟩
  · simp [LaneRecord.ask, LaneRecord.issueGoverned, LaneRecord.awaited, hg, hp, hh]
  · simp [LaneRecord.ask, LaneRecord.issuePreempting, LaneRecord.awaited, hg, role, hp, hh, pre]
  · cases hx : r.held <;> simp_all [LaneRecord.ask, LaneRecord.awaited]

end Sys2Proof.Machine
end

