-- ==== Sys2Proof/Laws/Frame.lean ====
section
/-! SUPPORT. Laws/Frame.lean: for each operation over the whole state one lemma of all that it leaves as it was, read through
every accessor; `simp` takes each part as a rule of its own. -/

namespace Sys2Proof.Machine

/-- A symbol due changes nothing but the trunk port. -/
@[simp] theorem State.dueSymbol_frame (s : State) (f : FlowSymbol) :
    (s.dueSymbol f).now = s.now ∧ (s.dueSymbol f).kindMap = s.kindMap ∧ (s.dueSymbol f).slots = s.slots ∧
    (s.dueSymbol f).profiles = s.profiles ∧ (s.dueSymbol f).lanes = s.lanes ∧ (s.dueSymbol f).arbiter = s.arbiter ∧
    (s.dueSymbol f).nodes = s.nodes ∧ (s.dueSymbol f).rules = s.rules ∧ (s.dueSymbol f).classes = s.classes ∧
    (s.dueSymbol f).zones = s.zones ∧ (s.dueSymbol f).groups = s.groups ∧ (s.dueSymbol f).supply = s.supply ∧
    (s.dueSymbol f).mgmt = s.mgmt ∧ (s.dueSymbol f).pending = s.pending ∧ (∀ j, (s.dueSymbol f).slot j = s.slot j) ∧
    (∀ j, (s.dueSymbol f).lane j = s.lane j) ∧ (∀ m, (s.dueSymbol f).node m = s.node m) ∧
    (∀ c, (s.dueSymbol f).cls c = s.cls c) ∧ (∀ k, (s.dueSymbol f).rule k = s.rule k) ∧
    (∀ g, (s.dueSymbol f).group g = s.group g) ∧ (∀ j, (s.dueSymbol f).profileOf j = s.profileOf j) ∧
    (∀ j, (s.dueSymbol f).covered j = s.covered j) ∧ (∀ j, (s.dueSymbol f).frozen j = s.frozen j) ∧
    (s.dueSymbol f).ceilingInForce = s.ceilingInForce ∧ (s.dueSymbol f).examined = s.examined := by
  unfold State.dueSymbol
  (repeat' split) <;> (repeat' apply And.intro) <;> intros <;> rfl

/-- Flow control changes nothing but the trunk port. -/
@[simp] theorem State.refreshFlow_frame (s : State) :
    (s.refreshFlow).now = s.now ∧ (s.refreshFlow).kindMap = s.kindMap ∧ (s.refreshFlow).slots = s.slots ∧
    (s.refreshFlow).profiles = s.profiles ∧ (s.refreshFlow).lanes = s.lanes ∧ (s.refreshFlow).arbiter = s.arbiter ∧
    (s.refreshFlow).nodes = s.nodes ∧ (s.refreshFlow).rules = s.rules ∧ (s.refreshFlow).classes = s.classes ∧
    (s.refreshFlow).zones = s.zones ∧ (s.refreshFlow).groups = s.groups ∧ (s.refreshFlow).supply = s.supply ∧
    (s.refreshFlow).mgmt = s.mgmt ∧ (s.refreshFlow).pending = s.pending ∧ (∀ j, (s.refreshFlow).slot j = s.slot j) ∧
    (∀ j, (s.refreshFlow).lane j = s.lane j) ∧ (∀ m, (s.refreshFlow).node m = s.node m) ∧
    (∀ c, (s.refreshFlow).cls c = s.cls c) ∧ (∀ k, (s.refreshFlow).rule k = s.rule k) ∧
    (∀ g, (s.refreshFlow).group g = s.group g) ∧ (∀ j, (s.refreshFlow).profileOf j = s.profileOf j) ∧
    (∀ j, (s.refreshFlow).covered j = s.covered j) ∧ (∀ j, (s.refreshFlow).frozen j = s.frozen j) ∧
    (s.refreshFlow).ceilingInForce = s.ceilingInForce ∧ (s.refreshFlow).examined = s.examined := by
  unfold State.refreshFlow
  (try simp only [])
  (repeat' split) <;> simp

/-- The start of a frame changes nothing but the trunk port. -/
@[simp] theorem State.startTransmission_frame (s : State) :
    (s.startTransmission).now = s.now ∧ (s.startTransmission).kindMap = s.kindMap ∧
    (s.startTransmission).slots = s.slots ∧ (s.startTransmission).profiles = s.profiles ∧
    (s.startTransmission).lanes = s.lanes ∧ (s.startTransmission).arbiter = s.arbiter ∧
    (s.startTransmission).nodes = s.nodes ∧ (s.startTransmission).rules = s.rules ∧
    (s.startTransmission).classes = s.classes ∧ (s.startTransmission).zones = s.zones ∧
    (s.startTransmission).groups = s.groups ∧ (s.startTransmission).supply = s.supply ∧
    (s.startTransmission).mgmt = s.mgmt ∧ (s.startTransmission).pending = s.pending ∧
    (∀ j, (s.startTransmission).slot j = s.slot j) ∧ (∀ j, (s.startTransmission).lane j = s.lane j) ∧
    (∀ m, (s.startTransmission).node m = s.node m) ∧ (∀ c, (s.startTransmission).cls c = s.cls c) ∧
    (∀ k, (s.startTransmission).rule k = s.rule k) ∧ (∀ g, (s.startTransmission).group g = s.group g) ∧
    (∀ j, (s.startTransmission).profileOf j = s.profileOf j) ∧ (∀ j, (s.startTransmission).covered j = s.covered j) ∧
    (∀ j, (s.startTransmission).frozen j = s.frozen j) ∧ (s.startTransmission).ceilingInForce = s.ceilingInForce ∧
    (s.startTransmission).examined = s.examined := by
  unfold State.startTransmission
  (repeat' split) <;> (repeat' apply And.intro) <;> intros <;> rfl

/-- An answer changes nothing but the trunk port. -/
@[simp] theorem State.answer_frame (s : State) (a : AnswerFrame) :
    (s.answer a).now = s.now ∧ (s.answer a).kindMap = s.kindMap ∧ (s.answer a).slots = s.slots ∧
    (s.answer a).profiles = s.profiles ∧ (s.answer a).lanes = s.lanes ∧ (s.answer a).arbiter = s.arbiter ∧
    (s.answer a).nodes = s.nodes ∧ (s.answer a).rules = s.rules ∧ (s.answer a).classes = s.classes ∧
    (s.answer a).zones = s.zones ∧ (s.answer a).groups = s.groups ∧ (s.answer a).supply = s.supply ∧
    (s.answer a).mgmt = s.mgmt ∧ (s.answer a).pending = s.pending ∧ (∀ j, (s.answer a).slot j = s.slot j) ∧
    (∀ j, (s.answer a).lane j = s.lane j) ∧ (∀ m, (s.answer a).node m = s.node m) ∧
    (∀ c, (s.answer a).cls c = s.cls c) ∧ (∀ k, (s.answer a).rule k = s.rule k) ∧
    (∀ g, (s.answer a).group g = s.group g) ∧ (∀ j, (s.answer a).profileOf j = s.profileOf j) ∧
    (∀ j, (s.answer a).covered j = s.covered j) ∧ (∀ j, (s.answer a).frozen j = s.frozen j) ∧
    (s.answer a).ceilingInForce = s.ceilingInForce ∧ (s.answer a).examined = s.examined := by
  unfold State.answer
  (try simp only [])
  simp

/-- An answer owed changes nothing but the trunk port. -/
@[simp] theorem State.answerOwed_frame (s : State) (a : AnswerFrame) :
    (s.answerOwed a).now = s.now ∧ (s.answerOwed a).kindMap = s.kindMap ∧ (s.answerOwed a).slots = s.slots ∧
    (s.answerOwed a).profiles = s.profiles ∧ (s.answerOwed a).lanes = s.lanes ∧
    (s.answerOwed a).arbiter = s.arbiter ∧ (s.answerOwed a).nodes = s.nodes ∧ (s.answerOwed a).rules = s.rules ∧
    (s.answerOwed a).classes = s.classes ∧ (s.answerOwed a).zones = s.zones ∧ (s.answerOwed a).groups = s.groups ∧
    (s.answerOwed a).supply = s.supply ∧ (s.answerOwed a).mgmt = s.mgmt ∧ (s.answerOwed a).pending = s.pending ∧
    (∀ j, (s.answerOwed a).slot j = s.slot j) ∧ (∀ j, (s.answerOwed a).lane j = s.lane j) ∧
    (∀ m, (s.answerOwed a).node m = s.node m) ∧ (∀ c, (s.answerOwed a).cls c = s.cls c) ∧
    (∀ k, (s.answerOwed a).rule k = s.rule k) ∧ (∀ g, (s.answerOwed a).group g = s.group g) ∧
    (∀ j, (s.answerOwed a).profileOf j = s.profileOf j) ∧ (∀ j, (s.answerOwed a).covered j = s.covered j) ∧
    (∀ j, (s.answerOwed a).frozen j = s.frozen j) ∧ (s.answerOwed a).ceilingInForce = s.ceilingInForce ∧
    (s.answerOwed a).examined = s.examined := by
  unfold State.answerOwed
  (try simp only [])
  simp

/-- A reservation changes nothing but the trunk port. -/
@[simp] theorem State.takeReservation_frame (s : State) :
    (s.takeReservation).now = s.now ∧ (s.takeReservation).kindMap = s.kindMap ∧ (s.takeReservation).slots = s.slots ∧
    (s.takeReservation).profiles = s.profiles ∧ (s.takeReservation).lanes = s.lanes ∧
    (s.takeReservation).arbiter = s.arbiter ∧ (s.takeReservation).nodes = s.nodes ∧
    (s.takeReservation).rules = s.rules ∧ (s.takeReservation).classes = s.classes ∧
    (s.takeReservation).zones = s.zones ∧ (s.takeReservation).groups = s.groups ∧
    (s.takeReservation).supply = s.supply ∧ (s.takeReservation).mgmt = s.mgmt ∧
    (s.takeReservation).pending = s.pending ∧ (∀ j, (s.takeReservation).slot j = s.slot j) ∧
    (∀ j, (s.takeReservation).lane j = s.lane j) ∧ (∀ m, (s.takeReservation).node m = s.node m) ∧
    (∀ c, (s.takeReservation).cls c = s.cls c) ∧ (∀ k, (s.takeReservation).rule k = s.rule k) ∧
    (∀ g, (s.takeReservation).group g = s.group g) ∧ (∀ j, (s.takeReservation).profileOf j = s.profileOf j) ∧
    (∀ j, (s.takeReservation).covered j = s.covered j) ∧ (∀ j, (s.takeReservation).frozen j = s.frozen j) ∧
    (s.takeReservation).ceilingInForce = s.ceilingInForce ∧ (s.takeReservation).examined = s.examined := by
  unfold State.takeReservation
  (try simp only [])
  simp

/-- The head sent changes nothing but the trunk port. -/
@[simp] theorem State.headSent_frame (s : State) :
    (s.headSent).now = s.now ∧ (s.headSent).kindMap = s.kindMap ∧ (s.headSent).slots = s.slots ∧
    (s.headSent).profiles = s.profiles ∧ (s.headSent).lanes = s.lanes ∧ (s.headSent).arbiter = s.arbiter ∧
    (s.headSent).nodes = s.nodes ∧ (s.headSent).rules = s.rules ∧ (s.headSent).classes = s.classes ∧
    (s.headSent).zones = s.zones ∧ (s.headSent).groups = s.groups ∧ (s.headSent).supply = s.supply ∧
    (s.headSent).mgmt = s.mgmt ∧ (s.headSent).pending = s.pending ∧ (∀ j, (s.headSent).slot j = s.slot j) ∧
    (∀ j, (s.headSent).lane j = s.lane j) ∧ (∀ m, (s.headSent).node m = s.node m) ∧
    (∀ c, (s.headSent).cls c = s.cls c) ∧ (∀ k, (s.headSent).rule k = s.rule k) ∧
    (∀ g, (s.headSent).group g = s.group g) ∧ (∀ j, (s.headSent).profileOf j = s.profileOf j) ∧
    (∀ j, (s.headSent).covered j = s.covered j) ∧ (∀ j, (s.headSent).frozen j = s.frozen j) ∧
    (s.headSent).ceilingInForce = s.ceilingInForce ∧ (s.headSent).examined = s.examined := by
  unfold State.headSent
  (repeat' split) <;> (repeat' apply And.intro) <;> intros <;> rfl

/-- The close of a record changes groups and the trunk port at most. -/
@[simp] theorem State.closeIfEmpty_frame (s : State) (g : GroupId) :
    (s.closeIfEmpty g).now = s.now ∧ (s.closeIfEmpty g).kindMap = s.kindMap ∧ (s.closeIfEmpty g).slots = s.slots ∧
    (s.closeIfEmpty g).profiles = s.profiles ∧ (s.closeIfEmpty g).lanes = s.lanes ∧
    (s.closeIfEmpty g).arbiter = s.arbiter ∧ (s.closeIfEmpty g).nodes = s.nodes ∧
    (s.closeIfEmpty g).rules = s.rules ∧ (s.closeIfEmpty g).classes = s.classes ∧
    (s.closeIfEmpty g).zones = s.zones ∧ (s.closeIfEmpty g).supply = s.supply ∧ (s.closeIfEmpty g).mgmt = s.mgmt ∧
    (s.closeIfEmpty g).pending = s.pending ∧ (∀ j, (s.closeIfEmpty g).slot j = s.slot j) ∧
    (∀ j, (s.closeIfEmpty g).lane j = s.lane j) ∧ (∀ m, (s.closeIfEmpty g).node m = s.node m) ∧
    (∀ c, (s.closeIfEmpty g).cls c = s.cls c) ∧ (∀ k, (s.closeIfEmpty g).rule k = s.rule k) ∧
    (∀ j, (s.closeIfEmpty g).profileOf j = s.profileOf j) ∧ (∀ j, (s.closeIfEmpty g).covered j = s.covered j) ∧
    (∀ j, (s.closeIfEmpty g).frozen j = s.frozen j) ∧ (s.closeIfEmpty g).ceilingInForce = s.ceilingInForce ∧
    (s.closeIfEmpty g).examined = s.examined := by
  unfold State.closeIfEmpty
  (repeat' split) <;> simp

/-- A member's outcome changes groups and the trunk port at most. -/
@[simp] theorem State.recordOutcome_frame (s : State) (g : GroupId) (i : SlotId) (code : AnswerCode) :
    (s.recordOutcome g i code).now = s.now ∧ (s.recordOutcome g i code).kindMap = s.kindMap ∧
    (s.recordOutcome g i code).slots = s.slots ∧ (s.recordOutcome g i code).profiles = s.profiles ∧
    (s.recordOutcome g i code).lanes = s.lanes ∧ (s.recordOutcome g i code).arbiter = s.arbiter ∧
    (s.recordOutcome g i code).nodes = s.nodes ∧ (s.recordOutcome g i code).rules = s.rules ∧
    (s.recordOutcome g i code).classes = s.classes ∧ (s.recordOutcome g i code).zones = s.zones ∧
    (s.recordOutcome g i code).supply = s.supply ∧ (s.recordOutcome g i code).mgmt = s.mgmt ∧
    (s.recordOutcome g i code).pending = s.pending ∧ (∀ j, (s.recordOutcome g i code).slot j = s.slot j) ∧
    (∀ j, (s.recordOutcome g i code).lane j = s.lane j) ∧ (∀ m, (s.recordOutcome g i code).node m = s.node m) ∧
    (∀ c, (s.recordOutcome g i code).cls c = s.cls c) ∧ (∀ k, (s.recordOutcome g i code).rule k = s.rule k) ∧
    (∀ j, (s.recordOutcome g i code).profileOf j = s.profileOf j) ∧
    (∀ j, (s.recordOutcome g i code).covered j = s.covered j) ∧
    (∀ j, (s.recordOutcome g i code).frozen j = s.frozen j) ∧
    (s.recordOutcome g i code).ceilingInForce = s.ceilingInForce ∧ (s.recordOutcome g i code).examined = s.examined := by
  unfold State.recordOutcome
  (repeat' split) <;> simp

/-- An outcome changes a slot, groups and the trunk port at most. -/
@[simp] theorem State.giveOutcome_frame (s : State) (i : SlotId) (code : AnswerCode) :
    (s.giveOutcome i code).now = s.now ∧ (s.giveOutcome i code).kindMap = s.kindMap ∧
    (s.giveOutcome i code).profiles = s.profiles ∧ (s.giveOutcome i code).lanes = s.lanes ∧
    (s.giveOutcome i code).arbiter = s.arbiter ∧ (s.giveOutcome i code).nodes = s.nodes ∧
    (s.giveOutcome i code).rules = s.rules ∧ (s.giveOutcome i code).classes = s.classes ∧
    (s.giveOutcome i code).zones = s.zones ∧ (s.giveOutcome i code).supply = s.supply ∧
    (s.giveOutcome i code).mgmt = s.mgmt ∧ (s.giveOutcome i code).pending = s.pending ∧
    (∀ j, (s.giveOutcome i code).lane j = s.lane j) ∧ (∀ m, (s.giveOutcome i code).node m = s.node m) ∧
    (∀ c, (s.giveOutcome i code).cls c = s.cls c) ∧ (∀ k, (s.giveOutcome i code).rule k = s.rule k) ∧
    (∀ j, ((s.giveOutcome i code).slot j).present = (s.slot j).present) ∧
    (∀ j, ((s.giveOutcome i code).slot j).input = (s.slot j).input) ∧
    (∀ j, ((s.giveOutcome i code).slot j).debounceExpiry = (s.slot j).debounceExpiry) ∧
    (∀ j, ((s.giveOutcome i code).slot j).inService = (s.slot j).inService) ∧
    (∀ j, ((s.giveOutcome i code).slot j).zone = (s.slot j).zone) ∧
    (∀ j, ((s.giveOutcome i code).slot j).profile = (s.slot j).profile) ∧
    (∀ j, ((s.giveOutcome i code).slot j).shedClass = (s.slot j).shedClass) ∧
    (∀ j, (s.giveOutcome i code).profileOf j = s.profileOf j) ∧
    (∀ j, (s.giveOutcome i code).covered j = s.covered j) ∧ (∀ j, (s.giveOutcome i code).frozen j = s.frozen j) ∧
    (s.giveOutcome i code).ceilingInForce = s.ceilingInForce ∧ (s.giveOutcome i code).examined = s.examined := by
  unfold State.giveOutcome
  (try simp only [])
  (repeat' split) <;> (repeat' apply And.intro)
  all_goals first
    | (simp; done)
    | (intro j
       by_cases h : j = i
       · subst h; simp [State.profileOf, State.covered, State.frozen, State.standingOf]
       · simp [h, State.profileOf, State.covered, State.frozen, State.standingOf])

/-- An op asked changes a lane at most. -/
@[simp] theorem State.ask_frame (s : State) (i : SlotId) (op : GovernedOp) :
    (s.ask i op).now = s.now ∧ (s.ask i op).trunk = s.trunk ∧ (s.ask i op).kindMap = s.kindMap ∧
    (s.ask i op).slots = s.slots ∧ (s.ask i op).profiles = s.profiles ∧ (s.ask i op).arbiter = s.arbiter ∧
    (s.ask i op).nodes = s.nodes ∧ (s.ask i op).rules = s.rules ∧ (s.ask i op).classes = s.classes ∧
    (s.ask i op).zones = s.zones ∧ (s.ask i op).groups = s.groups ∧ (s.ask i op).supply = s.supply ∧
    (s.ask i op).mgmt = s.mgmt ∧ (s.ask i op).pending = s.pending ∧ (∀ j, (s.ask i op).slot j = s.slot j) ∧
    (∀ m, (s.ask i op).node m = s.node m) ∧ (∀ c, (s.ask i op).cls c = s.cls c) ∧
    (∀ k, (s.ask i op).rule k = s.rule k) ∧ (∀ g, (s.ask i op).group g = s.group g) ∧
    (∀ j, (s.ask i op).profileOf j = s.profileOf j) ∧ (∀ j, (s.ask i op).covered j = s.covered j) ∧
    (∀ j, (s.ask i op).frozen j = s.frozen j) ∧ (s.ask i op).ceilingInForce = s.ceilingInForce ∧
    (s.ask i op).examined = s.examined ∧ (s.ask i op).freeEntries = s.freeEntries := by
  unfold State.ask
  simp

/-- A state taken changes a slot and the account at most. -/
@[simp] theorem State.enterState_frame (s : State) (i : SlotId) (st : SlotState) :
    (s.enterState i st).now = s.now ∧ (s.enterState i st).trunk = s.trunk ∧ (s.enterState i st).kindMap = s.kindMap ∧
    (s.enterState i st).profiles = s.profiles ∧ (s.enterState i st).lanes = s.lanes ∧
    (s.enterState i st).nodes = s.nodes ∧ (s.enterState i st).rules = s.rules ∧
    (s.enterState i st).classes = s.classes ∧ (s.enterState i st).zones = s.zones ∧
    (s.enterState i st).groups = s.groups ∧ (s.enterState i st).supply = s.supply ∧
    (s.enterState i st).mgmt = s.mgmt ∧ (s.enterState i st).pending = s.pending ∧
    (∀ j, (s.enterState i st).lane j = s.lane j) ∧ (∀ m, (s.enterState i st).node m = s.node m) ∧
    (∀ c, (s.enterState i st).cls c = s.cls c) ∧ (∀ k, (s.enterState i st).rule k = s.rule k) ∧
    (∀ g, (s.enterState i st).group g = s.group g) ∧
    (∀ j, ((s.enterState i st).slot j).present = (s.slot j).present) ∧
    (∀ j, ((s.enterState i st).slot j).input = (s.slot j).input) ∧
    (∀ j, ((s.enterState i st).slot j).debounceExpiry = (s.slot j).debounceExpiry) ∧
    (∀ j, ((s.enterState i st).slot j).inService = (s.slot j).inService) ∧
    (∀ j, ((s.enterState i st).slot j).zone = (s.slot j).zone) ∧
    (∀ j, ((s.enterState i st).slot j).profile = (s.slot j).profile) ∧
    (∀ j, ((s.enterState i st).slot j).shedClass = (s.slot j).shedClass) ∧
    (∀ j, (s.enterState i st).profileOf j = s.profileOf j) ∧ (∀ j, (s.enterState i st).covered j = s.covered j) ∧
    (∀ j, (s.enterState i st).frozen j = s.frozen j) ∧
    (s.enterState i st).arbiter.priorityMap = s.arbiter.priorityMap ∧
    (s.enterState i st).arbiter.groupQueue = s.arbiter.groupQueue ∧
    (s.enterState i st).arbiter.groupByPriority = s.arbiter.groupByPriority ∧
    (s.enterState i st).arbiter.mainsCeiling = s.arbiter.mainsCeiling ∧
    (s.enterState i st).arbiter.batteryCeiling = s.arbiter.batteryCeiling ∧
    (s.enterState i st).arbiter.staggerInterval = s.arbiter.staggerInterval ∧
    (s.enterState i st).ceilingInForce = s.ceilingInForce ∧ (s.enterState i st).freeEntries = s.freeEntries := by
  unfold State.enterState
  (repeat' apply And.intro)
  all_goals first
    | (simp; done)
    | (intro j
       by_cases h : j = i
       · subst h; simp [State.profileOf, State.covered, State.frozen, State.standingOf]
       · simp [h, State.profileOf, State.covered, State.frozen, State.standingOf])

/-- A reservation derived again changes a slot and the account at most. -/
@[simp] theorem State.rederive_frame (s : State) (i : SlotId) :
    (s.rederive i).now = s.now ∧ (s.rederive i).trunk = s.trunk ∧ (s.rederive i).kindMap = s.kindMap ∧
    (s.rederive i).profiles = s.profiles ∧ (s.rederive i).lanes = s.lanes ∧ (s.rederive i).nodes = s.nodes ∧
    (s.rederive i).rules = s.rules ∧ (s.rederive i).classes = s.classes ∧ (s.rederive i).zones = s.zones ∧
    (s.rederive i).groups = s.groups ∧ (s.rederive i).supply = s.supply ∧ (s.rederive i).mgmt = s.mgmt ∧
    (s.rederive i).pending = s.pending ∧ (∀ j, (s.rederive i).lane j = s.lane j) ∧
    (∀ m, (s.rederive i).node m = s.node m) ∧ (∀ c, (s.rederive i).cls c = s.cls c) ∧
    (∀ k, (s.rederive i).rule k = s.rule k) ∧ (∀ g, (s.rederive i).group g = s.group g) ∧
    (∀ j, ((s.rederive i).slot j).present = (s.slot j).present) ∧
    (∀ j, ((s.rederive i).slot j).input = (s.slot j).input) ∧
    (∀ j, ((s.rederive i).slot j).debounceExpiry = (s.slot j).debounceExpiry) ∧
    (∀ j, ((s.rederive i).slot j).inService = (s.slot j).inService) ∧
    (∀ j, ((s.rederive i).slot j).zone = (s.slot j).zone) ∧
    (∀ j, ((s.rederive i).slot j).profile = (s.slot j).profile) ∧
    (∀ j, ((s.rederive i).slot j).shedClass = (s.slot j).shedClass) ∧
    (∀ j, (s.rederive i).profileOf j = s.profileOf j) ∧ (∀ j, (s.rederive i).covered j = s.covered j) ∧
    (∀ j, (s.rederive i).frozen j = s.frozen j) ∧ (s.rederive i).arbiter.priorityMap = s.arbiter.priorityMap ∧
    (s.rederive i).arbiter.groupQueue = s.arbiter.groupQueue ∧
    (s.rederive i).arbiter.groupByPriority = s.arbiter.groupByPriority ∧
    (s.rederive i).arbiter.mainsCeiling = s.arbiter.mainsCeiling ∧
    (s.rederive i).arbiter.batteryCeiling = s.arbiter.batteryCeiling ∧
    (s.rederive i).arbiter.staggerInterval = s.arbiter.staggerInterval ∧
    (s.rederive i).ceilingInForce = s.ceilingInForce ∧ (s.rederive i).freeEntries = s.freeEntries := by
  unfold State.rederive
  (repeat' apply And.intro)
  all_goals first
    | (simp; done)
    | (intro j
       by_cases h : j = i
       · subst h; simp [State.profileOf, State.covered, State.frozen, State.standingOf]
       · simp [h, State.profileOf, State.covered, State.frozen, State.standingOf])

/-- A spin-down changes a slot, its lane and the account at most. -/
@[simp] theorem State.spinDown_frame (s : State) (i : SlotId) (kept : DrawKept) :
    (s.spinDown i kept).now = s.now ∧ (s.spinDown i kept).trunk = s.trunk ∧ (s.spinDown i kept).kindMap = s.kindMap ∧
    (s.spinDown i kept).profiles = s.profiles ∧ (s.spinDown i kept).nodes = s.nodes ∧
    (s.spinDown i kept).rules = s.rules ∧ (s.spinDown i kept).classes = s.classes ∧
    (s.spinDown i kept).zones = s.zones ∧ (s.spinDown i kept).groups = s.groups ∧
    (s.spinDown i kept).supply = s.supply ∧ (s.spinDown i kept).mgmt = s.mgmt ∧
    (s.spinDown i kept).pending = s.pending ∧ (∀ m, (s.spinDown i kept).node m = s.node m) ∧
    (∀ c, (s.spinDown i kept).cls c = s.cls c) ∧ (∀ k, (s.spinDown i kept).rule k = s.rule k) ∧
    (∀ g, (s.spinDown i kept).group g = s.group g) ∧
    (∀ j, ((s.spinDown i kept).slot j).present = (s.slot j).present) ∧
    (∀ j, ((s.spinDown i kept).slot j).input = (s.slot j).input) ∧
    (∀ j, ((s.spinDown i kept).slot j).debounceExpiry = (s.slot j).debounceExpiry) ∧
    (∀ j, ((s.spinDown i kept).slot j).inService = (s.slot j).inService) ∧
    (∀ j, ((s.spinDown i kept).slot j).zone = (s.slot j).zone) ∧
    (∀ j, ((s.spinDown i kept).slot j).profile = (s.slot j).profile) ∧
    (∀ j, ((s.spinDown i kept).slot j).shedClass = (s.slot j).shedClass) ∧
    (∀ j, (s.spinDown i kept).profileOf j = s.profileOf j) ∧ (∀ j, (s.spinDown i kept).covered j = s.covered j) ∧
    (∀ j, (s.spinDown i kept).frozen j = s.frozen j) ∧
    (s.spinDown i kept).arbiter.priorityMap = s.arbiter.priorityMap ∧
    (s.spinDown i kept).arbiter.groupQueue = s.arbiter.groupQueue ∧
    (s.spinDown i kept).arbiter.groupByPriority = s.arbiter.groupByPriority ∧
    (s.spinDown i kept).arbiter.mainsCeiling = s.arbiter.mainsCeiling ∧
    (s.spinDown i kept).arbiter.batteryCeiling = s.arbiter.batteryCeiling ∧
    (s.spinDown i kept).arbiter.staggerInterval = s.arbiter.staggerInterval ∧
    (s.spinDown i kept).ceilingInForce = s.ceilingInForce ∧ (s.spinDown i kept).freeEntries = s.freeEntries := by
  unfold State.spinDown
  (repeat' apply And.intro)
  all_goals first
    | (simp; done)
    | (intro j
       by_cases h : j = i
       · subst h; simp [State.profileOf, State.covered, State.frozen, State.standingOf]
       · simp [h, State.profileOf, State.covered, State.frozen, State.standingOf])

/-- An unload changes a slot, its lane and the account at most. -/
@[simp] theorem State.unloadHeads_frame (s : State) (i : SlotId) (onset : Bool) :
    (s.unloadHeads i onset).now = s.now ∧ (s.unloadHeads i onset).trunk = s.trunk ∧
    (s.unloadHeads i onset).kindMap = s.kindMap ∧ (s.unloadHeads i onset).profiles = s.profiles ∧
    (s.unloadHeads i onset).nodes = s.nodes ∧ (s.unloadHeads i onset).rules = s.rules ∧
    (s.unloadHeads i onset).classes = s.classes ∧ (s.unloadHeads i onset).zones = s.zones ∧
    (s.unloadHeads i onset).groups = s.groups ∧ (s.unloadHeads i onset).supply = s.supply ∧
    (s.unloadHeads i onset).mgmt = s.mgmt ∧ (s.unloadHeads i onset).pending = s.pending ∧
    (∀ m, (s.unloadHeads i onset).node m = s.node m) ∧ (∀ c, (s.unloadHeads i onset).cls c = s.cls c) ∧
    (∀ k, (s.unloadHeads i onset).rule k = s.rule k) ∧ (∀ g, (s.unloadHeads i onset).group g = s.group g) ∧
    (∀ j, ((s.unloadHeads i onset).slot j).present = (s.slot j).present) ∧
    (∀ j, ((s.unloadHeads i onset).slot j).input = (s.slot j).input) ∧
    (∀ j, ((s.unloadHeads i onset).slot j).debounceExpiry = (s.slot j).debounceExpiry) ∧
    (∀ j, ((s.unloadHeads i onset).slot j).inService = (s.slot j).inService) ∧
    (∀ j, ((s.unloadHeads i onset).slot j).zone = (s.slot j).zone) ∧
    (∀ j, ((s.unloadHeads i onset).slot j).profile = (s.slot j).profile) ∧
    (∀ j, ((s.unloadHeads i onset).slot j).shedClass = (s.slot j).shedClass) ∧
    (∀ j, (s.unloadHeads i onset).profileOf j = s.profileOf j) ∧
    (∀ j, (s.unloadHeads i onset).covered j = s.covered j) ∧ (∀ j, (s.unloadHeads i onset).frozen j = s.frozen j) ∧
    (s.unloadHeads i onset).arbiter.priorityMap = s.arbiter.priorityMap ∧
    (s.unloadHeads i onset).arbiter.groupQueue = s.arbiter.groupQueue ∧
    (s.unloadHeads i onset).arbiter.groupByPriority = s.arbiter.groupByPriority ∧
    (s.unloadHeads i onset).arbiter.mainsCeiling = s.arbiter.mainsCeiling ∧
    (s.unloadHeads i onset).arbiter.batteryCeiling = s.arbiter.batteryCeiling ∧
    (s.unloadHeads i onset).arbiter.staggerInterval = s.arbiter.staggerInterval ∧
    (s.unloadHeads i onset).ceilingInForce = s.ceilingInForce ∧ (s.unloadHeads i onset).freeEntries = s.freeEntries := by
  unfold State.unloadHeads
  (repeat' split) <;> (repeat' apply And.intro)
  all_goals first
    | (simp; done)
    | (intro j
       by_cases h : j = i
       · subst h; simp [State.profileOf, State.covered, State.frozen, State.standingOf]
       · simp [h, State.profileOf, State.covered, State.frozen, State.standingOf])

/-- The rule of a slot's state changes slots, lanes, queues and the account at most. -/
@[simp] theorem State.proceed_frame (s : State) (i : SlotId) (onset : Bool) :
    (s.proceed i onset).now = s.now ∧ (s.proceed i onset).trunk = s.trunk ∧ (s.proceed i onset).kindMap = s.kindMap ∧
    (s.proceed i onset).profiles = s.profiles ∧ (s.proceed i onset).nodes = s.nodes ∧
    (s.proceed i onset).rules = s.rules ∧ (s.proceed i onset).classes = s.classes ∧
    (s.proceed i onset).zones = s.zones ∧ (s.proceed i onset).groups = s.groups ∧
    (s.proceed i onset).supply = s.supply ∧ (s.proceed i onset).mgmt = s.mgmt ∧
    (s.proceed i onset).pending = s.pending ∧ (∀ m, (s.proceed i onset).node m = s.node m) ∧
    (∀ c, (s.proceed i onset).cls c = s.cls c) ∧ (∀ k, (s.proceed i onset).rule k = s.rule k) ∧
    (∀ g, (s.proceed i onset).group g = s.group g) ∧
    (∀ j, ((s.proceed i onset).slot j).present = (s.slot j).present) ∧
    (∀ j, ((s.proceed i onset).slot j).input = (s.slot j).input) ∧
    (∀ j, ((s.proceed i onset).slot j).debounceExpiry = (s.slot j).debounceExpiry) ∧
    (∀ j, ((s.proceed i onset).slot j).inService = (s.slot j).inService) ∧
    (∀ j, ((s.proceed i onset).slot j).zone = (s.slot j).zone) ∧
    (∀ j, ((s.proceed i onset).slot j).profile = (s.slot j).profile) ∧
    (∀ j, ((s.proceed i onset).slot j).shedClass = (s.slot j).shedClass) ∧
    (∀ j, (s.proceed i onset).profileOf j = s.profileOf j) ∧ (∀ j, (s.proceed i onset).covered j = s.covered j) ∧
    (∀ j, (s.proceed i onset).frozen j = s.frozen j) ∧
    (s.proceed i onset).arbiter.priorityMap = s.arbiter.priorityMap ∧
    (s.proceed i onset).arbiter.groupQueue = s.arbiter.groupQueue ∧
    (s.proceed i onset).arbiter.groupByPriority = s.arbiter.groupByPriority ∧
    (s.proceed i onset).arbiter.mainsCeiling = s.arbiter.mainsCeiling ∧
    (s.proceed i onset).arbiter.batteryCeiling = s.arbiter.batteryCeiling ∧
    (s.proceed i onset).arbiter.staggerInterval = s.arbiter.staggerInterval ∧
    (s.proceed i onset).ceilingInForce = s.ceilingInForce ∧ (s.proceed i onset).freeEntries = s.freeEntries := by
  unfold State.proceed
  (repeat' split) <;> simp

/-- A request completed changes a slot, groups and the trunk port at most. -/
@[simp] theorem State.completeIfReached_frame (s : State) (i : SlotId) :
    (s.completeIfReached i).now = s.now ∧ (s.completeIfReached i).kindMap = s.kindMap ∧
    (s.completeIfReached i).profiles = s.profiles ∧ (s.completeIfReached i).lanes = s.lanes ∧
    (s.completeIfReached i).arbiter = s.arbiter ∧ (s.completeIfReached i).nodes = s.nodes ∧
    (s.completeIfReached i).rules = s.rules ∧ (s.completeIfReached i).classes = s.classes ∧
    (s.completeIfReached i).zones = s.zones ∧ (s.completeIfReached i).supply = s.supply ∧
    (s.completeIfReached i).mgmt = s.mgmt ∧ (s.completeIfReached i).pending = s.pending ∧
    (∀ j, (s.completeIfReached i).lane j = s.lane j) ∧ (∀ m, (s.completeIfReached i).node m = s.node m) ∧
    (∀ c, (s.completeIfReached i).cls c = s.cls c) ∧ (∀ k, (s.completeIfReached i).rule k = s.rule k) ∧
    (∀ j, ((s.completeIfReached i).slot j).present = (s.slot j).present) ∧
    (∀ j, ((s.completeIfReached i).slot j).input = (s.slot j).input) ∧
    (∀ j, ((s.completeIfReached i).slot j).debounceExpiry = (s.slot j).debounceExpiry) ∧
    (∀ j, ((s.completeIfReached i).slot j).inService = (s.slot j).inService) ∧
    (∀ j, ((s.completeIfReached i).slot j).zone = (s.slot j).zone) ∧
    (∀ j, ((s.completeIfReached i).slot j).profile = (s.slot j).profile) ∧
    (∀ j, ((s.completeIfReached i).slot j).shedClass = (s.slot j).shedClass) ∧
    (∀ j, (s.completeIfReached i).profileOf j = s.profileOf j) ∧
    (∀ j, (s.completeIfReached i).covered j = s.covered j) ∧ (∀ j, (s.completeIfReached i).frozen j = s.frozen j) ∧
    (s.completeIfReached i).ceilingInForce = s.ceilingInForce ∧ (s.completeIfReached i).examined = s.examined := by
  unfold State.completeIfReached
  (repeat' split) <;> simp

/-- An arrival changes slots, lanes, the account, groups and the trunk port at most. -/
@[simp] theorem State.arrive_frame (s : State) (i : SlotId) (st : SlotState) :
    (s.arrive i st).now = s.now ∧ (s.arrive i st).kindMap = s.kindMap ∧ (s.arrive i st).profiles = s.profiles ∧
    (s.arrive i st).nodes = s.nodes ∧ (s.arrive i st).rules = s.rules ∧ (s.arrive i st).classes = s.classes ∧
    (s.arrive i st).zones = s.zones ∧ (s.arrive i st).supply = s.supply ∧ (s.arrive i st).mgmt = s.mgmt ∧
    (s.arrive i st).pending = s.pending ∧ (∀ m, (s.arrive i st).node m = s.node m) ∧
    (∀ c, (s.arrive i st).cls c = s.cls c) ∧ (∀ k, (s.arrive i st).rule k = s.rule k) ∧
    (∀ j, ((s.arrive i st).slot j).present = (s.slot j).present) ∧
    (∀ j, ((s.arrive i st).slot j).input = (s.slot j).input) ∧
    (∀ j, ((s.arrive i st).slot j).debounceExpiry = (s.slot j).debounceExpiry) ∧
    (∀ j, ((s.arrive i st).slot j).inService = (s.slot j).inService) ∧
    (∀ j, ((s.arrive i st).slot j).zone = (s.slot j).zone) ∧
    (∀ j, ((s.arrive i st).slot j).profile = (s.slot j).profile) ∧
    (∀ j, ((s.arrive i st).slot j).shedClass = (s.slot j).shedClass) ∧
    (∀ j, (s.arrive i st).profileOf j = s.profileOf j) ∧ (∀ j, (s.arrive i st).covered j = s.covered j) ∧
    (∀ j, (s.arrive i st).frozen j = s.frozen j) ∧ (s.arrive i st).arbiter.priorityMap = s.arbiter.priorityMap ∧
    (s.arrive i st).arbiter.groupQueue = s.arbiter.groupQueue ∧
    (s.arrive i st).arbiter.groupByPriority = s.arbiter.groupByPriority ∧
    (s.arrive i st).arbiter.mainsCeiling = s.arbiter.mainsCeiling ∧
    (s.arrive i st).arbiter.batteryCeiling = s.arbiter.batteryCeiling ∧
    (s.arrive i st).arbiter.staggerInterval = s.arbiter.staggerInterval ∧
    (s.arrive i st).ceilingInForce = s.ceilingInForce := by
  unfold State.arrive
  simp

/-- An entry to FAULT changes no table, node, class or zone. -/
@[simp] theorem State.enterFault_frame (s : State) (i : SlotId) (cause : FaultCause) :
    (s.enterFault i cause).now = s.now ∧ (s.enterFault i cause).kindMap = s.kindMap ∧
    (s.enterFault i cause).profiles = s.profiles ∧ (s.enterFault i cause).nodes = s.nodes ∧
    (s.enterFault i cause).rules = s.rules ∧ (s.enterFault i cause).classes = s.classes ∧
    (s.enterFault i cause).zones = s.zones ∧ (s.enterFault i cause).supply = s.supply ∧
    (s.enterFault i cause).pending = s.pending ∧ (∀ m, (s.enterFault i cause).node m = s.node m) ∧
    (∀ c, (s.enterFault i cause).cls c = s.cls c) ∧ (∀ k, (s.enterFault i cause).rule k = s.rule k) ∧
    (∀ j, ((s.enterFault i cause).slot j).present = (s.slot j).present) ∧
    (∀ j, ((s.enterFault i cause).slot j).input = (s.slot j).input) ∧
    (∀ j, ((s.enterFault i cause).slot j).debounceExpiry = (s.slot j).debounceExpiry) ∧
    (∀ j, ((s.enterFault i cause).slot j).inService = (s.slot j).inService) ∧
    (∀ j, ((s.enterFault i cause).slot j).zone = (s.slot j).zone) ∧
    (∀ j, ((s.enterFault i cause).slot j).profile = (s.slot j).profile) ∧
    (∀ j, ((s.enterFault i cause).slot j).shedClass = (s.slot j).shedClass) ∧
    (∀ j, (s.enterFault i cause).profileOf j = s.profileOf j) ∧
    (∀ j, (s.enterFault i cause).covered j = s.covered j) ∧ (∀ j, (s.enterFault i cause).frozen j = s.frozen j) ∧
    (s.enterFault i cause).arbiter.priorityMap = s.arbiter.priorityMap ∧
    (s.enterFault i cause).arbiter.groupQueue = s.arbiter.groupQueue ∧
    (s.enterFault i cause).arbiter.groupByPriority = s.arbiter.groupByPriority ∧
    (s.enterFault i cause).arbiter.mainsCeiling = s.arbiter.mainsCeiling ∧
    (s.enterFault i cause).arbiter.batteryCeiling = s.arbiter.batteryCeiling ∧
    (s.enterFault i cause).arbiter.staggerInterval = s.arbiter.staggerInterval ∧
    (s.enterFault i cause).ceilingInForce = s.ceilingInForce ∧ (s.enterFault i cause).mgmt.mode = s.mgmt.mode ∧
    (s.enterFault i cause).mgmt.timing = s.mgmt.timing ∧ (s.enterFault i cause).mgmt.enables = s.mgmt.enables := by
  unfold State.enterFault
  (repeat' apply And.intro)
  all_goals first
    | (simp; done)
    | (intro j
       by_cases h : j = i
       · subst h; simp [State.profileOf, State.covered, State.frozen, State.standingOf]
       · simp [h, State.profileOf, State.covered, State.frozen, State.standingOf])

/-- A reported carrier state changes what an arrival changes. -/
@[simp] theorem State.probeReported_frame (s : State) (i : SlotId) (st : SlotState) (t : Target) :
    (s.probeReported i st t).now = s.now ∧ (s.probeReported i st t).kindMap = s.kindMap ∧
    (s.probeReported i st t).profiles = s.profiles ∧ (s.probeReported i st t).nodes = s.nodes ∧
    (s.probeReported i st t).rules = s.rules ∧ (s.probeReported i st t).classes = s.classes ∧
    (s.probeReported i st t).zones = s.zones ∧ (s.probeReported i st t).supply = s.supply ∧
    (s.probeReported i st t).mgmt = s.mgmt ∧ (s.probeReported i st t).pending = s.pending ∧
    (∀ m, (s.probeReported i st t).node m = s.node m) ∧ (∀ c, (s.probeReported i st t).cls c = s.cls c) ∧
    (∀ k, (s.probeReported i st t).rule k = s.rule k) ∧
    (∀ j, ((s.probeReported i st t).slot j).present = (s.slot j).present) ∧
    (∀ j, ((s.probeReported i st t).slot j).input = (s.slot j).input) ∧
    (∀ j, ((s.probeReported i st t).slot j).debounceExpiry = (s.slot j).debounceExpiry) ∧
    (∀ j, ((s.probeReported i st t).slot j).inService = (s.slot j).inService) ∧
    (∀ j, ((s.probeReported i st t).slot j).zone = (s.slot j).zone) ∧
    (∀ j, ((s.probeReported i st t).slot j).profile = (s.slot j).profile) ∧
    (∀ j, ((s.probeReported i st t).slot j).shedClass = (s.slot j).shedClass) ∧
    (∀ j, (s.probeReported i st t).profileOf j = s.profileOf j) ∧
    (∀ j, (s.probeReported i st t).covered j = s.covered j) ∧ (∀ j, (s.probeReported i st t).frozen j = s.frozen j) ∧
    (s.probeReported i st t).arbiter.priorityMap = s.arbiter.priorityMap ∧
    (s.probeReported i st t).arbiter.groupQueue = s.arbiter.groupQueue ∧
    (s.probeReported i st t).arbiter.groupByPriority = s.arbiter.groupByPriority ∧
    (s.probeReported i st t).arbiter.mainsCeiling = s.arbiter.mainsCeiling ∧
    (s.probeReported i st t).arbiter.batteryCeiling = s.arbiter.batteryCeiling ∧
    (s.probeReported i st t).arbiter.staggerInterval = s.arbiter.staggerInterval ∧
    (s.probeReported i st t).ceilingInForce = s.ceilingInForce := by
  unfold State.probeReported
  (repeat' apply And.intro)
  all_goals first
    | (simp; done)
    | (intro j
       by_cases h : j = i
       · subst h; simp [State.profileOf, State.covered, State.frozen, State.standingOf]; try (split <;> simp)
       · simp [h, State.profileOf, State.covered, State.frozen, State.standingOf])

/-- STOP DONE changes what an arrival changes. -/
@[simp] theorem State.stopDone_frame (s : State) (i : SlotId) :
    (s.stopDone i).now = s.now ∧ (s.stopDone i).kindMap = s.kindMap ∧ (s.stopDone i).profiles = s.profiles ∧
    (s.stopDone i).nodes = s.nodes ∧ (s.stopDone i).rules = s.rules ∧ (s.stopDone i).classes = s.classes ∧
    (s.stopDone i).zones = s.zones ∧ (s.stopDone i).supply = s.supply ∧ (s.stopDone i).mgmt = s.mgmt ∧
    (s.stopDone i).pending = s.pending ∧ (∀ m, (s.stopDone i).node m = s.node m) ∧
    (∀ c, (s.stopDone i).cls c = s.cls c) ∧ (∀ k, (s.stopDone i).rule k = s.rule k) ∧
    (∀ j, ((s.stopDone i).slot j).present = (s.slot j).present) ∧
    (∀ j, ((s.stopDone i).slot j).input = (s.slot j).input) ∧
    (∀ j, ((s.stopDone i).slot j).debounceExpiry = (s.slot j).debounceExpiry) ∧
    (∀ j, ((s.stopDone i).slot j).inService = (s.slot j).inService) ∧
    (∀ j, ((s.stopDone i).slot j).zone = (s.slot j).zone) ∧
    (∀ j, ((s.stopDone i).slot j).profile = (s.slot j).profile) ∧
    (∀ j, ((s.stopDone i).slot j).shedClass = (s.slot j).shedClass) ∧
    (∀ j, (s.stopDone i).profileOf j = s.profileOf j) ∧ (∀ j, (s.stopDone i).covered j = s.covered j) ∧
    (∀ j, (s.stopDone i).frozen j = s.frozen j) ∧ (s.stopDone i).arbiter.priorityMap = s.arbiter.priorityMap ∧
    (s.stopDone i).arbiter.groupQueue = s.arbiter.groupQueue ∧
    (s.stopDone i).arbiter.groupByPriority = s.arbiter.groupByPriority ∧
    (s.stopDone i).arbiter.mainsCeiling = s.arbiter.mainsCeiling ∧
    (s.stopDone i).arbiter.batteryCeiling = s.arbiter.batteryCeiling ∧
    (s.stopDone i).arbiter.staggerInterval = s.arbiter.staggerInterval ∧
    (s.stopDone i).ceilingInForce = s.ceilingInForce := by
  unfold State.stopDone
  (repeat' apply And.intro)
  all_goals first
    | (simp; done)
    | (intro j
       by_cases h : j = i
       · subst h; simp [State.profileOf, State.covered, State.frozen, State.standingOf]
       · simp [h, State.profileOf, State.covered, State.frozen, State.standingOf])

/-- QUERY DONE changes no table, node, class or zone. -/
@[simp] theorem State.probeDone_frame (s : State) (i : SlotId) (report : Option Byte) :
    (s.probeDone i report).now = s.now ∧ (s.probeDone i report).kindMap = s.kindMap ∧
    (s.probeDone i report).profiles = s.profiles ∧ (s.probeDone i report).nodes = s.nodes ∧
    (s.probeDone i report).rules = s.rules ∧ (s.probeDone i report).classes = s.classes ∧
    (s.probeDone i report).zones = s.zones ∧ (s.probeDone i report).supply = s.supply ∧
    (s.probeDone i report).pending = s.pending ∧ (∀ m, (s.probeDone i report).node m = s.node m) ∧
    (∀ c, (s.probeDone i report).cls c = s.cls c) ∧ (∀ k, (s.probeDone i report).rule k = s.rule k) ∧
    (∀ j, ((s.probeDone i report).slot j).present = (s.slot j).present) ∧
    (∀ j, ((s.probeDone i report).slot j).input = (s.slot j).input) ∧
    (∀ j, ((s.probeDone i report).slot j).debounceExpiry = (s.slot j).debounceExpiry) ∧
    (∀ j, ((s.probeDone i report).slot j).inService = (s.slot j).inService) ∧
    (∀ j, ((s.probeDone i report).slot j).zone = (s.slot j).zone) ∧
    (∀ j, ((s.probeDone i report).slot j).profile = (s.slot j).profile) ∧
    (∀ j, ((s.probeDone i report).slot j).shedClass = (s.slot j).shedClass) ∧
    (∀ j, (s.probeDone i report).profileOf j = s.profileOf j) ∧
    (∀ j, (s.probeDone i report).covered j = s.covered j) ∧ (∀ j, (s.probeDone i report).frozen j = s.frozen j) ∧
    (s.probeDone i report).arbiter.priorityMap = s.arbiter.priorityMap ∧
    (s.probeDone i report).arbiter.groupQueue = s.arbiter.groupQueue ∧
    (s.probeDone i report).arbiter.groupByPriority = s.arbiter.groupByPriority ∧
    (s.probeDone i report).arbiter.mainsCeiling = s.arbiter.mainsCeiling ∧
    (s.probeDone i report).arbiter.batteryCeiling = s.arbiter.batteryCeiling ∧
    (s.probeDone i report).arbiter.staggerInterval = s.arbiter.staggerInterval ∧
    (s.probeDone i report).ceilingInForce = s.ceilingInForce ∧ (s.probeDone i report).mgmt.mode = s.mgmt.mode ∧
    (s.probeDone i report).mgmt.timing = s.mgmt.timing ∧ (s.probeDone i report).mgmt.enables = s.mgmt.enables := by
  unfold State.probeDone
  (repeat' split) <;> simp

/-- An op's end changes no table, node, class or zone. -/
@[simp] theorem State.takeOutcome_frame (s : State) (i : SlotId) (op : GovernedOp) (o : OpOutcome) (report : Option Byte) :
    (s.takeOutcome i op o report).now = s.now ∧ (s.takeOutcome i op o report).kindMap = s.kindMap ∧
    (s.takeOutcome i op o report).profiles = s.profiles ∧ (s.takeOutcome i op o report).nodes = s.nodes ∧
    (s.takeOutcome i op o report).rules = s.rules ∧ (s.takeOutcome i op o report).classes = s.classes ∧
    (s.takeOutcome i op o report).zones = s.zones ∧ (s.takeOutcome i op o report).supply = s.supply ∧
    (s.takeOutcome i op o report).pending = s.pending ∧ (∀ m, (s.takeOutcome i op o report).node m = s.node m) ∧
    (∀ c, (s.takeOutcome i op o report).cls c = s.cls c) ∧ (∀ k, (s.takeOutcome i op o report).rule k = s.rule k) ∧
    (∀ j, ((s.takeOutcome i op o report).slot j).present = (s.slot j).present) ∧
    (∀ j, ((s.takeOutcome i op o report).slot j).input = (s.slot j).input) ∧
    (∀ j, ((s.takeOutcome i op o report).slot j).debounceExpiry = (s.slot j).debounceExpiry) ∧
    (∀ j, ((s.takeOutcome i op o report).slot j).inService = (s.slot j).inService) ∧
    (∀ j, ((s.takeOutcome i op o report).slot j).zone = (s.slot j).zone) ∧
    (∀ j, ((s.takeOutcome i op o report).slot j).profile = (s.slot j).profile) ∧
    (∀ j, ((s.takeOutcome i op o report).slot j).shedClass = (s.slot j).shedClass) ∧
    (∀ j, (s.takeOutcome i op o report).profileOf j = s.profileOf j) ∧
    (∀ j, (s.takeOutcome i op o report).covered j = s.covered j) ∧
    (∀ j, (s.takeOutcome i op o report).frozen j = s.frozen j) ∧
    (s.takeOutcome i op o report).arbiter.priorityMap = s.arbiter.priorityMap ∧
    (s.takeOutcome i op o report).arbiter.groupQueue = s.arbiter.groupQueue ∧
    (s.takeOutcome i op o report).arbiter.groupByPriority = s.arbiter.groupByPriority ∧
    (s.takeOutcome i op o report).arbiter.mainsCeiling = s.arbiter.mainsCeiling ∧
    (s.takeOutcome i op o report).arbiter.batteryCeiling = s.arbiter.batteryCeiling ∧
    (s.takeOutcome i op o report).arbiter.staggerInterval = s.arbiter.staggerInterval ∧
    (s.takeOutcome i op o report).ceilingInForce = s.ceilingInForce ∧
    (s.takeOutcome i op o report).mgmt.mode = s.mgmt.mode ∧
    (s.takeOutcome i op o report).mgmt.timing = s.mgmt.timing ∧
    (s.takeOutcome i op o report).mgmt.enables = s.mgmt.enables := by
  unfold State.takeOutcome State.settleOp
  (repeat' split) <;> simp

/-- A grant changes slots, lanes, queues, the account and the grant times. -/
@[simp] theorem State.grant_frame (s : State) (i : SlotId) :
    (s.grant i).now = s.now ∧ (s.grant i).trunk = s.trunk ∧ (s.grant i).kindMap = s.kindMap ∧
    (s.grant i).profiles = s.profiles ∧ (s.grant i).nodes = s.nodes ∧ (s.grant i).rules = s.rules ∧
    (s.grant i).classes = s.classes ∧ (s.grant i).zones = s.zones ∧ (s.grant i).groups = s.groups ∧
    (s.grant i).supply = s.supply ∧ (s.grant i).mgmt = s.mgmt ∧ (s.grant i).pending = s.pending ∧
    (∀ m, (s.grant i).node m = s.node m) ∧ (∀ c, (s.grant i).cls c = s.cls c) ∧
    (∀ k, (s.grant i).rule k = s.rule k) ∧ (∀ g, (s.grant i).group g = s.group g) ∧
    (∀ j, ((s.grant i).slot j).present = (s.slot j).present) ∧ (∀ j, ((s.grant i).slot j).input = (s.slot j).input) ∧
    (∀ j, ((s.grant i).slot j).debounceExpiry = (s.slot j).debounceExpiry) ∧
    (∀ j, ((s.grant i).slot j).inService = (s.slot j).inService) ∧
    (∀ j, ((s.grant i).slot j).zone = (s.slot j).zone) ∧ (∀ j, ((s.grant i).slot j).profile = (s.slot j).profile) ∧
    (∀ j, ((s.grant i).slot j).shedClass = (s.slot j).shedClass) ∧ (∀ j, (s.grant i).profileOf j = s.profileOf j) ∧
    (∀ j, (s.grant i).covered j = s.covered j) ∧ (∀ j, (s.grant i).frozen j = s.frozen j) ∧
    (s.grant i).arbiter.priorityMap = s.arbiter.priorityMap ∧ (s.grant i).arbiter.groupQueue = s.arbiter.groupQueue ∧
    (s.grant i).arbiter.groupByPriority = s.arbiter.groupByPriority ∧
    (s.grant i).arbiter.mainsCeiling = s.arbiter.mainsCeiling ∧
    (s.grant i).arbiter.batteryCeiling = s.arbiter.batteryCeiling ∧
    (s.grant i).arbiter.staggerInterval = s.arbiter.staggerInterval ∧ (s.grant i).ceilingInForce = s.ceilingInForce ∧
    (s.grant i).freeEntries = s.freeEntries := by
  unfold State.grant
  (try simp only [])
  (repeat' apply And.intro)
  all_goals first
    | (simp [State.ceilingInForce]; done)
    | (intro j
       by_cases h : j = i
       · subst h; simp [State.profileOf, State.covered, State.frozen, State.standingOf]
       · simp [h, State.profileOf, State.covered, State.frozen, State.standingOf])

/-- A look changes what grants change, and the stagger timer. -/
@[simp] theorem State.lookUpTo_frame (s : State) (fuel : Nat) :
    (s.lookUpTo fuel).now = s.now ∧ (s.lookUpTo fuel).trunk = s.trunk ∧ (s.lookUpTo fuel).kindMap = s.kindMap ∧
    (s.lookUpTo fuel).profiles = s.profiles ∧ (s.lookUpTo fuel).nodes = s.nodes ∧ (s.lookUpTo fuel).rules = s.rules ∧
    (s.lookUpTo fuel).classes = s.classes ∧ (s.lookUpTo fuel).zones = s.zones ∧ (s.lookUpTo fuel).groups = s.groups ∧
    (s.lookUpTo fuel).supply = s.supply ∧ (s.lookUpTo fuel).mgmt = s.mgmt ∧ (s.lookUpTo fuel).pending = s.pending ∧
    (∀ m, (s.lookUpTo fuel).node m = s.node m) ∧ (∀ c, (s.lookUpTo fuel).cls c = s.cls c) ∧
    (∀ k, (s.lookUpTo fuel).rule k = s.rule k) ∧ (∀ g, (s.lookUpTo fuel).group g = s.group g) ∧
    (∀ j, ((s.lookUpTo fuel).slot j).present = (s.slot j).present) ∧
    (∀ j, ((s.lookUpTo fuel).slot j).input = (s.slot j).input) ∧
    (∀ j, ((s.lookUpTo fuel).slot j).debounceExpiry = (s.slot j).debounceExpiry) ∧
    (∀ j, ((s.lookUpTo fuel).slot j).inService = (s.slot j).inService) ∧
    (∀ j, ((s.lookUpTo fuel).slot j).zone = (s.slot j).zone) ∧
    (∀ j, ((s.lookUpTo fuel).slot j).profile = (s.slot j).profile) ∧
    (∀ j, ((s.lookUpTo fuel).slot j).shedClass = (s.slot j).shedClass) ∧
    (∀ j, (s.lookUpTo fuel).profileOf j = s.profileOf j) ∧ (∀ j, (s.lookUpTo fuel).covered j = s.covered j) ∧
    (∀ j, (s.lookUpTo fuel).frozen j = s.frozen j) ∧ (s.lookUpTo fuel).arbiter.priorityMap = s.arbiter.priorityMap ∧
    (s.lookUpTo fuel).arbiter.groupQueue = s.arbiter.groupQueue ∧
    (s.lookUpTo fuel).arbiter.groupByPriority = s.arbiter.groupByPriority ∧
    (s.lookUpTo fuel).arbiter.mainsCeiling = s.arbiter.mainsCeiling ∧
    (s.lookUpTo fuel).arbiter.batteryCeiling = s.arbiter.batteryCeiling ∧
    (s.lookUpTo fuel).arbiter.staggerInterval = s.arbiter.staggerInterval ∧
    (s.lookUpTo fuel).ceilingInForce = s.ceilingInForce ∧ (s.lookUpTo fuel).freeEntries = s.freeEntries := by
  induction fuel generalizing s with
  | zero => simp [State.lookUpTo]
  | succ n ih =>
    unfold State.lookUpTo
    (repeat' split) <;> simp [ih, State.ceilingInForce]

/-- A grant opportunity changes what a look changes. -/
@[simp] theorem State.look_frame (s : State) :
    (s.look).now = s.now ∧ (s.look).trunk = s.trunk ∧ (s.look).kindMap = s.kindMap ∧ (s.look).profiles = s.profiles ∧
    (s.look).nodes = s.nodes ∧ (s.look).rules = s.rules ∧ (s.look).classes = s.classes ∧ (s.look).zones = s.zones ∧
    (s.look).groups = s.groups ∧ (s.look).supply = s.supply ∧ (s.look).mgmt = s.mgmt ∧ (s.look).pending = s.pending ∧
    (∀ m, (s.look).node m = s.node m) ∧ (∀ c, (s.look).cls c = s.cls c) ∧ (∀ k, (s.look).rule k = s.rule k) ∧
    (∀ g, (s.look).group g = s.group g) ∧ (∀ j, ((s.look).slot j).present = (s.slot j).present) ∧
    (∀ j, ((s.look).slot j).input = (s.slot j).input) ∧
    (∀ j, ((s.look).slot j).debounceExpiry = (s.slot j).debounceExpiry) ∧
    (∀ j, ((s.look).slot j).inService = (s.slot j).inService) ∧ (∀ j, ((s.look).slot j).zone = (s.slot j).zone) ∧
    (∀ j, ((s.look).slot j).profile = (s.slot j).profile) ∧
    (∀ j, ((s.look).slot j).shedClass = (s.slot j).shedClass) ∧ (∀ j, (s.look).profileOf j = s.profileOf j) ∧
    (∀ j, (s.look).covered j = s.covered j) ∧ (∀ j, (s.look).frozen j = s.frozen j) ∧
    (s.look).arbiter.priorityMap = s.arbiter.priorityMap ∧ (s.look).arbiter.groupQueue = s.arbiter.groupQueue ∧
    (s.look).arbiter.groupByPriority = s.arbiter.groupByPriority ∧
    (s.look).arbiter.mainsCeiling = s.arbiter.mainsCeiling ∧
    (s.look).arbiter.batteryCeiling = s.arbiter.batteryCeiling ∧
    (s.look).arbiter.staggerInterval = s.arbiter.staggerInterval ∧ (s.look).ceilingInForce = s.ceilingInForce ∧
    (s.look).freeEntries = s.freeEntries := by
  unfold State.look
  (repeat' split) <;> simp

/-- The marking of a slot changes slots, lanes, the account, groups and the trunk port at most. -/
@[simp] theorem State.shedMarkSlot_frame (s : State) (i : SlotId) :
    (s.shedMarkSlot i).now = s.now ∧ (s.shedMarkSlot i).kindMap = s.kindMap ∧
    (s.shedMarkSlot i).profiles = s.profiles ∧ (s.shedMarkSlot i).nodes = s.nodes ∧
    (s.shedMarkSlot i).rules = s.rules ∧ (s.shedMarkSlot i).classes = s.classes ∧
    (s.shedMarkSlot i).zones = s.zones ∧ (s.shedMarkSlot i).supply = s.supply ∧ (s.shedMarkSlot i).mgmt = s.mgmt ∧
    (s.shedMarkSlot i).pending = s.pending ∧ (∀ m, (s.shedMarkSlot i).node m = s.node m) ∧
    (∀ c, (s.shedMarkSlot i).cls c = s.cls c) ∧ (∀ k, (s.shedMarkSlot i).rule k = s.rule k) ∧
    (∀ j, ((s.shedMarkSlot i).slot j).present = (s.slot j).present) ∧
    (∀ j, ((s.shedMarkSlot i).slot j).input = (s.slot j).input) ∧
    (∀ j, ((s.shedMarkSlot i).slot j).debounceExpiry = (s.slot j).debounceExpiry) ∧
    (∀ j, ((s.shedMarkSlot i).slot j).inService = (s.slot j).inService) ∧
    (∀ j, ((s.shedMarkSlot i).slot j).zone = (s.slot j).zone) ∧
    (∀ j, ((s.shedMarkSlot i).slot j).profile = (s.slot j).profile) ∧
    (∀ j, ((s.shedMarkSlot i).slot j).shedClass = (s.slot j).shedClass) ∧
    (∀ j, (s.shedMarkSlot i).profileOf j = s.profileOf j) ∧ (∀ j, (s.shedMarkSlot i).covered j = s.covered j) ∧
    (∀ j, (s.shedMarkSlot i).frozen j = s.frozen j) ∧
    (s.shedMarkSlot i).arbiter.priorityMap = s.arbiter.priorityMap ∧
    (s.shedMarkSlot i).arbiter.groupQueue = s.arbiter.groupQueue ∧
    (s.shedMarkSlot i).arbiter.groupByPriority = s.arbiter.groupByPriority ∧
    (s.shedMarkSlot i).arbiter.mainsCeiling = s.arbiter.mainsCeiling ∧
    (s.shedMarkSlot i).arbiter.batteryCeiling = s.arbiter.batteryCeiling ∧
    (s.shedMarkSlot i).arbiter.staggerInterval = s.arbiter.staggerInterval ∧
    (s.shedMarkSlot i).ceilingInForce = s.ceilingInForce := by
  unfold State.shedMarkSlot
  (repeat' apply And.intro)
  all_goals first
    | (simp; done)
    | (intro j
       by_cases h : j = i
       · subst h; simp [State.profileOf, State.covered, State.frozen, State.standingOf]
       · simp [h, State.profileOf, State.covered, State.frozen, State.standingOf])

/-- The selector changes what markings change. -/
@[simp] theorem State.shedRun_frame (s : State) (order : List SlotId) (relief : Nat) :
    (s.shedRun order relief).now = s.now ∧ (s.shedRun order relief).kindMap = s.kindMap ∧
    (s.shedRun order relief).profiles = s.profiles ∧ (s.shedRun order relief).nodes = s.nodes ∧
    (s.shedRun order relief).rules = s.rules ∧ (s.shedRun order relief).classes = s.classes ∧
    (s.shedRun order relief).zones = s.zones ∧ (s.shedRun order relief).supply = s.supply ∧
    (s.shedRun order relief).mgmt = s.mgmt ∧ (s.shedRun order relief).pending = s.pending ∧
    (∀ m, (s.shedRun order relief).node m = s.node m) ∧ (∀ c, (s.shedRun order relief).cls c = s.cls c) ∧
    (∀ k, (s.shedRun order relief).rule k = s.rule k) ∧
    (∀ j, ((s.shedRun order relief).slot j).present = (s.slot j).present) ∧
    (∀ j, ((s.shedRun order relief).slot j).input = (s.slot j).input) ∧
    (∀ j, ((s.shedRun order relief).slot j).debounceExpiry = (s.slot j).debounceExpiry) ∧
    (∀ j, ((s.shedRun order relief).slot j).inService = (s.slot j).inService) ∧
    (∀ j, ((s.shedRun order relief).slot j).zone = (s.slot j).zone) ∧
    (∀ j, ((s.shedRun order relief).slot j).profile = (s.slot j).profile) ∧
    (∀ j, ((s.shedRun order relief).slot j).shedClass = (s.slot j).shedClass) ∧
    (∀ j, (s.shedRun order relief).profileOf j = s.profileOf j) ∧
    (∀ j, (s.shedRun order relief).covered j = s.covered j) ∧ (∀ j, (s.shedRun order relief).frozen j = s.frozen j) ∧
    (s.shedRun order relief).arbiter.priorityMap = s.arbiter.priorityMap ∧
    (s.shedRun order relief).arbiter.groupQueue = s.arbiter.groupQueue ∧
    (s.shedRun order relief).arbiter.groupByPriority = s.arbiter.groupByPriority ∧
    (s.shedRun order relief).arbiter.mainsCeiling = s.arbiter.mainsCeiling ∧
    (s.shedRun order relief).arbiter.batteryCeiling = s.arbiter.batteryCeiling ∧
    (s.shedRun order relief).arbiter.staggerInterval = s.arbiter.staggerInterval ∧
    (s.shedRun order relief).ceilingInForce = s.ceilingInForce := by
  induction order generalizing s relief with
  | nil => simp [State.shedRun]
  | cons i rest ih =>
    unfold State.shedRun
    simp only []
    split <;> simp [ih]

/-- The selector considered changes what markings change. -/
@[simp] theorem State.considerShed_frame (s : State) :
    (s.considerShed).now = s.now ∧ (s.considerShed).kindMap = s.kindMap ∧ (s.considerShed).profiles = s.profiles ∧
    (s.considerShed).nodes = s.nodes ∧ (s.considerShed).rules = s.rules ∧ (s.considerShed).classes = s.classes ∧
    (s.considerShed).zones = s.zones ∧ (s.considerShed).supply = s.supply ∧ (s.considerShed).mgmt = s.mgmt ∧
    (s.considerShed).pending = s.pending ∧ (∀ m, (s.considerShed).node m = s.node m) ∧
    (∀ c, (s.considerShed).cls c = s.cls c) ∧ (∀ k, (s.considerShed).rule k = s.rule k) ∧
    (∀ j, ((s.considerShed).slot j).present = (s.slot j).present) ∧
    (∀ j, ((s.considerShed).slot j).input = (s.slot j).input) ∧
    (∀ j, ((s.considerShed).slot j).debounceExpiry = (s.slot j).debounceExpiry) ∧
    (∀ j, ((s.considerShed).slot j).inService = (s.slot j).inService) ∧
    (∀ j, ((s.considerShed).slot j).zone = (s.slot j).zone) ∧
    (∀ j, ((s.considerShed).slot j).profile = (s.slot j).profile) ∧
    (∀ j, ((s.considerShed).slot j).shedClass = (s.slot j).shedClass) ∧
    (∀ j, (s.considerShed).profileOf j = s.profileOf j) ∧ (∀ j, (s.considerShed).covered j = s.covered j) ∧
    (∀ j, (s.considerShed).frozen j = s.frozen j) ∧ (s.considerShed).arbiter.priorityMap = s.arbiter.priorityMap ∧
    (s.considerShed).arbiter.groupQueue = s.arbiter.groupQueue ∧
    (s.considerShed).arbiter.groupByPriority = s.arbiter.groupByPriority ∧
    (s.considerShed).arbiter.mainsCeiling = s.arbiter.mainsCeiling ∧
    (s.considerShed).arbiter.batteryCeiling = s.arbiter.batteryCeiling ∧
    (s.considerShed).arbiter.staggerInterval = s.arbiter.staggerInterval ∧
    (s.considerShed).ceilingInForce = s.ceilingInForce := by
  unfold State.considerShed
  (repeat' split) <;> simp

/-- The over-ceiling test changes what markings change, the condition and its flag. -/
@[simp] theorem State.overCeilingTest_frame (s : State) :
    (s.overCeilingTest).now = s.now ∧ (s.overCeilingTest).kindMap = s.kindMap ∧
    (s.overCeilingTest).profiles = s.profiles ∧ (s.overCeilingTest).nodes = s.nodes ∧
    (s.overCeilingTest).rules = s.rules ∧ (s.overCeilingTest).classes = s.classes ∧
    (s.overCeilingTest).zones = s.zones ∧ (s.overCeilingTest).pending = s.pending ∧
    (∀ m, (s.overCeilingTest).node m = s.node m) ∧ (∀ c, (s.overCeilingTest).cls c = s.cls c) ∧
    (∀ k, (s.overCeilingTest).rule k = s.rule k) ∧ (∀ j, ((s.overCeilingTest).slot j).present = (s.slot j).present) ∧
    (∀ j, ((s.overCeilingTest).slot j).input = (s.slot j).input) ∧
    (∀ j, ((s.overCeilingTest).slot j).debounceExpiry = (s.slot j).debounceExpiry) ∧
    (∀ j, ((s.overCeilingTest).slot j).inService = (s.slot j).inService) ∧
    (∀ j, ((s.overCeilingTest).slot j).zone = (s.slot j).zone) ∧
    (∀ j, ((s.overCeilingTest).slot j).profile = (s.slot j).profile) ∧
    (∀ j, ((s.overCeilingTest).slot j).shedClass = (s.slot j).shedClass) ∧
    (∀ j, (s.overCeilingTest).profileOf j = s.profileOf j) ∧ (∀ j, (s.overCeilingTest).covered j = s.covered j) ∧
    (∀ j, (s.overCeilingTest).frozen j = s.frozen j) ∧
    (s.overCeilingTest).arbiter.priorityMap = s.arbiter.priorityMap ∧
    (s.overCeilingTest).arbiter.groupQueue = s.arbiter.groupQueue ∧
    (s.overCeilingTest).arbiter.groupByPriority = s.arbiter.groupByPriority ∧
    (s.overCeilingTest).arbiter.mainsCeiling = s.arbiter.mainsCeiling ∧
    (s.overCeilingTest).arbiter.batteryCeiling = s.arbiter.batteryCeiling ∧
    (s.overCeilingTest).arbiter.staggerInterval = s.arbiter.staggerInterval ∧
    (s.overCeilingTest).supply.line = s.supply.line ∧ (s.overCeilingTest).supply.source = s.supply.source ∧
    (s.overCeilingTest).supply.debounceExpiry = s.supply.debounceExpiry ∧
    (s.overCeilingTest).ceilingInForce = s.ceilingInForce ∧ (s.overCeilingTest).mgmt.mode = s.mgmt.mode ∧
    (s.overCeilingTest).mgmt.timing = s.mgmt.timing ∧ (s.overCeilingTest).mgmt.enables = s.mgmt.enables := by
  unfold State.overCeilingTest
  (repeat' split) <;> simp [State.ceilingInForce]

/-- The test where a figure has changed changes what the test changes. -/
@[simp] theorem testIfChanged_frame (before after : State) :
    (testIfChanged before after).now = after.now ∧ (testIfChanged before after).kindMap = after.kindMap ∧
    (testIfChanged before after).profiles = after.profiles ∧ (testIfChanged before after).nodes = after.nodes ∧
    (testIfChanged before after).rules = after.rules ∧ (testIfChanged before after).classes = after.classes ∧
    (testIfChanged before after).zones = after.zones ∧ (testIfChanged before after).pending = after.pending ∧
    (∀ m, (testIfChanged before after).node m = after.node m) ∧
    (∀ c, (testIfChanged before after).cls c = after.cls c) ∧
    (∀ k, (testIfChanged before after).rule k = after.rule k) ∧
    (∀ j, ((testIfChanged before after).slot j).present = (after.slot j).present) ∧
    (∀ j, ((testIfChanged before after).slot j).input = (after.slot j).input) ∧
    (∀ j, ((testIfChanged before after).slot j).debounceExpiry = (after.slot j).debounceExpiry) ∧
    (∀ j, ((testIfChanged before after).slot j).inService = (after.slot j).inService) ∧
    (∀ j, ((testIfChanged before after).slot j).zone = (after.slot j).zone) ∧
    (∀ j, ((testIfChanged before after).slot j).profile = (after.slot j).profile) ∧
    (∀ j, ((testIfChanged before after).slot j).shedClass = (after.slot j).shedClass) ∧
    (∀ j, (testIfChanged before after).profileOf j = after.profileOf j) ∧
    (∀ j, (testIfChanged before after).covered j = after.covered j) ∧
    (∀ j, (testIfChanged before after).frozen j = after.frozen j) ∧
    (testIfChanged before after).arbiter.priorityMap = after.arbiter.priorityMap ∧
    (testIfChanged before after).arbiter.groupQueue = after.arbiter.groupQueue ∧
    (testIfChanged before after).arbiter.groupByPriority = after.arbiter.groupByPriority ∧
    (testIfChanged before after).arbiter.mainsCeiling = after.arbiter.mainsCeiling ∧
    (testIfChanged before after).arbiter.batteryCeiling = after.arbiter.batteryCeiling ∧
    (testIfChanged before after).arbiter.staggerInterval = after.arbiter.staggerInterval ∧
    (testIfChanged before after).supply.line = after.supply.line ∧
    (testIfChanged before after).supply.source = after.supply.source ∧
    (testIfChanged before after).supply.debounceExpiry = after.supply.debounceExpiry ∧
    (testIfChanged before after).ceilingInForce = after.ceilingInForce ∧
    (testIfChanged before after).mgmt.mode = after.mgmt.mode ∧
    (testIfChanged before after).mgmt.timing = after.mgmt.timing ∧
    (testIfChanged before after).mgmt.enables = after.mgmt.enables := by
  unfold testIfChanged
  split <;> simp

/-- The conclusion of an event changes what a look and the test change. -/
@[simp] theorem concludeEvent_frame (before after : State) :
    (concludeEvent before after).now = after.now ∧ (concludeEvent before after).kindMap = after.kindMap ∧
    (concludeEvent before after).profiles = after.profiles ∧ (concludeEvent before after).nodes = after.nodes ∧
    (concludeEvent before after).rules = after.rules ∧ (concludeEvent before after).classes = after.classes ∧
    (concludeEvent before after).zones = after.zones ∧ (concludeEvent before after).pending = after.pending ∧
    (∀ m, (concludeEvent before after).node m = after.node m) ∧
    (∀ c, (concludeEvent before after).cls c = after.cls c) ∧
    (∀ k, (concludeEvent before after).rule k = after.rule k) ∧
    (∀ j, ((concludeEvent before after).slot j).present = (after.slot j).present) ∧
    (∀ j, ((concludeEvent before after).slot j).input = (after.slot j).input) ∧
    (∀ j, ((concludeEvent before after).slot j).debounceExpiry = (after.slot j).debounceExpiry) ∧
    (∀ j, ((concludeEvent before after).slot j).inService = (after.slot j).inService) ∧
    (∀ j, ((concludeEvent before after).slot j).zone = (after.slot j).zone) ∧
    (∀ j, ((concludeEvent before after).slot j).profile = (after.slot j).profile) ∧
    (∀ j, ((concludeEvent before after).slot j).shedClass = (after.slot j).shedClass) ∧
    (∀ j, (concludeEvent before after).profileOf j = after.profileOf j) ∧
    (∀ j, (concludeEvent before after).covered j = after.covered j) ∧
    (∀ j, (concludeEvent before after).frozen j = after.frozen j) ∧
    (concludeEvent before after).arbiter.priorityMap = after.arbiter.priorityMap ∧
    (concludeEvent before after).arbiter.groupQueue = after.arbiter.groupQueue ∧
    (concludeEvent before after).arbiter.groupByPriority = after.arbiter.groupByPriority ∧
    (concludeEvent before after).arbiter.mainsCeiling = after.arbiter.mainsCeiling ∧
    (concludeEvent before after).arbiter.batteryCeiling = after.arbiter.batteryCeiling ∧
    (concludeEvent before after).arbiter.staggerInterval = after.arbiter.staggerInterval ∧
    (concludeEvent before after).supply.line = after.supply.line ∧
    (concludeEvent before after).supply.source = after.supply.source ∧
    (concludeEvent before after).supply.debounceExpiry = after.supply.debounceExpiry ∧
    (concludeEvent before after).ceilingInForce = after.ceilingInForce ∧
    (concludeEvent before after).mgmt.mode = after.mgmt.mode ∧
    (concludeEvent before after).mgmt.timing = after.mgmt.timing ∧
    (concludeEvent before after).mgmt.enables = after.mgmt.enables := by
  unfold concludeEvent
  split <;> simp

/-- The report of coverage changes slots, lanes, queues and the account at most. -/
@[simp] theorem State.reportCoverage_frame (before s : State) (onset : Bool) :
    (State.reportCoverage before s onset).now = s.now ∧ (State.reportCoverage before s onset).trunk = s.trunk ∧
    (State.reportCoverage before s onset).kindMap = s.kindMap ∧
    (State.reportCoverage before s onset).profiles = s.profiles ∧
    (State.reportCoverage before s onset).nodes = s.nodes ∧ (State.reportCoverage before s onset).rules = s.rules ∧
    (State.reportCoverage before s onset).classes = s.classes ∧
    (State.reportCoverage before s onset).zones = s.zones ∧ (State.reportCoverage before s onset).groups = s.groups ∧
    (State.reportCoverage before s onset).supply = s.supply ∧ (State.reportCoverage before s onset).mgmt = s.mgmt ∧
    (State.reportCoverage before s onset).pending = s.pending ∧
    (∀ m, (State.reportCoverage before s onset).node m = s.node m) ∧
    (∀ c, (State.reportCoverage before s onset).cls c = s.cls c) ∧
    (∀ k, (State.reportCoverage before s onset).rule k = s.rule k) ∧
    (∀ g, (State.reportCoverage before s onset).group g = s.group g) ∧
    (∀ j, ((State.reportCoverage before s onset).slot j).present = (s.slot j).present) ∧
    (∀ j, ((State.reportCoverage before s onset).slot j).input = (s.slot j).input) ∧
    (∀ j, ((State.reportCoverage before s onset).slot j).debounceExpiry = (s.slot j).debounceExpiry) ∧
    (∀ j, ((State.reportCoverage before s onset).slot j).inService = (s.slot j).inService) ∧
    (∀ j, ((State.reportCoverage before s onset).slot j).zone = (s.slot j).zone) ∧
    (∀ j, ((State.reportCoverage before s onset).slot j).profile = (s.slot j).profile) ∧
    (∀ j, ((State.reportCoverage before s onset).slot j).shedClass = (s.slot j).shedClass) ∧
    (∀ j, (State.reportCoverage before s onset).profileOf j = s.profileOf j) ∧
    (∀ j, (State.reportCoverage before s onset).covered j = s.covered j) ∧
    (∀ j, (State.reportCoverage before s onset).frozen j = s.frozen j) ∧
    (State.reportCoverage before s onset).arbiter.priorityMap = s.arbiter.priorityMap ∧
    (State.reportCoverage before s onset).arbiter.groupQueue = s.arbiter.groupQueue ∧
    (State.reportCoverage before s onset).arbiter.groupByPriority = s.arbiter.groupByPriority ∧
    (State.reportCoverage before s onset).arbiter.mainsCeiling = s.arbiter.mainsCeiling ∧
    (State.reportCoverage before s onset).arbiter.batteryCeiling = s.arbiter.batteryCeiling ∧
    (State.reportCoverage before s onset).arbiter.staggerInterval = s.arbiter.staggerInterval ∧
    (State.reportCoverage before s onset).ceilingInForce = s.ceilingInForce ∧
    (State.reportCoverage before s onset).freeEntries = s.freeEntries := by
  unfold State.reportCoverage
  refine State.forSlots_induct (P := fun t =>
    t.now = s.now ∧ t.trunk = s.trunk ∧ t.kindMap = s.kindMap ∧ t.profiles = s.profiles ∧ t.nodes = s.nodes ∧
    t.rules = s.rules ∧ t.classes = s.classes ∧ t.zones = s.zones ∧ t.groups = s.groups ∧ t.supply = s.supply ∧
    t.mgmt = s.mgmt ∧ t.pending = s.pending ∧ (∀ m, t.node m = s.node m) ∧ (∀ c, t.cls c = s.cls c) ∧
    (∀ k, t.rule k = s.rule k) ∧ (∀ g, t.group g = s.group g) ∧ (∀ j, (t.slot j).present = (s.slot j).present) ∧
    (∀ j, (t.slot j).input = (s.slot j).input) ∧ (∀ j, (t.slot j).debounceExpiry = (s.slot j).debounceExpiry) ∧
    (∀ j, (t.slot j).inService = (s.slot j).inService) ∧ (∀ j, (t.slot j).zone = (s.slot j).zone) ∧
    (∀ j, (t.slot j).profile = (s.slot j).profile) ∧ (∀ j, (t.slot j).shedClass = (s.slot j).shedClass) ∧
    (∀ j, t.profileOf j = s.profileOf j) ∧ (∀ j, t.covered j = s.covered j) ∧ (∀ j, t.frozen j = s.frozen j) ∧
    t.arbiter.priorityMap = s.arbiter.priorityMap ∧ t.arbiter.groupQueue = s.arbiter.groupQueue ∧
    t.arbiter.groupByPriority = s.arbiter.groupByPriority ∧ t.arbiter.mainsCeiling = s.arbiter.mainsCeiling ∧
    t.arbiter.batteryCeiling = s.arbiter.batteryCeiling ∧ t.arbiter.staggerInterval = s.arbiter.staggerInterval ∧
    t.ceilingInForce = s.ceilingInForce ∧ t.freeEntries = s.freeEntries) _ ?_ ?_
  · simp
  · intro i _ t ih
    (repeat' split) <;> simp [ih]

/-- Zones recomputed and reported change what the report changes, and the standings. -/
@[simp] theorem State.updateZones_frame (s : State) (zs : Set4) (onset : Bool) :
    (s.updateZones zs onset).now = s.now ∧ (s.updateZones zs onset).trunk = s.trunk ∧
    (s.updateZones zs onset).kindMap = s.kindMap ∧ (s.updateZones zs onset).profiles = s.profiles ∧
    (s.updateZones zs onset).nodes = s.nodes ∧ (s.updateZones zs onset).rules = s.rules ∧
    (s.updateZones zs onset).classes = s.classes ∧ (s.updateZones zs onset).groups = s.groups ∧
    (s.updateZones zs onset).supply = s.supply ∧ (s.updateZones zs onset).mgmt = s.mgmt ∧
    (s.updateZones zs onset).pending = s.pending ∧ (∀ m, (s.updateZones zs onset).node m = s.node m) ∧
    (∀ c, (s.updateZones zs onset).cls c = s.cls c) ∧ (∀ k, (s.updateZones zs onset).rule k = s.rule k) ∧
    (∀ g, (s.updateZones zs onset).group g = s.group g) ∧
    (∀ j, ((s.updateZones zs onset).slot j).present = (s.slot j).present) ∧
    (∀ j, ((s.updateZones zs onset).slot j).input = (s.slot j).input) ∧
    (∀ j, ((s.updateZones zs onset).slot j).debounceExpiry = (s.slot j).debounceExpiry) ∧
    (∀ j, ((s.updateZones zs onset).slot j).inService = (s.slot j).inService) ∧
    (∀ j, ((s.updateZones zs onset).slot j).zone = (s.slot j).zone) ∧
    (∀ j, ((s.updateZones zs onset).slot j).profile = (s.slot j).profile) ∧
    (∀ j, ((s.updateZones zs onset).slot j).shedClass = (s.slot j).shedClass) ∧
    (∀ j, (s.updateZones zs onset).profileOf j = s.profileOf j) ∧
    (s.updateZones zs onset).arbiter.priorityMap = s.arbiter.priorityMap ∧
    (s.updateZones zs onset).arbiter.groupQueue = s.arbiter.groupQueue ∧
    (s.updateZones zs onset).arbiter.groupByPriority = s.arbiter.groupByPriority ∧
    (s.updateZones zs onset).arbiter.mainsCeiling = s.arbiter.mainsCeiling ∧
    (s.updateZones zs onset).arbiter.batteryCeiling = s.arbiter.batteryCeiling ∧
    (s.updateZones zs onset).arbiter.staggerInterval = s.arbiter.staggerInterval ∧
    (s.updateZones zs onset).ceilingInForce = s.ceilingInForce ∧
    (s.updateZones zs onset).freeEntries = s.freeEntries := by
  unfold State.updateZones
  simp

/-- An onset changes the standings, what their report changes, and the flags. -/
@[simp] theorem State.onset_frame (s : State) (c : ClassId) :
    (s.onset c).now = s.now ∧ (s.onset c).trunk = s.trunk ∧ (s.onset c).kindMap = s.kindMap ∧
    (s.onset c).profiles = s.profiles ∧ (s.onset c).nodes = s.nodes ∧ (s.onset c).rules = s.rules ∧
    (s.onset c).classes = s.classes ∧ (s.onset c).groups = s.groups ∧ (s.onset c).supply = s.supply ∧
    (s.onset c).pending = s.pending ∧ (∀ m, (s.onset c).node m = s.node m) ∧ (∀ c, (s.onset c).cls c = s.cls c) ∧
    (∀ k, (s.onset c).rule k = s.rule k) ∧ (∀ g, (s.onset c).group g = s.group g) ∧
    (∀ j, ((s.onset c).slot j).present = (s.slot j).present) ∧ (∀ j, ((s.onset c).slot j).input = (s.slot j).input) ∧
    (∀ j, ((s.onset c).slot j).debounceExpiry = (s.slot j).debounceExpiry) ∧
    (∀ j, ((s.onset c).slot j).inService = (s.slot j).inService) ∧
    (∀ j, ((s.onset c).slot j).zone = (s.slot j).zone) ∧ (∀ j, ((s.onset c).slot j).profile = (s.slot j).profile) ∧
    (∀ j, ((s.onset c).slot j).shedClass = (s.slot j).shedClass) ∧ (∀ j, (s.onset c).profileOf j = s.profileOf j) ∧
    (s.onset c).arbiter.priorityMap = s.arbiter.priorityMap ∧ (s.onset c).arbiter.groupQueue = s.arbiter.groupQueue ∧
    (s.onset c).arbiter.groupByPriority = s.arbiter.groupByPriority ∧
    (s.onset c).arbiter.mainsCeiling = s.arbiter.mainsCeiling ∧
    (s.onset c).arbiter.batteryCeiling = s.arbiter.batteryCeiling ∧
    (s.onset c).arbiter.staggerInterval = s.arbiter.staggerInterval ∧ (s.onset c).ceilingInForce = s.ceilingInForce ∧
    (s.onset c).freeEntries = s.freeEntries ∧ (s.onset c).mgmt.mode = s.mgmt.mode ∧
    (s.onset c).mgmt.timing = s.mgmt.timing ∧ (s.onset c).mgmt.enables = s.mgmt.enables := by
  unfold State.onset
  simp

/-- A clear changes the class, the standings, what their report changes, and the flags. -/
@[simp] theorem State.clear_frame (s : State) (c : ClassId) :
    (s.clear c).now = s.now ∧ (s.clear c).trunk = s.trunk ∧ (s.clear c).kindMap = s.kindMap ∧
    (s.clear c).profiles = s.profiles ∧ (s.clear c).nodes = s.nodes ∧ (s.clear c).rules = s.rules ∧
    (s.clear c).groups = s.groups ∧ (s.clear c).supply = s.supply ∧ (s.clear c).pending = s.pending ∧
    (∀ m, (s.clear c).node m = s.node m) ∧ (∀ k, (s.clear c).rule k = s.rule k) ∧
    (∀ g, (s.clear c).group g = s.group g) ∧ (∀ j, ((s.clear c).slot j).present = (s.slot j).present) ∧
    (∀ j, ((s.clear c).slot j).input = (s.slot j).input) ∧
    (∀ j, ((s.clear c).slot j).debounceExpiry = (s.slot j).debounceExpiry) ∧
    (∀ j, ((s.clear c).slot j).inService = (s.slot j).inService) ∧
    (∀ j, ((s.clear c).slot j).zone = (s.slot j).zone) ∧ (∀ j, ((s.clear c).slot j).profile = (s.slot j).profile) ∧
    (∀ j, ((s.clear c).slot j).shedClass = (s.slot j).shedClass) ∧ (∀ j, (s.clear c).profileOf j = s.profileOf j) ∧
    (s.clear c).arbiter.priorityMap = s.arbiter.priorityMap ∧ (s.clear c).arbiter.groupQueue = s.arbiter.groupQueue ∧
    (s.clear c).arbiter.groupByPriority = s.arbiter.groupByPriority ∧
    (s.clear c).arbiter.mainsCeiling = s.arbiter.mainsCeiling ∧
    (s.clear c).arbiter.batteryCeiling = s.arbiter.batteryCeiling ∧
    (s.clear c).arbiter.staggerInterval = s.arbiter.staggerInterval ∧ (s.clear c).ceilingInForce = s.ceilingInForce ∧
    (s.clear c).freeEntries = s.freeEntries ∧ (s.clear c).mgmt.mode = s.mgmt.mode ∧
    (s.clear c).mgmt.timing = s.mgmt.timing ∧ (s.clear c).mgmt.enables = s.mgmt.enables := by
  unfold State.clear
  simp

/-- An activation changes what an onset changes, and the class. -/
@[simp] theorem State.activate_frame (s : State) (c : ClassId) :
    (s.activate c).now = s.now ∧ (s.activate c).trunk = s.trunk ∧ (s.activate c).kindMap = s.kindMap ∧
    (s.activate c).profiles = s.profiles ∧ (s.activate c).nodes = s.nodes ∧ (s.activate c).rules = s.rules ∧
    (s.activate c).groups = s.groups ∧ (s.activate c).supply = s.supply ∧ (s.activate c).pending = s.pending ∧
    (∀ m, (s.activate c).node m = s.node m) ∧ (∀ k, (s.activate c).rule k = s.rule k) ∧
    (∀ g, (s.activate c).group g = s.group g) ∧ (∀ j, ((s.activate c).slot j).present = (s.slot j).present) ∧
    (∀ j, ((s.activate c).slot j).input = (s.slot j).input) ∧
    (∀ j, ((s.activate c).slot j).debounceExpiry = (s.slot j).debounceExpiry) ∧
    (∀ j, ((s.activate c).slot j).inService = (s.slot j).inService) ∧
    (∀ j, ((s.activate c).slot j).zone = (s.slot j).zone) ∧
    (∀ j, ((s.activate c).slot j).profile = (s.slot j).profile) ∧
    (∀ j, ((s.activate c).slot j).shedClass = (s.slot j).shedClass) ∧
    (∀ j, (s.activate c).profileOf j = s.profileOf j) ∧ (s.activate c).arbiter.priorityMap = s.arbiter.priorityMap ∧
    (s.activate c).arbiter.groupQueue = s.arbiter.groupQueue ∧
    (s.activate c).arbiter.groupByPriority = s.arbiter.groupByPriority ∧
    (s.activate c).arbiter.mainsCeiling = s.arbiter.mainsCeiling ∧
    (s.activate c).arbiter.batteryCeiling = s.arbiter.batteryCeiling ∧
    (s.activate c).arbiter.staggerInterval = s.arbiter.staggerInterval ∧
    (s.activate c).ceilingInForce = s.ceilingInForce ∧ (s.activate c).freeEntries = s.freeEntries ∧
    (s.activate c).mgmt.mode = s.mgmt.mode ∧ (s.activate c).mgmt.timing = s.mgmt.timing ∧
    (s.activate c).mgmt.enables = s.mgmt.enables := by
  unfold State.activate
  (repeat' split) <;> simp

/-- A firing changes what an activation changes. -/
@[simp] theorem State.fire_frame (s : State) (c : ClassId) :
    (s.fire c).now = s.now ∧ (s.fire c).trunk = s.trunk ∧ (s.fire c).kindMap = s.kindMap ∧
    (s.fire c).profiles = s.profiles ∧ (s.fire c).nodes = s.nodes ∧ (s.fire c).rules = s.rules ∧
    (s.fire c).groups = s.groups ∧ (s.fire c).supply = s.supply ∧ (s.fire c).pending = s.pending ∧
    (∀ m, (s.fire c).node m = s.node m) ∧ (∀ k, (s.fire c).rule k = s.rule k) ∧
    (∀ g, (s.fire c).group g = s.group g) ∧ (∀ j, ((s.fire c).slot j).present = (s.slot j).present) ∧
    (∀ j, ((s.fire c).slot j).input = (s.slot j).input) ∧
    (∀ j, ((s.fire c).slot j).debounceExpiry = (s.slot j).debounceExpiry) ∧
    (∀ j, ((s.fire c).slot j).inService = (s.slot j).inService) ∧ (∀ j, ((s.fire c).slot j).zone = (s.slot j).zone) ∧
    (∀ j, ((s.fire c).slot j).profile = (s.slot j).profile) ∧
    (∀ j, ((s.fire c).slot j).shedClass = (s.slot j).shedClass) ∧ (∀ j, (s.fire c).profileOf j = s.profileOf j) ∧
    (s.fire c).arbiter.priorityMap = s.arbiter.priorityMap ∧ (s.fire c).arbiter.groupQueue = s.arbiter.groupQueue ∧
    (s.fire c).arbiter.groupByPriority = s.arbiter.groupByPriority ∧
    (s.fire c).arbiter.mainsCeiling = s.arbiter.mainsCeiling ∧
    (s.fire c).arbiter.batteryCeiling = s.arbiter.batteryCeiling ∧
    (s.fire c).arbiter.staggerInterval = s.arbiter.staggerInterval ∧ (s.fire c).ceilingInForce = s.ceilingInForce ∧
    (s.fire c).freeEntries = s.freeEntries ∧ (s.fire c).mgmt.mode = s.mgmt.mode ∧
    (s.fire c).mgmt.timing = s.mgmt.timing ∧ (s.fire c).mgmt.enables = s.mgmt.enables := by
  unfold State.fire
  simp

/-- A join changes what an activation changes. -/
@[simp] theorem State.joinClass_frame (s : State) (n : NodeId) (c : ClassId) :
    (s.joinClass n c).now = s.now ∧ (s.joinClass n c).trunk = s.trunk ∧ (s.joinClass n c).kindMap = s.kindMap ∧
    (s.joinClass n c).profiles = s.profiles ∧ (s.joinClass n c).nodes = s.nodes ∧ (s.joinClass n c).rules = s.rules ∧
    (s.joinClass n c).groups = s.groups ∧ (s.joinClass n c).supply = s.supply ∧
    (s.joinClass n c).pending = s.pending ∧ (∀ m, (s.joinClass n c).node m = s.node m) ∧
    (∀ k, (s.joinClass n c).rule k = s.rule k) ∧ (∀ g, (s.joinClass n c).group g = s.group g) ∧
    (∀ j, ((s.joinClass n c).slot j).present = (s.slot j).present) ∧
    (∀ j, ((s.joinClass n c).slot j).input = (s.slot j).input) ∧
    (∀ j, ((s.joinClass n c).slot j).debounceExpiry = (s.slot j).debounceExpiry) ∧
    (∀ j, ((s.joinClass n c).slot j).inService = (s.slot j).inService) ∧
    (∀ j, ((s.joinClass n c).slot j).zone = (s.slot j).zone) ∧
    (∀ j, ((s.joinClass n c).slot j).profile = (s.slot j).profile) ∧
    (∀ j, ((s.joinClass n c).slot j).shedClass = (s.slot j).shedClass) ∧
    (∀ j, (s.joinClass n c).profileOf j = s.profileOf j) ∧
    (s.joinClass n c).arbiter.priorityMap = s.arbiter.priorityMap ∧
    (s.joinClass n c).arbiter.groupQueue = s.arbiter.groupQueue ∧
    (s.joinClass n c).arbiter.groupByPriority = s.arbiter.groupByPriority ∧
    (s.joinClass n c).arbiter.mainsCeiling = s.arbiter.mainsCeiling ∧
    (s.joinClass n c).arbiter.batteryCeiling = s.arbiter.batteryCeiling ∧
    (s.joinClass n c).arbiter.staggerInterval = s.arbiter.staggerInterval ∧
    (s.joinClass n c).ceilingInForce = s.ceilingInForce ∧ (s.joinClass n c).freeEntries = s.freeEntries ∧
    (s.joinClass n c).mgmt.mode = s.mgmt.mode ∧ (s.joinClass n c).mgmt.timing = s.mgmt.timing ∧
    (s.joinClass n c).mgmt.enables = s.mgmt.enables := by
  unfold State.joinClass
  simp

/-- A leave changes the class alone. -/
@[simp] theorem State.leaveClass_frame (s : State) (n : NodeId) (c : ClassId) :
    (s.leaveClass n c).now = s.now ∧ (s.leaveClass n c).trunk = s.trunk ∧ (s.leaveClass n c).kindMap = s.kindMap ∧
    (s.leaveClass n c).slots = s.slots ∧ (s.leaveClass n c).profiles = s.profiles ∧
    (s.leaveClass n c).lanes = s.lanes ∧ (s.leaveClass n c).arbiter = s.arbiter ∧
    (s.leaveClass n c).nodes = s.nodes ∧ (s.leaveClass n c).rules = s.rules ∧ (s.leaveClass n c).zones = s.zones ∧
    (s.leaveClass n c).groups = s.groups ∧ (s.leaveClass n c).supply = s.supply ∧ (s.leaveClass n c).mgmt = s.mgmt ∧
    (s.leaveClass n c).pending = s.pending ∧ (∀ j, (s.leaveClass n c).slot j = s.slot j) ∧
    (∀ j, (s.leaveClass n c).lane j = s.lane j) ∧ (∀ m, (s.leaveClass n c).node m = s.node m) ∧
    (∀ k, (s.leaveClass n c).rule k = s.rule k) ∧ (∀ g, (s.leaveClass n c).group g = s.group g) ∧
    (∀ j, (s.leaveClass n c).profileOf j = s.profileOf j) ∧ (∀ j, (s.leaveClass n c).covered j = s.covered j) ∧
    (∀ j, (s.leaveClass n c).frozen j = s.frozen j) ∧ (s.leaveClass n c).ceilingInForce = s.ceilingInForce ∧
    (s.leaveClass n c).examined = s.examined ∧ (s.leaveClass n c).freeEntries = s.freeEntries := by
  unfold State.leaveClass
  (try simp only [])
  simp

/-- A join changes what an activation changes. -/
@[simp] theorem State.joinBlind_frame (s : State) (n : NodeId) (b : Option ClassId) :
    (s.joinBlind n b).now = s.now ∧ (s.joinBlind n b).trunk = s.trunk ∧ (s.joinBlind n b).kindMap = s.kindMap ∧
    (s.joinBlind n b).profiles = s.profiles ∧ (s.joinBlind n b).nodes = s.nodes ∧ (s.joinBlind n b).rules = s.rules ∧
    (s.joinBlind n b).groups = s.groups ∧ (s.joinBlind n b).supply = s.supply ∧
    (s.joinBlind n b).pending = s.pending ∧ (∀ m, (s.joinBlind n b).node m = s.node m) ∧
    (∀ k, (s.joinBlind n b).rule k = s.rule k) ∧ (∀ g, (s.joinBlind n b).group g = s.group g) ∧
    (∀ j, ((s.joinBlind n b).slot j).present = (s.slot j).present) ∧
    (∀ j, ((s.joinBlind n b).slot j).input = (s.slot j).input) ∧
    (∀ j, ((s.joinBlind n b).slot j).debounceExpiry = (s.slot j).debounceExpiry) ∧
    (∀ j, ((s.joinBlind n b).slot j).inService = (s.slot j).inService) ∧
    (∀ j, ((s.joinBlind n b).slot j).zone = (s.slot j).zone) ∧
    (∀ j, ((s.joinBlind n b).slot j).profile = (s.slot j).profile) ∧
    (∀ j, ((s.joinBlind n b).slot j).shedClass = (s.slot j).shedClass) ∧
    (∀ j, (s.joinBlind n b).profileOf j = s.profileOf j) ∧
    (s.joinBlind n b).arbiter.priorityMap = s.arbiter.priorityMap ∧
    (s.joinBlind n b).arbiter.groupQueue = s.arbiter.groupQueue ∧
    (s.joinBlind n b).arbiter.groupByPriority = s.arbiter.groupByPriority ∧
    (s.joinBlind n b).arbiter.mainsCeiling = s.arbiter.mainsCeiling ∧
    (s.joinBlind n b).arbiter.batteryCeiling = s.arbiter.batteryCeiling ∧
    (s.joinBlind n b).arbiter.staggerInterval = s.arbiter.staggerInterval ∧
    (s.joinBlind n b).ceilingInForce = s.ceilingInForce ∧ (s.joinBlind n b).freeEntries = s.freeEntries ∧
    (s.joinBlind n b).mgmt.mode = s.mgmt.mode ∧ (s.joinBlind n b).mgmt.timing = s.mgmt.timing ∧
    (s.joinBlind n b).mgmt.enables = s.mgmt.enables := by
  unfold State.joinBlind
  (repeat' split) <;> simp

/-- A leave changes the class alone. -/
@[simp] theorem State.leaveBlind_frame (s : State) (n : NodeId) (b : Option ClassId) :
    (s.leaveBlind n b).now = s.now ∧ (s.leaveBlind n b).trunk = s.trunk ∧ (s.leaveBlind n b).kindMap = s.kindMap ∧
    (s.leaveBlind n b).slots = s.slots ∧ (s.leaveBlind n b).profiles = s.profiles ∧
    (s.leaveBlind n b).lanes = s.lanes ∧ (s.leaveBlind n b).arbiter = s.arbiter ∧
    (s.leaveBlind n b).nodes = s.nodes ∧ (s.leaveBlind n b).rules = s.rules ∧ (s.leaveBlind n b).zones = s.zones ∧
    (s.leaveBlind n b).groups = s.groups ∧ (s.leaveBlind n b).supply = s.supply ∧ (s.leaveBlind n b).mgmt = s.mgmt ∧
    (s.leaveBlind n b).pending = s.pending ∧ (∀ j, (s.leaveBlind n b).slot j = s.slot j) ∧
    (∀ j, (s.leaveBlind n b).lane j = s.lane j) ∧ (∀ m, (s.leaveBlind n b).node m = s.node m) ∧
    (∀ k, (s.leaveBlind n b).rule k = s.rule k) ∧ (∀ g, (s.leaveBlind n b).group g = s.group g) ∧
    (∀ j, (s.leaveBlind n b).profileOf j = s.profileOf j) ∧ (∀ j, (s.leaveBlind n b).covered j = s.covered j) ∧
    (∀ j, (s.leaveBlind n b).frozen j = s.frozen j) ∧ (s.leaveBlind n b).ceilingInForce = s.ceilingInForce ∧
    (s.leaveBlind n b).examined = s.examined ∧ (s.leaveBlind n b).freeEntries = s.freeEntries := by
  unfold State.leaveBlind
  (repeat' split) <;> simp

/-- A rule's evaluation changes what a firing changes, and counters. -/
@[simp] theorem State.evaluateRule_frame (s : State) (n : NodeId) (x : Results) (r : Fin 16) :
    (s.evaluateRule n x r).now = s.now ∧ (s.evaluateRule n x r).trunk = s.trunk ∧
    (s.evaluateRule n x r).kindMap = s.kindMap ∧ (s.evaluateRule n x r).profiles = s.profiles ∧
    (s.evaluateRule n x r).nodes = s.nodes ∧ (s.evaluateRule n x r).groups = s.groups ∧
    (s.evaluateRule n x r).supply = s.supply ∧ (s.evaluateRule n x r).pending = s.pending ∧
    (∀ m, (s.evaluateRule n x r).node m = s.node m) ∧ (∀ g, (s.evaluateRule n x r).group g = s.group g) ∧
    (∀ j, ((s.evaluateRule n x r).slot j).present = (s.slot j).present) ∧
    (∀ j, ((s.evaluateRule n x r).slot j).input = (s.slot j).input) ∧
    (∀ j, ((s.evaluateRule n x r).slot j).debounceExpiry = (s.slot j).debounceExpiry) ∧
    (∀ j, ((s.evaluateRule n x r).slot j).inService = (s.slot j).inService) ∧
    (∀ j, ((s.evaluateRule n x r).slot j).zone = (s.slot j).zone) ∧
    (∀ j, ((s.evaluateRule n x r).slot j).profile = (s.slot j).profile) ∧
    (∀ j, ((s.evaluateRule n x r).slot j).shedClass = (s.slot j).shedClass) ∧
    (∀ j, (s.evaluateRule n x r).profileOf j = s.profileOf j) ∧
    (s.evaluateRule n x r).arbiter.priorityMap = s.arbiter.priorityMap ∧
    (s.evaluateRule n x r).arbiter.groupQueue = s.arbiter.groupQueue ∧
    (s.evaluateRule n x r).arbiter.groupByPriority = s.arbiter.groupByPriority ∧
    (s.evaluateRule n x r).arbiter.mainsCeiling = s.arbiter.mainsCeiling ∧
    (s.evaluateRule n x r).arbiter.batteryCeiling = s.arbiter.batteryCeiling ∧
    (s.evaluateRule n x r).arbiter.staggerInterval = s.arbiter.staggerInterval ∧
    (s.evaluateRule n x r).ceilingInForce = s.ceilingInForce ∧ (s.evaluateRule n x r).freeEntries = s.freeEntries ∧
    (s.evaluateRule n x r).mgmt.mode = s.mgmt.mode ∧ (s.evaluateRule n x r).mgmt.timing = s.mgmt.timing ∧
    (s.evaluateRule n x r).mgmt.enables = s.mgmt.enables := by
  unfold State.evaluateRule
  (try simp only [])
  (repeat' split) <;> simp

/-- The evaluation of a sample changes what firings change, and counters. -/
@[simp] theorem State.evaluateRules_frame (s : State) (n : NodeId) (x : Results) :
    (s.evaluateRules n x).now = s.now ∧ (s.evaluateRules n x).trunk = s.trunk ∧
    (s.evaluateRules n x).kindMap = s.kindMap ∧ (s.evaluateRules n x).profiles = s.profiles ∧
    (s.evaluateRules n x).nodes = s.nodes ∧ (s.evaluateRules n x).groups = s.groups ∧
    (s.evaluateRules n x).supply = s.supply ∧ (s.evaluateRules n x).pending = s.pending ∧
    (∀ m, (s.evaluateRules n x).node m = s.node m) ∧ (∀ g, (s.evaluateRules n x).group g = s.group g) ∧
    (∀ j, ((s.evaluateRules n x).slot j).present = (s.slot j).present) ∧
    (∀ j, ((s.evaluateRules n x).slot j).input = (s.slot j).input) ∧
    (∀ j, ((s.evaluateRules n x).slot j).debounceExpiry = (s.slot j).debounceExpiry) ∧
    (∀ j, ((s.evaluateRules n x).slot j).inService = (s.slot j).inService) ∧
    (∀ j, ((s.evaluateRules n x).slot j).zone = (s.slot j).zone) ∧
    (∀ j, ((s.evaluateRules n x).slot j).profile = (s.slot j).profile) ∧
    (∀ j, ((s.evaluateRules n x).slot j).shedClass = (s.slot j).shedClass) ∧
    (∀ j, (s.evaluateRules n x).profileOf j = s.profileOf j) ∧
    (s.evaluateRules n x).arbiter.priorityMap = s.arbiter.priorityMap ∧
    (s.evaluateRules n x).arbiter.groupQueue = s.arbiter.groupQueue ∧
    (s.evaluateRules n x).arbiter.groupByPriority = s.arbiter.groupByPriority ∧
    (s.evaluateRules n x).arbiter.mainsCeiling = s.arbiter.mainsCeiling ∧
    (s.evaluateRules n x).arbiter.batteryCeiling = s.arbiter.batteryCeiling ∧
    (s.evaluateRules n x).arbiter.staggerInterval = s.arbiter.staggerInterval ∧
    (s.evaluateRules n x).ceilingInForce = s.ceilingInForce ∧ (s.evaluateRules n x).freeEntries = s.freeEntries ∧
    (s.evaluateRules n x).mgmt.mode = s.mgmt.mode ∧ (s.evaluateRules n x).mgmt.timing = s.mgmt.timing ∧
    (s.evaluateRules n x).mgmt.enables = s.mgmt.enables := by
  unfold State.evaluateRules
  suffices h : ∀ (l : List (Fin 16)) (t : State),
      (l.foldl (fun t k => t.evaluateRule n x k) t).now = t.now ∧
      (l.foldl (fun t k => t.evaluateRule n x k) t).trunk = t.trunk ∧
      (l.foldl (fun t k => t.evaluateRule n x k) t).kindMap = t.kindMap ∧
      (l.foldl (fun t k => t.evaluateRule n x k) t).profiles = t.profiles ∧
      (l.foldl (fun t k => t.evaluateRule n x k) t).nodes = t.nodes ∧
      (l.foldl (fun t k => t.evaluateRule n x k) t).groups = t.groups ∧
      (l.foldl (fun t k => t.evaluateRule n x k) t).supply = t.supply ∧
      (l.foldl (fun t k => t.evaluateRule n x k) t).pending = t.pending ∧
      (∀ m, (l.foldl (fun t k => t.evaluateRule n x k) t).node m = t.node m) ∧
      (∀ g, (l.foldl (fun t k => t.evaluateRule n x k) t).group g = t.group g) ∧
      (∀ j, ((l.foldl (fun t k => t.evaluateRule n x k) t).slot j).present = (t.slot j).present) ∧
      (∀ j, ((l.foldl (fun t k => t.evaluateRule n x k) t).slot j).input = (t.slot j).input) ∧
      (∀ j, ((l.foldl (fun t k => t.evaluateRule n x k) t).slot j).debounceExpiry = (t.slot j).debounceExpiry) ∧
      (∀ j, ((l.foldl (fun t k => t.evaluateRule n x k) t).slot j).inService = (t.slot j).inService) ∧
      (∀ j, ((l.foldl (fun t k => t.evaluateRule n x k) t).slot j).zone = (t.slot j).zone) ∧
      (∀ j, ((l.foldl (fun t k => t.evaluateRule n x k) t).slot j).profile = (t.slot j).profile) ∧
      (∀ j, ((l.foldl (fun t k => t.evaluateRule n x k) t).slot j).shedClass = (t.slot j).shedClass) ∧
      (∀ j, (l.foldl (fun t k => t.evaluateRule n x k) t).profileOf j = t.profileOf j) ∧
      (l.foldl (fun t k => t.evaluateRule n x k) t).arbiter.priorityMap = t.arbiter.priorityMap ∧
      (l.foldl (fun t k => t.evaluateRule n x k) t).arbiter.groupQueue = t.arbiter.groupQueue ∧
      (l.foldl (fun t k => t.evaluateRule n x k) t).arbiter.groupByPriority = t.arbiter.groupByPriority ∧
      (l.foldl (fun t k => t.evaluateRule n x k) t).arbiter.mainsCeiling = t.arbiter.mainsCeiling ∧
      (l.foldl (fun t k => t.evaluateRule n x k) t).arbiter.batteryCeiling = t.arbiter.batteryCeiling ∧
      (l.foldl (fun t k => t.evaluateRule n x k) t).arbiter.staggerInterval = t.arbiter.staggerInterval ∧
      (l.foldl (fun t k => t.evaluateRule n x k) t).ceilingInForce = t.ceilingInForce ∧
      (l.foldl (fun t k => t.evaluateRule n x k) t).freeEntries = t.freeEntries ∧
      (l.foldl (fun t k => t.evaluateRule n x k) t).mgmt.mode = t.mgmt.mode ∧
      (l.foldl (fun t k => t.evaluateRule n x k) t).mgmt.timing = t.mgmt.timing ∧
      (l.foldl (fun t k => t.evaluateRule n x k) t).mgmt.enables = t.mgmt.enables
    from h _ s
  intro l
  induction l with
  | nil => simp
  | cons r rest ih => intro t; simp [ih]

/-- An accepted sample changes what its evaluation changes, and its node. -/
@[simp] theorem State.acceptSample_frame (s : State) (n : NodeId) (seq : Byte) (gap : Bool) (x y z : Int) :
    (s.acceptSample n seq gap x y z).now = s.now ∧ (s.acceptSample n seq gap x y z).trunk = s.trunk ∧
    (s.acceptSample n seq gap x y z).kindMap = s.kindMap ∧ (s.acceptSample n seq gap x y z).profiles = s.profiles ∧
    (s.acceptSample n seq gap x y z).groups = s.groups ∧ (s.acceptSample n seq gap x y z).supply = s.supply ∧
    (s.acceptSample n seq gap x y z).pending = s.pending ∧
    (∀ g, (s.acceptSample n seq gap x y z).group g = s.group g) ∧
    (∀ j, ((s.acceptSample n seq gap x y z).slot j).present = (s.slot j).present) ∧
    (∀ j, ((s.acceptSample n seq gap x y z).slot j).input = (s.slot j).input) ∧
    (∀ j, ((s.acceptSample n seq gap x y z).slot j).debounceExpiry = (s.slot j).debounceExpiry) ∧
    (∀ j, ((s.acceptSample n seq gap x y z).slot j).inService = (s.slot j).inService) ∧
    (∀ j, ((s.acceptSample n seq gap x y z).slot j).zone = (s.slot j).zone) ∧
    (∀ j, ((s.acceptSample n seq gap x y z).slot j).profile = (s.slot j).profile) ∧
    (∀ j, ((s.acceptSample n seq gap x y z).slot j).shedClass = (s.slot j).shedClass) ∧
    (∀ j, (s.acceptSample n seq gap x y z).profileOf j = s.profileOf j) ∧
    (s.acceptSample n seq gap x y z).arbiter.priorityMap = s.arbiter.priorityMap ∧
    (s.acceptSample n seq gap x y z).arbiter.groupQueue = s.arbiter.groupQueue ∧
    (s.acceptSample n seq gap x y z).arbiter.groupByPriority = s.arbiter.groupByPriority ∧
    (s.acceptSample n seq gap x y z).arbiter.mainsCeiling = s.arbiter.mainsCeiling ∧
    (s.acceptSample n seq gap x y z).arbiter.batteryCeiling = s.arbiter.batteryCeiling ∧
    (s.acceptSample n seq gap x y z).arbiter.staggerInterval = s.arbiter.staggerInterval ∧
    (s.acceptSample n seq gap x y z).ceilingInForce = s.ceilingInForce ∧
    (s.acceptSample n seq gap x y z).freeEntries = s.freeEntries ∧
    (s.acceptSample n seq gap x y z).mgmt.mode = s.mgmt.mode ∧
    (s.acceptSample n seq gap x y z).mgmt.timing = s.mgmt.timing ∧
    (s.acceptSample n seq gap x y z).mgmt.enables = s.mgmt.enables := by
  unfold State.acceptSample
  (try simp only [])
  (repeat' split) <;> simp

/-- A sample changes what an accepted one changes. -/
@[simp] theorem State.takeSample_frame (s : State) (n : NodeId) (node seq : Byte) (x y z : Int) :
    (s.takeSample n node seq x y z).now = s.now ∧ (s.takeSample n node seq x y z).trunk = s.trunk ∧
    (s.takeSample n node seq x y z).kindMap = s.kindMap ∧ (s.takeSample n node seq x y z).profiles = s.profiles ∧
    (s.takeSample n node seq x y z).groups = s.groups ∧ (s.takeSample n node seq x y z).supply = s.supply ∧
    (s.takeSample n node seq x y z).pending = s.pending ∧
    (∀ g, (s.takeSample n node seq x y z).group g = s.group g) ∧
    (∀ j, ((s.takeSample n node seq x y z).slot j).present = (s.slot j).present) ∧
    (∀ j, ((s.takeSample n node seq x y z).slot j).input = (s.slot j).input) ∧
    (∀ j, ((s.takeSample n node seq x y z).slot j).debounceExpiry = (s.slot j).debounceExpiry) ∧
    (∀ j, ((s.takeSample n node seq x y z).slot j).inService = (s.slot j).inService) ∧
    (∀ j, ((s.takeSample n node seq x y z).slot j).zone = (s.slot j).zone) ∧
    (∀ j, ((s.takeSample n node seq x y z).slot j).profile = (s.slot j).profile) ∧
    (∀ j, ((s.takeSample n node seq x y z).slot j).shedClass = (s.slot j).shedClass) ∧
    (∀ j, (s.takeSample n node seq x y z).profileOf j = s.profileOf j) ∧
    (s.takeSample n node seq x y z).arbiter.priorityMap = s.arbiter.priorityMap ∧
    (s.takeSample n node seq x y z).arbiter.groupQueue = s.arbiter.groupQueue ∧
    (s.takeSample n node seq x y z).arbiter.groupByPriority = s.arbiter.groupByPriority ∧
    (s.takeSample n node seq x y z).arbiter.mainsCeiling = s.arbiter.mainsCeiling ∧
    (s.takeSample n node seq x y z).arbiter.batteryCeiling = s.arbiter.batteryCeiling ∧
    (s.takeSample n node seq x y z).arbiter.staggerInterval = s.arbiter.staggerInterval ∧
    (s.takeSample n node seq x y z).ceilingInForce = s.ceilingInForce ∧
    (s.takeSample n node seq x y z).freeEntries = s.freeEntries ∧
    (s.takeSample n node seq x y z).mgmt.mode = s.mgmt.mode ∧
    (s.takeSample n node seq x y z).mgmt.timing = s.mgmt.timing ∧
    (s.takeSample n node seq x y z).mgmt.enables = s.mgmt.enables := by
  unfold State.takeSample
  (repeat' split) <;> simp

/-- A silence changes its node, the counters, and what a join changes. -/
@[simp] theorem State.silence_frame (s : State) (n : NodeId) :
    (s.silence n).now = s.now ∧ (s.silence n).trunk = s.trunk ∧ (s.silence n).kindMap = s.kindMap ∧
    (s.silence n).profiles = s.profiles ∧ (s.silence n).groups = s.groups ∧ (s.silence n).supply = s.supply ∧
    (s.silence n).pending = s.pending ∧ (∀ g, (s.silence n).group g = s.group g) ∧
    (∀ j, ((s.silence n).slot j).present = (s.slot j).present) ∧
    (∀ j, ((s.silence n).slot j).input = (s.slot j).input) ∧
    (∀ j, ((s.silence n).slot j).debounceExpiry = (s.slot j).debounceExpiry) ∧
    (∀ j, ((s.silence n).slot j).inService = (s.slot j).inService) ∧
    (∀ j, ((s.silence n).slot j).zone = (s.slot j).zone) ∧
    (∀ j, ((s.silence n).slot j).profile = (s.slot j).profile) ∧
    (∀ j, ((s.silence n).slot j).shedClass = (s.slot j).shedClass) ∧
    (∀ j, (s.silence n).profileOf j = s.profileOf j) ∧ (s.silence n).arbiter.priorityMap = s.arbiter.priorityMap ∧
    (s.silence n).arbiter.groupQueue = s.arbiter.groupQueue ∧
    (s.silence n).arbiter.groupByPriority = s.arbiter.groupByPriority ∧
    (s.silence n).arbiter.mainsCeiling = s.arbiter.mainsCeiling ∧
    (s.silence n).arbiter.batteryCeiling = s.arbiter.batteryCeiling ∧
    (s.silence n).arbiter.staggerInterval = s.arbiter.staggerInterval ∧
    (s.silence n).ceilingInForce = s.ceilingInForce ∧ (s.silence n).freeEntries = s.freeEntries ∧
    (s.silence n).mgmt.mode = s.mgmt.mode ∧ (s.silence n).mgmt.timing = s.mgmt.timing ∧
    (s.silence n).mgmt.enables = s.mgmt.enables := by
  unfold State.silence
  (try simp only [])
  (repeat' split) <;> simp

/-- A node configuration write changes its node, the counters, and what a join or a leave changes. -/
@[simp] theorem State.configureNode_frame (s : State) (n : NodeId) (cfg : NodeConfig) :
    (s.configureNode n cfg).now = s.now ∧ (s.configureNode n cfg).trunk = s.trunk ∧
    (s.configureNode n cfg).kindMap = s.kindMap ∧ (s.configureNode n cfg).profiles = s.profiles ∧
    (s.configureNode n cfg).groups = s.groups ∧ (s.configureNode n cfg).supply = s.supply ∧
    (s.configureNode n cfg).pending = s.pending ∧ (∀ g, (s.configureNode n cfg).group g = s.group g) ∧
    (∀ j, ((s.configureNode n cfg).slot j).present = (s.slot j).present) ∧
    (∀ j, ((s.configureNode n cfg).slot j).input = (s.slot j).input) ∧
    (∀ j, ((s.configureNode n cfg).slot j).debounceExpiry = (s.slot j).debounceExpiry) ∧
    (∀ j, ((s.configureNode n cfg).slot j).inService = (s.slot j).inService) ∧
    (∀ j, ((s.configureNode n cfg).slot j).zone = (s.slot j).zone) ∧
    (∀ j, ((s.configureNode n cfg).slot j).profile = (s.slot j).profile) ∧
    (∀ j, ((s.configureNode n cfg).slot j).shedClass = (s.slot j).shedClass) ∧
    (∀ j, (s.configureNode n cfg).profileOf j = s.profileOf j) ∧
    (s.configureNode n cfg).arbiter.priorityMap = s.arbiter.priorityMap ∧
    (s.configureNode n cfg).arbiter.groupQueue = s.arbiter.groupQueue ∧
    (s.configureNode n cfg).arbiter.groupByPriority = s.arbiter.groupByPriority ∧
    (s.configureNode n cfg).arbiter.mainsCeiling = s.arbiter.mainsCeiling ∧
    (s.configureNode n cfg).arbiter.batteryCeiling = s.arbiter.batteryCeiling ∧
    (s.configureNode n cfg).arbiter.staggerInterval = s.arbiter.staggerInterval ∧
    (s.configureNode n cfg).ceilingInForce = s.ceilingInForce ∧ (s.configureNode n cfg).freeEntries = s.freeEntries ∧
    (s.configureNode n cfg).mgmt.mode = s.mgmt.mode ∧ (s.configureNode n cfg).mgmt.timing = s.mgmt.timing ∧
    (s.configureNode n cfg).mgmt.enables = s.mgmt.enables := by
  unfold State.configureNode
  (try simp only [])
  (repeat' split) <;> simp

/-- A reservation changes nothing but the trunk port. -/
@[simp] theorem State.reserveFor_frame (s : State) (o : Origin) :
    (s.reserveFor o).now = s.now ∧ (s.reserveFor o).kindMap = s.kindMap ∧ (s.reserveFor o).slots = s.slots ∧
    (s.reserveFor o).profiles = s.profiles ∧ (s.reserveFor o).lanes = s.lanes ∧
    (s.reserveFor o).arbiter = s.arbiter ∧ (s.reserveFor o).nodes = s.nodes ∧ (s.reserveFor o).rules = s.rules ∧
    (s.reserveFor o).classes = s.classes ∧ (s.reserveFor o).zones = s.zones ∧ (s.reserveFor o).groups = s.groups ∧
    (s.reserveFor o).supply = s.supply ∧ (s.reserveFor o).mgmt = s.mgmt ∧ (s.reserveFor o).pending = s.pending ∧
    (∀ j, (s.reserveFor o).slot j = s.slot j) ∧ (∀ j, (s.reserveFor o).lane j = s.lane j) ∧
    (∀ m, (s.reserveFor o).node m = s.node m) ∧ (∀ c, (s.reserveFor o).cls c = s.cls c) ∧
    (∀ k, (s.reserveFor o).rule k = s.rule k) ∧ (∀ g, (s.reserveFor o).group g = s.group g) ∧
    (∀ j, (s.reserveFor o).profileOf j = s.profileOf j) ∧ (∀ j, (s.reserveFor o).covered j = s.covered j) ∧
    (∀ j, (s.reserveFor o).frozen j = s.frozen j) ∧ (s.reserveFor o).ceilingInForce = s.ceilingInForce ∧
    (s.reserveFor o).examined = s.examined := by
  unfold State.reserveFor
  (repeat' split) <;> simp

/-- An acceptance changes slots, lanes, the account, groups and the trunk port at most. -/
@[simp] theorem State.accept_frame (s : State) (i : SlotId) (a : ActiveRequest) :
    (s.accept i a).now = s.now ∧ (s.accept i a).kindMap = s.kindMap ∧ (s.accept i a).profiles = s.profiles ∧
    (s.accept i a).nodes = s.nodes ∧ (s.accept i a).rules = s.rules ∧ (s.accept i a).classes = s.classes ∧
    (s.accept i a).zones = s.zones ∧ (s.accept i a).supply = s.supply ∧ (s.accept i a).mgmt = s.mgmt ∧
    (s.accept i a).pending = s.pending ∧ (∀ m, (s.accept i a).node m = s.node m) ∧
    (∀ c, (s.accept i a).cls c = s.cls c) ∧ (∀ k, (s.accept i a).rule k = s.rule k) ∧
    (∀ j, ((s.accept i a).slot j).present = (s.slot j).present) ∧
    (∀ j, ((s.accept i a).slot j).input = (s.slot j).input) ∧
    (∀ j, ((s.accept i a).slot j).debounceExpiry = (s.slot j).debounceExpiry) ∧
    (∀ j, ((s.accept i a).slot j).inService = (s.slot j).inService) ∧
    (∀ j, ((s.accept i a).slot j).zone = (s.slot j).zone) ∧
    (∀ j, ((s.accept i a).slot j).profile = (s.slot j).profile) ∧
    (∀ j, ((s.accept i a).slot j).shedClass = (s.slot j).shedClass) ∧
    (∀ j, (s.accept i a).profileOf j = s.profileOf j) ∧ (∀ j, (s.accept i a).covered j = s.covered j) ∧
    (∀ j, (s.accept i a).frozen j = s.frozen j) ∧ (s.accept i a).arbiter.priorityMap = s.arbiter.priorityMap ∧
    (s.accept i a).arbiter.groupQueue = s.arbiter.groupQueue ∧
    (s.accept i a).arbiter.groupByPriority = s.arbiter.groupByPriority ∧
    (s.accept i a).arbiter.mainsCeiling = s.arbiter.mainsCeiling ∧
    (s.accept i a).arbiter.batteryCeiling = s.arbiter.batteryCeiling ∧
    (s.accept i a).arbiter.staggerInterval = s.arbiter.staggerInterval ∧
    (s.accept i a).ceilingInForce = s.ceilingInForce := by
  unfold State.accept
  (try simp only [])
  (repeat' apply And.intro)
  all_goals first
    | (simp; done)
    | (intro j
       by_cases h : j = i
       · subst h; simp [State.profileOf, State.covered, State.frozen, State.standingOf]
       · simp [h, State.profileOf, State.covered, State.frozen, State.standingOf])

/-- A plain frame changes its lane and the trunk port at most. -/
@[simp] theorem State.takePlain_frame (s : State) (i : SlotId) (f : FrameBody) (a : Action) :
    (s.takePlain i f a).now = s.now ∧ (s.takePlain i f a).kindMap = s.kindMap ∧ (s.takePlain i f a).slots = s.slots ∧
    (s.takePlain i f a).profiles = s.profiles ∧ (s.takePlain i f a).arbiter = s.arbiter ∧
    (s.takePlain i f a).nodes = s.nodes ∧ (s.takePlain i f a).rules = s.rules ∧
    (s.takePlain i f a).classes = s.classes ∧ (s.takePlain i f a).zones = s.zones ∧
    (s.takePlain i f a).groups = s.groups ∧ (s.takePlain i f a).supply = s.supply ∧
    (s.takePlain i f a).mgmt = s.mgmt ∧ (s.takePlain i f a).pending = s.pending ∧
    (∀ j, (s.takePlain i f a).slot j = s.slot j) ∧ (∀ m, (s.takePlain i f a).node m = s.node m) ∧
    (∀ c, (s.takePlain i f a).cls c = s.cls c) ∧ (∀ k, (s.takePlain i f a).rule k = s.rule k) ∧
    (∀ g, (s.takePlain i f a).group g = s.group g) ∧ (∀ j, (s.takePlain i f a).profileOf j = s.profileOf j) ∧
    (∀ j, (s.takePlain i f a).covered j = s.covered j) ∧ (∀ j, (s.takePlain i f a).frozen j = s.frozen j) ∧
    (s.takePlain i f a).ceilingInForce = s.ceilingInForce ∧ (s.takePlain i f a).examined = s.examined := by
  unfold State.takePlain
  (repeat' split) <;> simp

/-- A governed frame changes what an acceptance changes. -/
@[simp] theorem State.takeGoverned_frame (s : State) (i : SlotId) (f : FrameBody) (a : Action) :
    (s.takeGoverned i f a).now = s.now ∧ (s.takeGoverned i f a).kindMap = s.kindMap ∧
    (s.takeGoverned i f a).profiles = s.profiles ∧ (s.takeGoverned i f a).nodes = s.nodes ∧
    (s.takeGoverned i f a).rules = s.rules ∧ (s.takeGoverned i f a).classes = s.classes ∧
    (s.takeGoverned i f a).zones = s.zones ∧ (s.takeGoverned i f a).supply = s.supply ∧
    (s.takeGoverned i f a).mgmt = s.mgmt ∧ (s.takeGoverned i f a).pending = s.pending ∧
    (∀ m, (s.takeGoverned i f a).node m = s.node m) ∧ (∀ c, (s.takeGoverned i f a).cls c = s.cls c) ∧
    (∀ k, (s.takeGoverned i f a).rule k = s.rule k) ∧
    (∀ j, ((s.takeGoverned i f a).slot j).present = (s.slot j).present) ∧
    (∀ j, ((s.takeGoverned i f a).slot j).input = (s.slot j).input) ∧
    (∀ j, ((s.takeGoverned i f a).slot j).debounceExpiry = (s.slot j).debounceExpiry) ∧
    (∀ j, ((s.takeGoverned i f a).slot j).inService = (s.slot j).inService) ∧
    (∀ j, ((s.takeGoverned i f a).slot j).zone = (s.slot j).zone) ∧
    (∀ j, ((s.takeGoverned i f a).slot j).profile = (s.slot j).profile) ∧
    (∀ j, ((s.takeGoverned i f a).slot j).shedClass = (s.slot j).shedClass) ∧
    (∀ j, (s.takeGoverned i f a).profileOf j = s.profileOf j) ∧
    (∀ j, (s.takeGoverned i f a).covered j = s.covered j) ∧ (∀ j, (s.takeGoverned i f a).frozen j = s.frozen j) ∧
    (s.takeGoverned i f a).arbiter.priorityMap = s.arbiter.priorityMap ∧
    (s.takeGoverned i f a).arbiter.groupQueue = s.arbiter.groupQueue ∧
    (s.takeGoverned i f a).arbiter.groupByPriority = s.arbiter.groupByPriority ∧
    (s.takeGoverned i f a).arbiter.mainsCeiling = s.arbiter.mainsCeiling ∧
    (s.takeGoverned i f a).arbiter.batteryCeiling = s.arbiter.batteryCeiling ∧
    (s.takeGoverned i f a).arbiter.staggerInterval = s.arbiter.staggerInterval ∧
    (s.takeGoverned i f a).ceilingInForce = s.ceilingInForce := by
  unfold State.takeGoverned
  (repeat' split) <;> simp

/-- A slot frame changes what an acceptance changes. -/
@[simp] theorem State.takeSlotFrame_frame (s : State) (i : SlotId) (f : FrameBody) :
    (s.takeSlotFrame i f).now = s.now ∧ (s.takeSlotFrame i f).kindMap = s.kindMap ∧
    (s.takeSlotFrame i f).profiles = s.profiles ∧ (s.takeSlotFrame i f).nodes = s.nodes ∧
    (s.takeSlotFrame i f).rules = s.rules ∧ (s.takeSlotFrame i f).classes = s.classes ∧
    (s.takeSlotFrame i f).zones = s.zones ∧ (s.takeSlotFrame i f).supply = s.supply ∧
    (s.takeSlotFrame i f).mgmt = s.mgmt ∧ (s.takeSlotFrame i f).pending = s.pending ∧
    (∀ m, (s.takeSlotFrame i f).node m = s.node m) ∧ (∀ c, (s.takeSlotFrame i f).cls c = s.cls c) ∧
    (∀ k, (s.takeSlotFrame i f).rule k = s.rule k) ∧
    (∀ j, ((s.takeSlotFrame i f).slot j).present = (s.slot j).present) ∧
    (∀ j, ((s.takeSlotFrame i f).slot j).input = (s.slot j).input) ∧
    (∀ j, ((s.takeSlotFrame i f).slot j).debounceExpiry = (s.slot j).debounceExpiry) ∧
    (∀ j, ((s.takeSlotFrame i f).slot j).inService = (s.slot j).inService) ∧
    (∀ j, ((s.takeSlotFrame i f).slot j).zone = (s.slot j).zone) ∧
    (∀ j, ((s.takeSlotFrame i f).slot j).profile = (s.slot j).profile) ∧
    (∀ j, ((s.takeSlotFrame i f).slot j).shedClass = (s.slot j).shedClass) ∧
    (∀ j, (s.takeSlotFrame i f).profileOf j = s.profileOf j) ∧ (∀ j, (s.takeSlotFrame i f).covered j = s.covered j) ∧
    (∀ j, (s.takeSlotFrame i f).frozen j = s.frozen j) ∧
    (s.takeSlotFrame i f).arbiter.priorityMap = s.arbiter.priorityMap ∧
    (s.takeSlotFrame i f).arbiter.groupQueue = s.arbiter.groupQueue ∧
    (s.takeSlotFrame i f).arbiter.groupByPriority = s.arbiter.groupByPriority ∧
    (s.takeSlotFrame i f).arbiter.mainsCeiling = s.arbiter.mainsCeiling ∧
    (s.takeSlotFrame i f).arbiter.batteryCeiling = s.arbiter.batteryCeiling ∧
    (s.takeSlotFrame i f).arbiter.staggerInterval = s.arbiter.staggerInterval ∧
    (s.takeSlotFrame i f).ceilingInForce = s.ceilingInForce := by
  unfold State.takeSlotFrame
  (try simp only [])
  (repeat' split) <;> simp

/-- A slot frame's event changes what an acceptance and its conclusion change. -/
@[simp] theorem State.slotFrameEvent_frame (s : State) (i : SlotId) (f : FrameBody) :
    (s.slotFrameEvent i f).now = s.now ∧ (s.slotFrameEvent i f).kindMap = s.kindMap ∧
    (s.slotFrameEvent i f).profiles = s.profiles ∧ (s.slotFrameEvent i f).nodes = s.nodes ∧
    (s.slotFrameEvent i f).rules = s.rules ∧ (s.slotFrameEvent i f).classes = s.classes ∧
    (s.slotFrameEvent i f).zones = s.zones ∧ (s.slotFrameEvent i f).pending = s.pending ∧
    (∀ m, (s.slotFrameEvent i f).node m = s.node m) ∧ (∀ c, (s.slotFrameEvent i f).cls c = s.cls c) ∧
    (∀ k, (s.slotFrameEvent i f).rule k = s.rule k) ∧
    (∀ j, ((s.slotFrameEvent i f).slot j).present = (s.slot j).present) ∧
    (∀ j, ((s.slotFrameEvent i f).slot j).input = (s.slot j).input) ∧
    (∀ j, ((s.slotFrameEvent i f).slot j).debounceExpiry = (s.slot j).debounceExpiry) ∧
    (∀ j, ((s.slotFrameEvent i f).slot j).inService = (s.slot j).inService) ∧
    (∀ j, ((s.slotFrameEvent i f).slot j).zone = (s.slot j).zone) ∧
    (∀ j, ((s.slotFrameEvent i f).slot j).profile = (s.slot j).profile) ∧
    (∀ j, ((s.slotFrameEvent i f).slot j).shedClass = (s.slot j).shedClass) ∧
    (∀ j, (s.slotFrameEvent i f).profileOf j = s.profileOf j) ∧
    (∀ j, (s.slotFrameEvent i f).covered j = s.covered j) ∧ (∀ j, (s.slotFrameEvent i f).frozen j = s.frozen j) ∧
    (s.slotFrameEvent i f).arbiter.priorityMap = s.arbiter.priorityMap ∧
    (s.slotFrameEvent i f).arbiter.groupQueue = s.arbiter.groupQueue ∧
    (s.slotFrameEvent i f).arbiter.groupByPriority = s.arbiter.groupByPriority ∧
    (s.slotFrameEvent i f).arbiter.mainsCeiling = s.arbiter.mainsCeiling ∧
    (s.slotFrameEvent i f).arbiter.batteryCeiling = s.arbiter.batteryCeiling ∧
    (s.slotFrameEvent i f).arbiter.staggerInterval = s.arbiter.staggerInterval ∧
    (s.slotFrameEvent i f).supply.line = s.supply.line ∧ (s.slotFrameEvent i f).supply.source = s.supply.source ∧
    (s.slotFrameEvent i f).supply.debounceExpiry = s.supply.debounceExpiry ∧
    (s.slotFrameEvent i f).ceilingInForce = s.ceilingInForce ∧ (s.slotFrameEvent i f).mgmt.mode = s.mgmt.mode ∧
    (s.slotFrameEvent i f).mgmt.timing = s.mgmt.timing ∧ (s.slotFrameEvent i f).mgmt.enables = s.mgmt.enables := by
  unfold State.slotFrameEvent State.withRoom
  (try simp only [])
  (repeat' split) <;> simp

/-- A member's step changes what an acceptance changes. -/
@[simp] theorem State.takeMember_frame (s : State) (g : GroupId) (r : GroupRecord) (i : SlotId) :
    (s.takeMember g r i).now = s.now ∧ (s.takeMember g r i).kindMap = s.kindMap ∧
    (s.takeMember g r i).profiles = s.profiles ∧ (s.takeMember g r i).nodes = s.nodes ∧
    (s.takeMember g r i).rules = s.rules ∧ (s.takeMember g r i).classes = s.classes ∧
    (s.takeMember g r i).zones = s.zones ∧ (s.takeMember g r i).supply = s.supply ∧
    (s.takeMember g r i).mgmt = s.mgmt ∧ (s.takeMember g r i).pending = s.pending ∧
    (∀ m, (s.takeMember g r i).node m = s.node m) ∧ (∀ c, (s.takeMember g r i).cls c = s.cls c) ∧
    (∀ k, (s.takeMember g r i).rule k = s.rule k) ∧
    (∀ j, ((s.takeMember g r i).slot j).present = (s.slot j).present) ∧
    (∀ j, ((s.takeMember g r i).slot j).input = (s.slot j).input) ∧
    (∀ j, ((s.takeMember g r i).slot j).debounceExpiry = (s.slot j).debounceExpiry) ∧
    (∀ j, ((s.takeMember g r i).slot j).inService = (s.slot j).inService) ∧
    (∀ j, ((s.takeMember g r i).slot j).zone = (s.slot j).zone) ∧
    (∀ j, ((s.takeMember g r i).slot j).profile = (s.slot j).profile) ∧
    (∀ j, ((s.takeMember g r i).slot j).shedClass = (s.slot j).shedClass) ∧
    (∀ j, (s.takeMember g r i).profileOf j = s.profileOf j) ∧ (∀ j, (s.takeMember g r i).covered j = s.covered j) ∧
    (∀ j, (s.takeMember g r i).frozen j = s.frozen j) ∧
    (s.takeMember g r i).arbiter.priorityMap = s.arbiter.priorityMap ∧
    (s.takeMember g r i).arbiter.groupQueue = s.arbiter.groupQueue ∧
    (s.takeMember g r i).arbiter.groupByPriority = s.arbiter.groupByPriority ∧
    (s.takeMember g r i).arbiter.mainsCeiling = s.arbiter.mainsCeiling ∧
    (s.takeMember g r i).arbiter.batteryCeiling = s.arbiter.batteryCeiling ∧
    (s.takeMember g r i).arbiter.staggerInterval = s.arbiter.staggerInterval ∧
    (s.takeMember g r i).ceilingInForce = s.ceilingInForce := by
  unfold State.takeMember
  (repeat' split) <;> simp

/-- A fan-out changes what its members' steps change. -/
@[simp] theorem State.openGroup_frame (s : State) (g : GroupId) (r : GroupRecord) :
    (s.openGroup g r).now = s.now ∧ (s.openGroup g r).kindMap = s.kindMap ∧ (s.openGroup g r).profiles = s.profiles ∧
    (s.openGroup g r).nodes = s.nodes ∧ (s.openGroup g r).rules = s.rules ∧ (s.openGroup g r).classes = s.classes ∧
    (s.openGroup g r).zones = s.zones ∧ (s.openGroup g r).supply = s.supply ∧ (s.openGroup g r).mgmt = s.mgmt ∧
    (s.openGroup g r).pending = s.pending ∧ (∀ m, (s.openGroup g r).node m = s.node m) ∧
    (∀ c, (s.openGroup g r).cls c = s.cls c) ∧ (∀ k, (s.openGroup g r).rule k = s.rule k) ∧
    (∀ j, ((s.openGroup g r).slot j).present = (s.slot j).present) ∧
    (∀ j, ((s.openGroup g r).slot j).input = (s.slot j).input) ∧
    (∀ j, ((s.openGroup g r).slot j).debounceExpiry = (s.slot j).debounceExpiry) ∧
    (∀ j, ((s.openGroup g r).slot j).inService = (s.slot j).inService) ∧
    (∀ j, ((s.openGroup g r).slot j).zone = (s.slot j).zone) ∧
    (∀ j, ((s.openGroup g r).slot j).profile = (s.slot j).profile) ∧
    (∀ j, ((s.openGroup g r).slot j).shedClass = (s.slot j).shedClass) ∧
    (∀ j, (s.openGroup g r).profileOf j = s.profileOf j) ∧ (∀ j, (s.openGroup g r).covered j = s.covered j) ∧
    (∀ j, (s.openGroup g r).frozen j = s.frozen j) ∧ (s.openGroup g r).arbiter.priorityMap = s.arbiter.priorityMap ∧
    (s.openGroup g r).arbiter.groupQueue = s.arbiter.groupQueue ∧
    (s.openGroup g r).arbiter.groupByPriority = s.arbiter.groupByPriority ∧
    (s.openGroup g r).arbiter.mainsCeiling = s.arbiter.mainsCeiling ∧
    (s.openGroup g r).arbiter.batteryCeiling = s.arbiter.batteryCeiling ∧
    (s.openGroup g r).arbiter.staggerInterval = s.arbiter.staggerInterval ∧
    (s.openGroup g r).ceilingInForce = s.ceilingInForce := by
  unfold State.openGroup
  have h := State.forSlots_induct (P := fun t =>
    t.now = s.now ∧ t.kindMap = s.kindMap ∧ t.profiles = s.profiles ∧ t.nodes = s.nodes ∧ t.rules = s.rules ∧
    t.classes = s.classes ∧ t.zones = s.zones ∧ t.supply = s.supply ∧ t.mgmt = s.mgmt ∧ t.pending = s.pending ∧
    (∀ m, t.node m = s.node m) ∧ (∀ c, t.cls c = s.cls c) ∧ (∀ k, t.rule k = s.rule k) ∧
    (∀ j, (t.slot j).present = (s.slot j).present) ∧ (∀ j, (t.slot j).input = (s.slot j).input) ∧
    (∀ j, (t.slot j).debounceExpiry = (s.slot j).debounceExpiry) ∧
    (∀ j, (t.slot j).inService = (s.slot j).inService) ∧ (∀ j, (t.slot j).zone = (s.slot j).zone) ∧
    (∀ j, (t.slot j).profile = (s.slot j).profile) ∧ (∀ j, (t.slot j).shedClass = (s.slot j).shedClass) ∧
    (∀ j, t.profileOf j = s.profileOf j) ∧ (∀ j, t.covered j = s.covered j) ∧ (∀ j, t.frozen j = s.frozen j) ∧
    t.arbiter.priorityMap = s.arbiter.priorityMap ∧ t.arbiter.groupQueue = s.arbiter.groupQueue ∧
    t.arbiter.groupByPriority = s.arbiter.groupByPriority ∧ t.arbiter.mainsCeiling = s.arbiter.mainsCeiling ∧
    t.arbiter.batteryCeiling = s.arbiter.batteryCeiling ∧ t.arbiter.staggerInterval = s.arbiter.staggerInterval ∧
    t.ceilingInForce = s.ceilingInForce) (f := fun i t => t.takeMember g r i) r.remaining
    (t := s.takeReservation.setGroup g (some r)) (by simp) (by intro i _ t ih; simp [ih])
  simp [h]

/-- A group frame changes what a fan-out changes. -/
@[simp] theorem State.takeGroupFrame_frame (s : State) (d : GroupDest) (f : FrameBody) :
    (s.takeGroupFrame d f).now = s.now ∧ (s.takeGroupFrame d f).kindMap = s.kindMap ∧
    (s.takeGroupFrame d f).profiles = s.profiles ∧ (s.takeGroupFrame d f).nodes = s.nodes ∧
    (s.takeGroupFrame d f).rules = s.rules ∧ (s.takeGroupFrame d f).classes = s.classes ∧
    (s.takeGroupFrame d f).zones = s.zones ∧ (s.takeGroupFrame d f).supply = s.supply ∧
    (s.takeGroupFrame d f).mgmt = s.mgmt ∧ (s.takeGroupFrame d f).pending = s.pending ∧
    (∀ m, (s.takeGroupFrame d f).node m = s.node m) ∧ (∀ c, (s.takeGroupFrame d f).cls c = s.cls c) ∧
    (∀ k, (s.takeGroupFrame d f).rule k = s.rule k) ∧
    (∀ j, ((s.takeGroupFrame d f).slot j).present = (s.slot j).present) ∧
    (∀ j, ((s.takeGroupFrame d f).slot j).input = (s.slot j).input) ∧
    (∀ j, ((s.takeGroupFrame d f).slot j).debounceExpiry = (s.slot j).debounceExpiry) ∧
    (∀ j, ((s.takeGroupFrame d f).slot j).inService = (s.slot j).inService) ∧
    (∀ j, ((s.takeGroupFrame d f).slot j).zone = (s.slot j).zone) ∧
    (∀ j, ((s.takeGroupFrame d f).slot j).profile = (s.slot j).profile) ∧
    (∀ j, ((s.takeGroupFrame d f).slot j).shedClass = (s.slot j).shedClass) ∧
    (∀ j, (s.takeGroupFrame d f).profileOf j = s.profileOf j) ∧
    (∀ j, (s.takeGroupFrame d f).covered j = s.covered j) ∧ (∀ j, (s.takeGroupFrame d f).frozen j = s.frozen j) ∧
    (s.takeGroupFrame d f).arbiter.priorityMap = s.arbiter.priorityMap ∧
    (s.takeGroupFrame d f).arbiter.groupQueue = s.arbiter.groupQueue ∧
    (s.takeGroupFrame d f).arbiter.groupByPriority = s.arbiter.groupByPriority ∧
    (s.takeGroupFrame d f).arbiter.mainsCeiling = s.arbiter.mainsCeiling ∧
    (s.takeGroupFrame d f).arbiter.batteryCeiling = s.arbiter.batteryCeiling ∧
    (s.takeGroupFrame d f).arbiter.staggerInterval = s.arbiter.staggerInterval ∧
    (s.takeGroupFrame d f).ceilingInForce = s.ceilingInForce := by
  unfold State.takeGroupFrame
  (try simp only [])
  (repeat' split) <;> simp

/-- A wait deadline changes slots, lanes, the account, groups and the trunk port at most. -/
@[simp] theorem State.waitExpired_frame (s : State) (i : SlotId) :
    (s.waitExpired i).now = s.now ∧ (s.waitExpired i).kindMap = s.kindMap ∧ (s.waitExpired i).profiles = s.profiles ∧
    (s.waitExpired i).nodes = s.nodes ∧ (s.waitExpired i).rules = s.rules ∧ (s.waitExpired i).classes = s.classes ∧
    (s.waitExpired i).zones = s.zones ∧ (s.waitExpired i).supply = s.supply ∧ (s.waitExpired i).mgmt = s.mgmt ∧
    (s.waitExpired i).pending = s.pending ∧ (∀ m, (s.waitExpired i).node m = s.node m) ∧
    (∀ c, (s.waitExpired i).cls c = s.cls c) ∧ (∀ k, (s.waitExpired i).rule k = s.rule k) ∧
    (∀ j, ((s.waitExpired i).slot j).present = (s.slot j).present) ∧
    (∀ j, ((s.waitExpired i).slot j).input = (s.slot j).input) ∧
    (∀ j, ((s.waitExpired i).slot j).debounceExpiry = (s.slot j).debounceExpiry) ∧
    (∀ j, ((s.waitExpired i).slot j).inService = (s.slot j).inService) ∧
    (∀ j, ((s.waitExpired i).slot j).zone = (s.slot j).zone) ∧
    (∀ j, ((s.waitExpired i).slot j).profile = (s.slot j).profile) ∧
    (∀ j, ((s.waitExpired i).slot j).shedClass = (s.slot j).shedClass) ∧
    (∀ j, (s.waitExpired i).profileOf j = s.profileOf j) ∧ (∀ j, (s.waitExpired i).covered j = s.covered j) ∧
    (∀ j, (s.waitExpired i).frozen j = s.frozen j) ∧ (s.waitExpired i).arbiter.priorityMap = s.arbiter.priorityMap ∧
    (s.waitExpired i).arbiter.groupQueue = s.arbiter.groupQueue ∧
    (s.waitExpired i).arbiter.groupByPriority = s.arbiter.groupByPriority ∧
    (s.waitExpired i).arbiter.mainsCeiling = s.arbiter.mainsCeiling ∧
    (s.waitExpired i).arbiter.batteryCeiling = s.arbiter.batteryCeiling ∧
    (s.waitExpired i).arbiter.staggerInterval = s.arbiter.staggerInterval ∧
    (s.waitExpired i).ceilingInForce = s.ceilingInForce := by
  unfold State.waitExpired
  (repeat' apply And.intro)
  all_goals first
    | (simp; done)
    | (intro j
       by_cases h : j = i
       · subst h; simp [State.profileOf, State.covered, State.frozen, State.standingOf]
       · simp [h, State.profileOf, State.covered, State.frozen, State.standingOf])

/-- A refusal changes nothing but the trunk port. -/
@[simp] theorem State.refuse_frame (s : State) (kind : Nat) (tag : Byte) (code : AnswerCode) :
    (s.refuse kind tag code).now = s.now ∧ (s.refuse kind tag code).kindMap = s.kindMap ∧
    (s.refuse kind tag code).slots = s.slots ∧ (s.refuse kind tag code).profiles = s.profiles ∧
    (s.refuse kind tag code).lanes = s.lanes ∧ (s.refuse kind tag code).arbiter = s.arbiter ∧
    (s.refuse kind tag code).nodes = s.nodes ∧ (s.refuse kind tag code).rules = s.rules ∧
    (s.refuse kind tag code).classes = s.classes ∧ (s.refuse kind tag code).zones = s.zones ∧
    (s.refuse kind tag code).groups = s.groups ∧ (s.refuse kind tag code).supply = s.supply ∧
    (s.refuse kind tag code).mgmt = s.mgmt ∧ (s.refuse kind tag code).pending = s.pending ∧
    (∀ j, (s.refuse kind tag code).slot j = s.slot j) ∧ (∀ j, (s.refuse kind tag code).lane j = s.lane j) ∧
    (∀ m, (s.refuse kind tag code).node m = s.node m) ∧ (∀ c, (s.refuse kind tag code).cls c = s.cls c) ∧
    (∀ k, (s.refuse kind tag code).rule k = s.rule k) ∧ (∀ g, (s.refuse kind tag code).group g = s.group g) ∧
    (∀ j, (s.refuse kind tag code).profileOf j = s.profileOf j) ∧
    (∀ j, (s.refuse kind tag code).covered j = s.covered j) ∧ (∀ j, (s.refuse kind tag code).frozen j = s.frozen j) ∧
    (s.refuse kind tag code).ceilingInForce = s.ceilingInForce ∧ (s.refuse kind tag code).examined = s.examined := by
  unfold State.refuse
  simp

/-- An answer changes nothing but the trunk port. -/
@[simp] theorem State.done_frame (s : State) (kind : Nat) (tag : Byte) (payload : List Byte) :
    (s.done kind tag payload).now = s.now ∧ (s.done kind tag payload).kindMap = s.kindMap ∧
    (s.done kind tag payload).slots = s.slots ∧ (s.done kind tag payload).profiles = s.profiles ∧
    (s.done kind tag payload).lanes = s.lanes ∧ (s.done kind tag payload).arbiter = s.arbiter ∧
    (s.done kind tag payload).nodes = s.nodes ∧ (s.done kind tag payload).rules = s.rules ∧
    (s.done kind tag payload).classes = s.classes ∧ (s.done kind tag payload).zones = s.zones ∧
    (s.done kind tag payload).groups = s.groups ∧ (s.done kind tag payload).supply = s.supply ∧
    (s.done kind tag payload).mgmt = s.mgmt ∧ (s.done kind tag payload).pending = s.pending ∧
    (∀ j, (s.done kind tag payload).slot j = s.slot j) ∧ (∀ j, (s.done kind tag payload).lane j = s.lane j) ∧
    (∀ m, (s.done kind tag payload).node m = s.node m) ∧ (∀ c, (s.done kind tag payload).cls c = s.cls c) ∧
    (∀ k, (s.done kind tag payload).rule k = s.rule k) ∧ (∀ g, (s.done kind tag payload).group g = s.group g) ∧
    (∀ j, (s.done kind tag payload).profileOf j = s.profileOf j) ∧
    (∀ j, (s.done kind tag payload).covered j = s.covered j) ∧
    (∀ j, (s.done kind tag payload).frozen j = s.frozen j) ∧
    (s.done kind tag payload).ceilingInForce = s.ceilingInForce ∧ (s.done kind tag payload).examined = s.examined := by
  unfold State.done
  simp

/-- Reservations derived again change the slots and the account alone. -/
@[simp] theorem State.rederiveProfile_frame (s : State) (r : Fin 8) :
    (s.rederiveProfile r).now = s.now ∧ (s.rederiveProfile r).trunk = s.trunk ∧
    (s.rederiveProfile r).kindMap = s.kindMap ∧ (s.rederiveProfile r).profiles = s.profiles ∧
    (s.rederiveProfile r).lanes = s.lanes ∧ (s.rederiveProfile r).nodes = s.nodes ∧
    (s.rederiveProfile r).rules = s.rules ∧ (s.rederiveProfile r).classes = s.classes ∧
    (s.rederiveProfile r).zones = s.zones ∧ (s.rederiveProfile r).groups = s.groups ∧
    (s.rederiveProfile r).supply = s.supply ∧ (s.rederiveProfile r).mgmt = s.mgmt ∧
    (s.rederiveProfile r).pending = s.pending ∧ (∀ j, (s.rederiveProfile r).lane j = s.lane j) ∧
    (∀ m, (s.rederiveProfile r).node m = s.node m) ∧ (∀ c, (s.rederiveProfile r).cls c = s.cls c) ∧
    (∀ k, (s.rederiveProfile r).rule k = s.rule k) ∧ (∀ g, (s.rederiveProfile r).group g = s.group g) ∧
    (∀ j, ((s.rederiveProfile r).slot j).present = (s.slot j).present) ∧
    (∀ j, ((s.rederiveProfile r).slot j).input = (s.slot j).input) ∧
    (∀ j, ((s.rederiveProfile r).slot j).debounceExpiry = (s.slot j).debounceExpiry) ∧
    (∀ j, ((s.rederiveProfile r).slot j).inService = (s.slot j).inService) ∧
    (∀ j, ((s.rederiveProfile r).slot j).zone = (s.slot j).zone) ∧
    (∀ j, ((s.rederiveProfile r).slot j).profile = (s.slot j).profile) ∧
    (∀ j, ((s.rederiveProfile r).slot j).shedClass = (s.slot j).shedClass) ∧
    (∀ j, (s.rederiveProfile r).profileOf j = s.profileOf j) ∧ (∀ j, (s.rederiveProfile r).covered j = s.covered j) ∧
    (∀ j, (s.rederiveProfile r).frozen j = s.frozen j) ∧
    (s.rederiveProfile r).arbiter.priorityMap = s.arbiter.priorityMap ∧
    (s.rederiveProfile r).arbiter.groupQueue = s.arbiter.groupQueue ∧
    (s.rederiveProfile r).arbiter.groupByPriority = s.arbiter.groupByPriority ∧
    (s.rederiveProfile r).arbiter.mainsCeiling = s.arbiter.mainsCeiling ∧
    (s.rederiveProfile r).arbiter.batteryCeiling = s.arbiter.batteryCeiling ∧
    (s.rederiveProfile r).arbiter.staggerInterval = s.arbiter.staggerInterval ∧
    (s.rederiveProfile r).ceilingInForce = s.ceilingInForce ∧ (s.rederiveProfile r).freeEntries = s.freeEntries := by
  unfold State.rederiveProfile
  refine State.forSlots_induct (P := fun t =>
    t.now = s.now ∧ t.trunk = s.trunk ∧ t.kindMap = s.kindMap ∧ t.profiles = s.profiles ∧ t.lanes = s.lanes ∧
    t.nodes = s.nodes ∧ t.rules = s.rules ∧ t.classes = s.classes ∧ t.zones = s.zones ∧ t.groups = s.groups ∧
    t.supply = s.supply ∧ t.mgmt = s.mgmt ∧ t.pending = s.pending ∧ (∀ j, t.lane j = s.lane j) ∧
    (∀ m, t.node m = s.node m) ∧ (∀ c, t.cls c = s.cls c) ∧ (∀ k, t.rule k = s.rule k) ∧
    (∀ g, t.group g = s.group g) ∧ (∀ j, (t.slot j).present = (s.slot j).present) ∧
    (∀ j, (t.slot j).input = (s.slot j).input) ∧ (∀ j, (t.slot j).debounceExpiry = (s.slot j).debounceExpiry) ∧
    (∀ j, (t.slot j).inService = (s.slot j).inService) ∧ (∀ j, (t.slot j).zone = (s.slot j).zone) ∧
    (∀ j, (t.slot j).profile = (s.slot j).profile) ∧ (∀ j, (t.slot j).shedClass = (s.slot j).shedClass) ∧
    (∀ j, t.profileOf j = s.profileOf j) ∧ (∀ j, t.covered j = s.covered j) ∧ (∀ j, t.frozen j = s.frozen j) ∧
    t.arbiter.priorityMap = s.arbiter.priorityMap ∧ t.arbiter.groupQueue = s.arbiter.groupQueue ∧
    t.arbiter.groupByPriority = s.arbiter.groupByPriority ∧ t.arbiter.mainsCeiling = s.arbiter.mainsCeiling ∧
    t.arbiter.batteryCeiling = s.arbiter.batteryCeiling ∧ t.arbiter.staggerInterval = s.arbiter.staggerInterval ∧
    t.ceilingInForce = s.ceilingInForce ∧ t.freeEntries = s.freeEntries) _ ?_ ?_
  · simp
  · intro i _ t ih
    (repeat' split) <;> simp [ih]

/-- CLEAR_FAULT of a slot changes what an arrival changes. -/
@[simp] theorem State.clearFaultOf_frame (s : State) (i : SlotId) :
    (s.clearFaultOf i).now = s.now ∧ (s.clearFaultOf i).kindMap = s.kindMap ∧
    (s.clearFaultOf i).profiles = s.profiles ∧ (s.clearFaultOf i).nodes = s.nodes ∧
    (s.clearFaultOf i).rules = s.rules ∧ (s.clearFaultOf i).classes = s.classes ∧
    (s.clearFaultOf i).zones = s.zones ∧ (s.clearFaultOf i).supply = s.supply ∧ (s.clearFaultOf i).mgmt = s.mgmt ∧
    (s.clearFaultOf i).pending = s.pending ∧ (∀ m, (s.clearFaultOf i).node m = s.node m) ∧
    (∀ c, (s.clearFaultOf i).cls c = s.cls c) ∧ (∀ k, (s.clearFaultOf i).rule k = s.rule k) ∧
    (∀ j, ((s.clearFaultOf i).slot j).present = (s.slot j).present) ∧
    (∀ j, ((s.clearFaultOf i).slot j).input = (s.slot j).input) ∧
    (∀ j, ((s.clearFaultOf i).slot j).debounceExpiry = (s.slot j).debounceExpiry) ∧
    (∀ j, ((s.clearFaultOf i).slot j).inService = (s.slot j).inService) ∧
    (∀ j, ((s.clearFaultOf i).slot j).zone = (s.slot j).zone) ∧
    (∀ j, ((s.clearFaultOf i).slot j).profile = (s.slot j).profile) ∧
    (∀ j, ((s.clearFaultOf i).slot j).shedClass = (s.slot j).shedClass) ∧
    (∀ j, (s.clearFaultOf i).profileOf j = s.profileOf j) ∧ (∀ j, (s.clearFaultOf i).covered j = s.covered j) ∧
    (∀ j, (s.clearFaultOf i).frozen j = s.frozen j) ∧
    (s.clearFaultOf i).arbiter.priorityMap = s.arbiter.priorityMap ∧
    (s.clearFaultOf i).arbiter.groupQueue = s.arbiter.groupQueue ∧
    (s.clearFaultOf i).arbiter.groupByPriority = s.arbiter.groupByPriority ∧
    (s.clearFaultOf i).arbiter.mainsCeiling = s.arbiter.mainsCeiling ∧
    (s.clearFaultOf i).arbiter.batteryCeiling = s.arbiter.batteryCeiling ∧
    (s.clearFaultOf i).arbiter.staggerInterval = s.arbiter.staggerInterval ∧
    (s.clearFaultOf i).ceilingInForce = s.ceilingInForce := by
  unfold State.clearFaultOf
  (repeat' split) <;> (repeat' apply And.intro)
  all_goals first
    | (simp; done)
    | (intro j
       by_cases h : j = i
       · subst h; simp [State.profileOf, State.covered, State.frozen, State.standingOf]
       · simp [h, State.profileOf, State.covered, State.frozen, State.standingOf])

/-- WITHDRAW of a slot changes what its outcome and its move change. -/
@[simp] theorem State.withdrawSlot_frame (s : State) (i : SlotId) :
    (s.withdrawSlot i).now = s.now ∧ (s.withdrawSlot i).kindMap = s.kindMap ∧
    (s.withdrawSlot i).profiles = s.profiles ∧ (s.withdrawSlot i).nodes = s.nodes ∧
    (s.withdrawSlot i).rules = s.rules ∧ (s.withdrawSlot i).classes = s.classes ∧
    (s.withdrawSlot i).zones = s.zones ∧ (s.withdrawSlot i).supply = s.supply ∧ (s.withdrawSlot i).mgmt = s.mgmt ∧
    (s.withdrawSlot i).pending = s.pending ∧ (∀ m, (s.withdrawSlot i).node m = s.node m) ∧
    (∀ c, (s.withdrawSlot i).cls c = s.cls c) ∧ (∀ k, (s.withdrawSlot i).rule k = s.rule k) ∧
    (∀ j, ((s.withdrawSlot i).slot j).present = (s.slot j).present) ∧
    (∀ j, ((s.withdrawSlot i).slot j).input = (s.slot j).input) ∧
    (∀ j, ((s.withdrawSlot i).slot j).debounceExpiry = (s.slot j).debounceExpiry) ∧
    (∀ j, ((s.withdrawSlot i).slot j).zone = (s.slot j).zone) ∧
    (∀ j, ((s.withdrawSlot i).slot j).profile = (s.slot j).profile) ∧
    (∀ j, ((s.withdrawSlot i).slot j).shedClass = (s.slot j).shedClass) ∧
    (∀ j, (s.withdrawSlot i).profileOf j = s.profileOf j) ∧ (∀ j, (s.withdrawSlot i).covered j = s.covered j) ∧
    (∀ j, (s.withdrawSlot i).frozen j = s.frozen j) ∧
    (s.withdrawSlot i).arbiter.priorityMap = s.arbiter.priorityMap ∧
    (s.withdrawSlot i).arbiter.groupQueue = s.arbiter.groupQueue ∧
    (s.withdrawSlot i).arbiter.groupByPriority = s.arbiter.groupByPriority ∧
    (s.withdrawSlot i).arbiter.mainsCeiling = s.arbiter.mainsCeiling ∧
    (s.withdrawSlot i).arbiter.batteryCeiling = s.arbiter.batteryCeiling ∧
    (s.withdrawSlot i).arbiter.staggerInterval = s.arbiter.staggerInterval ∧
    (s.withdrawSlot i).ceilingInForce = s.ceilingInForce := by
  unfold State.withdrawSlot
  (repeat' split) <;> (repeat' apply And.intro)
  all_goals first
    | (simp; done)
    | (intro j
       by_cases h : j = i
       · subst h; simp [State.profileOf, State.covered, State.frozen, State.standingOf]
       · simp [h, State.profileOf, State.covered, State.frozen, State.standingOf])

/-- RESTORE of a slot changes what its move changes. -/
@[simp] theorem State.restoreSlot_frame (s : State) (i : SlotId) :
    (s.restoreSlot i).now = s.now ∧ (s.restoreSlot i).kindMap = s.kindMap ∧ (s.restoreSlot i).profiles = s.profiles ∧
    (s.restoreSlot i).nodes = s.nodes ∧ (s.restoreSlot i).rules = s.rules ∧ (s.restoreSlot i).classes = s.classes ∧
    (s.restoreSlot i).zones = s.zones ∧ (s.restoreSlot i).supply = s.supply ∧ (s.restoreSlot i).mgmt = s.mgmt ∧
    (s.restoreSlot i).pending = s.pending ∧ (∀ m, (s.restoreSlot i).node m = s.node m) ∧
    (∀ c, (s.restoreSlot i).cls c = s.cls c) ∧ (∀ k, (s.restoreSlot i).rule k = s.rule k) ∧
    (∀ j, ((s.restoreSlot i).slot j).present = (s.slot j).present) ∧
    (∀ j, ((s.restoreSlot i).slot j).input = (s.slot j).input) ∧
    (∀ j, ((s.restoreSlot i).slot j).debounceExpiry = (s.slot j).debounceExpiry) ∧
    (∀ j, ((s.restoreSlot i).slot j).zone = (s.slot j).zone) ∧
    (∀ j, ((s.restoreSlot i).slot j).profile = (s.slot j).profile) ∧
    (∀ j, ((s.restoreSlot i).slot j).shedClass = (s.slot j).shedClass) ∧
    (∀ j, (s.restoreSlot i).profileOf j = s.profileOf j) ∧ (∀ j, (s.restoreSlot i).covered j = s.covered j) ∧
    (∀ j, (s.restoreSlot i).frozen j = s.frozen j) ∧ (s.restoreSlot i).arbiter.priorityMap = s.arbiter.priorityMap ∧
    (s.restoreSlot i).arbiter.groupQueue = s.arbiter.groupQueue ∧
    (s.restoreSlot i).arbiter.groupByPriority = s.arbiter.groupByPriority ∧
    (s.restoreSlot i).arbiter.mainsCeiling = s.arbiter.mainsCeiling ∧
    (s.restoreSlot i).arbiter.batteryCeiling = s.arbiter.batteryCeiling ∧
    (s.restoreSlot i).arbiter.staggerInterval = s.arbiter.staggerInterval ∧
    (s.restoreSlot i).ceilingInForce = s.ceilingInForce := by
  unfold State.restoreSlot
  (repeat' split) <;> (repeat' apply And.intro)
  all_goals first
    | (simp; done)
    | (intro j
       by_cases h : j = i
       · subst h; simp [State.profileOf, State.covered, State.frozen, State.standingOf]
       · simp [h, State.profileOf, State.covered, State.frozen, State.standingOf])

/-- A carrier gained changes what an arrival changes. -/
@[simp] theorem State.presenceGained_frame (s : State) (i : SlotId) :
    (s.presenceGained i).now = s.now ∧ (s.presenceGained i).kindMap = s.kindMap ∧
    (s.presenceGained i).profiles = s.profiles ∧ (s.presenceGained i).nodes = s.nodes ∧
    (s.presenceGained i).rules = s.rules ∧ (s.presenceGained i).classes = s.classes ∧
    (s.presenceGained i).zones = s.zones ∧ (s.presenceGained i).supply = s.supply ∧
    (s.presenceGained i).mgmt = s.mgmt ∧ (s.presenceGained i).pending = s.pending ∧
    (∀ m, (s.presenceGained i).node m = s.node m) ∧ (∀ c, (s.presenceGained i).cls c = s.cls c) ∧
    (∀ k, (s.presenceGained i).rule k = s.rule k) ∧
    (∀ j, ((s.presenceGained i).slot j).present = (s.slot j).present) ∧
    (∀ j, ((s.presenceGained i).slot j).input = (s.slot j).input) ∧
    (∀ j, ((s.presenceGained i).slot j).debounceExpiry = (s.slot j).debounceExpiry) ∧
    (∀ j, ((s.presenceGained i).slot j).inService = (s.slot j).inService) ∧
    (∀ j, ((s.presenceGained i).slot j).zone = (s.slot j).zone) ∧
    (∀ j, ((s.presenceGained i).slot j).profile = (s.slot j).profile) ∧
    (∀ j, ((s.presenceGained i).slot j).shedClass = (s.slot j).shedClass) ∧
    (∀ j, (s.presenceGained i).profileOf j = s.profileOf j) ∧ (∀ j, (s.presenceGained i).covered j = s.covered j) ∧
    (∀ j, (s.presenceGained i).frozen j = s.frozen j) ∧
    (s.presenceGained i).arbiter.priorityMap = s.arbiter.priorityMap ∧
    (s.presenceGained i).arbiter.groupQueue = s.arbiter.groupQueue ∧
    (s.presenceGained i).arbiter.groupByPriority = s.arbiter.groupByPriority ∧
    (s.presenceGained i).arbiter.mainsCeiling = s.arbiter.mainsCeiling ∧
    (s.presenceGained i).arbiter.batteryCeiling = s.arbiter.batteryCeiling ∧
    (s.presenceGained i).arbiter.staggerInterval = s.arbiter.staggerInterval ∧
    (s.presenceGained i).ceilingInForce = s.ceilingInForce := by
  unfold State.presenceGained
  (repeat' apply And.intro)
  all_goals first
    | (simp; done)
    | (intro j
       by_cases h : j = i
       · subst h; simp [State.profileOf, State.covered, State.frozen, State.standingOf]
       · simp [h, State.profileOf, State.covered, State.frozen, State.standingOf])

/-- A lane abandoned changes the lane and the trunk port at most. -/
@[simp] theorem State.laneGone_frame (s : State) (i : SlotId) :
    (s.laneGone i).now = s.now ∧ (s.laneGone i).kindMap = s.kindMap ∧ (s.laneGone i).slots = s.slots ∧
    (s.laneGone i).profiles = s.profiles ∧ (s.laneGone i).arbiter = s.arbiter ∧ (s.laneGone i).nodes = s.nodes ∧
    (s.laneGone i).rules = s.rules ∧ (s.laneGone i).classes = s.classes ∧ (s.laneGone i).zones = s.zones ∧
    (s.laneGone i).groups = s.groups ∧ (s.laneGone i).supply = s.supply ∧ (s.laneGone i).mgmt = s.mgmt ∧
    (s.laneGone i).pending = s.pending ∧ (∀ j, (s.laneGone i).slot j = s.slot j) ∧
    (∀ m, (s.laneGone i).node m = s.node m) ∧ (∀ c, (s.laneGone i).cls c = s.cls c) ∧
    (∀ k, (s.laneGone i).rule k = s.rule k) ∧ (∀ g, (s.laneGone i).group g = s.group g) ∧
    (∀ j, (s.laneGone i).profileOf j = s.profileOf j) ∧ (∀ j, (s.laneGone i).covered j = s.covered j) ∧
    (∀ j, (s.laneGone i).frozen j = s.frozen j) ∧ (s.laneGone i).ceilingInForce = s.ceilingInForce ∧
    (s.laneGone i).examined = s.examined := by
  unfold State.laneGone
  (try simp only [])
  (repeat' split) <;> simp

/-- A carrier lost changes slots, lanes, the account, groups and the trunk port at most. -/
@[simp] theorem State.presenceLost_frame (s : State) (i : SlotId) :
    (s.presenceLost i).now = s.now ∧ (s.presenceLost i).kindMap = s.kindMap ∧
    (s.presenceLost i).profiles = s.profiles ∧ (s.presenceLost i).nodes = s.nodes ∧
    (s.presenceLost i).rules = s.rules ∧ (s.presenceLost i).classes = s.classes ∧
    (s.presenceLost i).zones = s.zones ∧ (s.presenceLost i).supply = s.supply ∧ (s.presenceLost i).mgmt = s.mgmt ∧
    (s.presenceLost i).pending = s.pending ∧ (∀ m, (s.presenceLost i).node m = s.node m) ∧
    (∀ c, (s.presenceLost i).cls c = s.cls c) ∧ (∀ k, (s.presenceLost i).rule k = s.rule k) ∧
    (∀ j, ((s.presenceLost i).slot j).present = (s.slot j).present) ∧
    (∀ j, ((s.presenceLost i).slot j).input = (s.slot j).input) ∧
    (∀ j, ((s.presenceLost i).slot j).debounceExpiry = (s.slot j).debounceExpiry) ∧
    (∀ j, ((s.presenceLost i).slot j).inService = (s.slot j).inService) ∧
    (∀ j, ((s.presenceLost i).slot j).zone = (s.slot j).zone) ∧
    (∀ j, ((s.presenceLost i).slot j).profile = (s.slot j).profile) ∧
    (∀ j, ((s.presenceLost i).slot j).shedClass = (s.slot j).shedClass) ∧
    (∀ j, (s.presenceLost i).profileOf j = s.profileOf j) ∧ (∀ j, (s.presenceLost i).covered j = s.covered j) ∧
    (∀ j, (s.presenceLost i).frozen j = s.frozen j) ∧
    (s.presenceLost i).arbiter.priorityMap = s.arbiter.priorityMap ∧
    (s.presenceLost i).arbiter.groupQueue = s.arbiter.groupQueue ∧
    (s.presenceLost i).arbiter.groupByPriority = s.arbiter.groupByPriority ∧
    (s.presenceLost i).arbiter.mainsCeiling = s.arbiter.mainsCeiling ∧
    (s.presenceLost i).arbiter.batteryCeiling = s.arbiter.batteryCeiling ∧
    (s.presenceLost i).arbiter.staggerInterval = s.arbiter.staggerInterval ∧
    (s.presenceLost i).ceilingInForce = s.ceilingInForce := by
  unfold State.presenceLost
  (try simp only [])
  (repeat' apply And.intro)
  all_goals first
    | (simp; done)
    | (intro j
       by_cases h : j = i
       · subst h; simp [State.profileOf, State.covered, State.frozen, State.standingOf]
       · simp [h, State.profileOf, State.covered, State.frozen, State.standingOf])

/-- A plain op settled changes its lane and the trunk port. -/
@[simp] theorem State.settlePlain_frame (s : State) (i : SlotId) (p : PlainRecord) (o : OpOutcome) (payload : List Byte) :
    (s.settlePlain i p o payload).now = s.now ∧ (s.settlePlain i p o payload).kindMap = s.kindMap ∧
    (s.settlePlain i p o payload).slots = s.slots ∧ (s.settlePlain i p o payload).profiles = s.profiles ∧
    (s.settlePlain i p o payload).arbiter = s.arbiter ∧ (s.settlePlain i p o payload).nodes = s.nodes ∧
    (s.settlePlain i p o payload).rules = s.rules ∧ (s.settlePlain i p o payload).classes = s.classes ∧
    (s.settlePlain i p o payload).zones = s.zones ∧ (s.settlePlain i p o payload).groups = s.groups ∧
    (s.settlePlain i p o payload).supply = s.supply ∧ (s.settlePlain i p o payload).mgmt = s.mgmt ∧
    (s.settlePlain i p o payload).pending = s.pending ∧ (∀ j, (s.settlePlain i p o payload).slot j = s.slot j) ∧
    (∀ m, (s.settlePlain i p o payload).node m = s.node m) ∧ (∀ c, (s.settlePlain i p o payload).cls c = s.cls c) ∧
    (∀ k, (s.settlePlain i p o payload).rule k = s.rule k) ∧
    (∀ g, (s.settlePlain i p o payload).group g = s.group g) ∧
    (∀ j, (s.settlePlain i p o payload).profileOf j = s.profileOf j) ∧
    (∀ j, (s.settlePlain i p o payload).covered j = s.covered j) ∧
    (∀ j, (s.settlePlain i p o payload).frozen j = s.frozen j) ∧
    (s.settlePlain i p o payload).ceilingInForce = s.ceilingInForce ∧
    (s.settlePlain i p o payload).examined = s.examined := by
  unfold State.settlePlain
  simp

/-- A governed op settled changes no table, node, class or zone. -/
@[simp] theorem State.settleGoverned_frame (s : State) (i : SlotId) (g : GovernedRecord) (o : OpOutcome) (report : Option Byte) :
    (s.settleGoverned i g o report).now = s.now ∧ (s.settleGoverned i g o report).kindMap = s.kindMap ∧
    (s.settleGoverned i g o report).profiles = s.profiles ∧ (s.settleGoverned i g o report).nodes = s.nodes ∧
    (s.settleGoverned i g o report).rules = s.rules ∧ (s.settleGoverned i g o report).classes = s.classes ∧
    (s.settleGoverned i g o report).zones = s.zones ∧ (s.settleGoverned i g o report).supply = s.supply ∧
    (s.settleGoverned i g o report).pending = s.pending ∧ (∀ m, (s.settleGoverned i g o report).node m = s.node m) ∧
    (∀ c, (s.settleGoverned i g o report).cls c = s.cls c) ∧
    (∀ k, (s.settleGoverned i g o report).rule k = s.rule k) ∧
    (∀ j, ((s.settleGoverned i g o report).slot j).present = (s.slot j).present) ∧
    (∀ j, ((s.settleGoverned i g o report).slot j).input = (s.slot j).input) ∧
    (∀ j, ((s.settleGoverned i g o report).slot j).debounceExpiry = (s.slot j).debounceExpiry) ∧
    (∀ j, ((s.settleGoverned i g o report).slot j).inService = (s.slot j).inService) ∧
    (∀ j, ((s.settleGoverned i g o report).slot j).zone = (s.slot j).zone) ∧
    (∀ j, ((s.settleGoverned i g o report).slot j).profile = (s.slot j).profile) ∧
    (∀ j, ((s.settleGoverned i g o report).slot j).shedClass = (s.slot j).shedClass) ∧
    (∀ j, (s.settleGoverned i g o report).profileOf j = s.profileOf j) ∧
    (∀ j, (s.settleGoverned i g o report).covered j = s.covered j) ∧
    (∀ j, (s.settleGoverned i g o report).frozen j = s.frozen j) ∧
    (s.settleGoverned i g o report).arbiter.priorityMap = s.arbiter.priorityMap ∧
    (s.settleGoverned i g o report).arbiter.groupQueue = s.arbiter.groupQueue ∧
    (s.settleGoverned i g o report).arbiter.groupByPriority = s.arbiter.groupByPriority ∧
    (s.settleGoverned i g o report).arbiter.mainsCeiling = s.arbiter.mainsCeiling ∧
    (s.settleGoverned i g o report).arbiter.batteryCeiling = s.arbiter.batteryCeiling ∧
    (s.settleGoverned i g o report).arbiter.staggerInterval = s.arbiter.staggerInterval ∧
    (s.settleGoverned i g o report).ceilingInForce = s.ceilingInForce ∧
    (s.settleGoverned i g o report).mgmt.mode = s.mgmt.mode ∧
    (s.settleGoverned i g o report).mgmt.timing = s.mgmt.timing ∧
    (s.settleGoverned i g o report).mgmt.enables = s.mgmt.enables := by
  unfold State.settleGoverned
  (repeat' split) <;> simp

/-- A preempting op settled changes no table, node, class or zone. -/
@[simp] theorem State.settlePreempting_frame (s : State) (i : SlotId) (p : PreemptingRecord) (o : OpOutcome) (report : Option Byte) :
    (s.settlePreempting i p o report).now = s.now ∧ (s.settlePreempting i p o report).kindMap = s.kindMap ∧
    (s.settlePreempting i p o report).profiles = s.profiles ∧ (s.settlePreempting i p o report).nodes = s.nodes ∧
    (s.settlePreempting i p o report).rules = s.rules ∧ (s.settlePreempting i p o report).classes = s.classes ∧
    (s.settlePreempting i p o report).zones = s.zones ∧ (s.settlePreempting i p o report).supply = s.supply ∧
    (s.settlePreempting i p o report).pending = s.pending ∧
    (∀ m, (s.settlePreempting i p o report).node m = s.node m) ∧
    (∀ c, (s.settlePreempting i p o report).cls c = s.cls c) ∧
    (∀ k, (s.settlePreempting i p o report).rule k = s.rule k) ∧
    (∀ j, ((s.settlePreempting i p o report).slot j).present = (s.slot j).present) ∧
    (∀ j, ((s.settlePreempting i p o report).slot j).input = (s.slot j).input) ∧
    (∀ j, ((s.settlePreempting i p o report).slot j).debounceExpiry = (s.slot j).debounceExpiry) ∧
    (∀ j, ((s.settlePreempting i p o report).slot j).inService = (s.slot j).inService) ∧
    (∀ j, ((s.settlePreempting i p o report).slot j).zone = (s.slot j).zone) ∧
    (∀ j, ((s.settlePreempting i p o report).slot j).profile = (s.slot j).profile) ∧
    (∀ j, ((s.settlePreempting i p o report).slot j).shedClass = (s.slot j).shedClass) ∧
    (∀ j, (s.settlePreempting i p o report).profileOf j = s.profileOf j) ∧
    (∀ j, (s.settlePreempting i p o report).covered j = s.covered j) ∧
    (∀ j, (s.settlePreempting i p o report).frozen j = s.frozen j) ∧
    (s.settlePreempting i p o report).arbiter.priorityMap = s.arbiter.priorityMap ∧
    (s.settlePreempting i p o report).arbiter.groupQueue = s.arbiter.groupQueue ∧
    (s.settlePreempting i p o report).arbiter.groupByPriority = s.arbiter.groupByPriority ∧
    (s.settlePreempting i p o report).arbiter.mainsCeiling = s.arbiter.mainsCeiling ∧
    (s.settlePreempting i p o report).arbiter.batteryCeiling = s.arbiter.batteryCeiling ∧
    (s.settlePreempting i p o report).arbiter.staggerInterval = s.arbiter.staggerInterval ∧
    (s.settlePreempting i p o report).ceilingInForce = s.ceilingInForce ∧
    (s.settlePreempting i p o report).mgmt.mode = s.mgmt.mode ∧
    (s.settlePreempting i p o report).mgmt.timing = s.mgmt.timing ∧
    (s.settlePreempting i p o report).mgmt.enables = s.mgmt.enables := by
  unfold State.settlePreempting
  simp

/-- A late report changes its slot's count and its lane. -/
@[simp] theorem State.lateReport_frame (s : State) (i : SlotId) (tag : Byte) :
    (s.lateReport i tag).now = s.now ∧ (s.lateReport i tag).trunk = s.trunk ∧
    (s.lateReport i tag).kindMap = s.kindMap ∧ (s.lateReport i tag).profiles = s.profiles ∧
    (s.lateReport i tag).arbiter = s.arbiter ∧ (s.lateReport i tag).nodes = s.nodes ∧
    (s.lateReport i tag).rules = s.rules ∧ (s.lateReport i tag).classes = s.classes ∧
    (s.lateReport i tag).zones = s.zones ∧ (s.lateReport i tag).groups = s.groups ∧
    (s.lateReport i tag).supply = s.supply ∧ (s.lateReport i tag).mgmt = s.mgmt ∧
    (s.lateReport i tag).pending = s.pending ∧ (∀ m, (s.lateReport i tag).node m = s.node m) ∧
    (∀ c, (s.lateReport i tag).cls c = s.cls c) ∧ (∀ k, (s.lateReport i tag).rule k = s.rule k) ∧
    (∀ g, (s.lateReport i tag).group g = s.group g) ∧
    (∀ j, ((s.lateReport i tag).slot j).present = (s.slot j).present) ∧
    (∀ j, ((s.lateReport i tag).slot j).input = (s.slot j).input) ∧
    (∀ j, ((s.lateReport i tag).slot j).debounceExpiry = (s.slot j).debounceExpiry) ∧
    (∀ j, ((s.lateReport i tag).slot j).inService = (s.slot j).inService) ∧
    (∀ j, ((s.lateReport i tag).slot j).zone = (s.slot j).zone) ∧
    (∀ j, ((s.lateReport i tag).slot j).profile = (s.slot j).profile) ∧
    (∀ j, ((s.lateReport i tag).slot j).shedClass = (s.slot j).shedClass) ∧
    (∀ j, (s.lateReport i tag).profileOf j = s.profileOf j) ∧ (∀ j, (s.lateReport i tag).covered j = s.covered j) ∧
    (∀ j, (s.lateReport i tag).frozen j = s.frozen j) ∧ (s.lateReport i tag).ceilingInForce = s.ceilingInForce ∧
    (s.lateReport i tag).examined = s.examined ∧ (s.lateReport i tag).freeEntries = s.freeEntries := by
  unfold State.lateReport
  (repeat' apply And.intro)
  all_goals first
    | (simp; done)
    | (intro j
       by_cases h : j = i
       · subst h; simp [State.profileOf, State.covered, State.frozen, State.standingOf]
       · simp [h, State.profileOf, State.covered, State.frozen, State.standingOf])

/-- A completion changes no table, node, class or zone. -/
@[simp] theorem State.takeCompletion_frame (s : State) (i : SlotId) (tag : Byte) (o : CompletionOutcome) (payload : List Byte) :
    (s.takeCompletion i tag o payload).now = s.now ∧ (s.takeCompletion i tag o payload).kindMap = s.kindMap ∧
    (s.takeCompletion i tag o payload).profiles = s.profiles ∧ (s.takeCompletion i tag o payload).nodes = s.nodes ∧
    (s.takeCompletion i tag o payload).rules = s.rules ∧ (s.takeCompletion i tag o payload).classes = s.classes ∧
    (s.takeCompletion i tag o payload).zones = s.zones ∧ (s.takeCompletion i tag o payload).supply = s.supply ∧
    (s.takeCompletion i tag o payload).pending = s.pending ∧
    (∀ m, (s.takeCompletion i tag o payload).node m = s.node m) ∧
    (∀ c, (s.takeCompletion i tag o payload).cls c = s.cls c) ∧
    (∀ k, (s.takeCompletion i tag o payload).rule k = s.rule k) ∧
    (∀ j, ((s.takeCompletion i tag o payload).slot j).present = (s.slot j).present) ∧
    (∀ j, ((s.takeCompletion i tag o payload).slot j).input = (s.slot j).input) ∧
    (∀ j, ((s.takeCompletion i tag o payload).slot j).debounceExpiry = (s.slot j).debounceExpiry) ∧
    (∀ j, ((s.takeCompletion i tag o payload).slot j).inService = (s.slot j).inService) ∧
    (∀ j, ((s.takeCompletion i tag o payload).slot j).zone = (s.slot j).zone) ∧
    (∀ j, ((s.takeCompletion i tag o payload).slot j).profile = (s.slot j).profile) ∧
    (∀ j, ((s.takeCompletion i tag o payload).slot j).shedClass = (s.slot j).shedClass) ∧
    (∀ j, (s.takeCompletion i tag o payload).profileOf j = s.profileOf j) ∧
    (∀ j, (s.takeCompletion i tag o payload).covered j = s.covered j) ∧
    (∀ j, (s.takeCompletion i tag o payload).frozen j = s.frozen j) ∧
    (s.takeCompletion i tag o payload).arbiter.priorityMap = s.arbiter.priorityMap ∧
    (s.takeCompletion i tag o payload).arbiter.groupQueue = s.arbiter.groupQueue ∧
    (s.takeCompletion i tag o payload).arbiter.groupByPriority = s.arbiter.groupByPriority ∧
    (s.takeCompletion i tag o payload).arbiter.mainsCeiling = s.arbiter.mainsCeiling ∧
    (s.takeCompletion i tag o payload).arbiter.batteryCeiling = s.arbiter.batteryCeiling ∧
    (s.takeCompletion i tag o payload).arbiter.staggerInterval = s.arbiter.staggerInterval ∧
    (s.takeCompletion i tag o payload).ceilingInForce = s.ceilingInForce ∧
    (s.takeCompletion i tag o payload).mgmt.mode = s.mgmt.mode ∧
    (s.takeCompletion i tag o payload).mgmt.timing = s.mgmt.timing ∧
    (s.takeCompletion i tag o payload).mgmt.enables = s.mgmt.enables := by
  unfold State.takeCompletion
  (repeat' split) <;> simp

/-- A tag retired changes its lane alone. -/
@[simp] theorem State.retire_frame (s : State) (i : SlotId) (tag : Byte) :
    (s.retire i tag).now = s.now ∧ (s.retire i tag).trunk = s.trunk ∧ (s.retire i tag).kindMap = s.kindMap ∧
    (s.retire i tag).slots = s.slots ∧ (s.retire i tag).profiles = s.profiles ∧
    (s.retire i tag).arbiter = s.arbiter ∧ (s.retire i tag).nodes = s.nodes ∧ (s.retire i tag).rules = s.rules ∧
    (s.retire i tag).classes = s.classes ∧ (s.retire i tag).zones = s.zones ∧ (s.retire i tag).groups = s.groups ∧
    (s.retire i tag).supply = s.supply ∧ (s.retire i tag).mgmt = s.mgmt ∧ (s.retire i tag).pending = s.pending ∧
    (∀ j, (s.retire i tag).slot j = s.slot j) ∧ (∀ m, (s.retire i tag).node m = s.node m) ∧
    (∀ c, (s.retire i tag).cls c = s.cls c) ∧ (∀ k, (s.retire i tag).rule k = s.rule k) ∧
    (∀ g, (s.retire i tag).group g = s.group g) ∧ (∀ j, (s.retire i tag).profileOf j = s.profileOf j) ∧
    (∀ j, (s.retire i tag).covered j = s.covered j) ∧ (∀ j, (s.retire i tag).frozen j = s.frozen j) ∧
    (s.retire i tag).ceilingInForce = s.ceilingInForce ∧ (s.retire i tag).examined = s.examined ∧
    (s.retire i tag).freeEntries = s.freeEntries := by
  unfold State.retire
  simp

/-- A deadline changes no table, node, class or zone. -/
@[simp] theorem State.takeDeadline_frame (s : State) (i : SlotId) (tag : Byte) :
    (s.takeDeadline i tag).now = s.now ∧ (s.takeDeadline i tag).kindMap = s.kindMap ∧
    (s.takeDeadline i tag).profiles = s.profiles ∧ (s.takeDeadline i tag).nodes = s.nodes ∧
    (s.takeDeadline i tag).rules = s.rules ∧ (s.takeDeadline i tag).classes = s.classes ∧
    (s.takeDeadline i tag).zones = s.zones ∧ (s.takeDeadline i tag).supply = s.supply ∧
    (s.takeDeadline i tag).pending = s.pending ∧ (∀ m, (s.takeDeadline i tag).node m = s.node m) ∧
    (∀ c, (s.takeDeadline i tag).cls c = s.cls c) ∧ (∀ k, (s.takeDeadline i tag).rule k = s.rule k) ∧
    (∀ j, ((s.takeDeadline i tag).slot j).present = (s.slot j).present) ∧
    (∀ j, ((s.takeDeadline i tag).slot j).input = (s.slot j).input) ∧
    (∀ j, ((s.takeDeadline i tag).slot j).debounceExpiry = (s.slot j).debounceExpiry) ∧
    (∀ j, ((s.takeDeadline i tag).slot j).inService = (s.slot j).inService) ∧
    (∀ j, ((s.takeDeadline i tag).slot j).zone = (s.slot j).zone) ∧
    (∀ j, ((s.takeDeadline i tag).slot j).profile = (s.slot j).profile) ∧
    (∀ j, ((s.takeDeadline i tag).slot j).shedClass = (s.slot j).shedClass) ∧
    (∀ j, (s.takeDeadline i tag).profileOf j = s.profileOf j) ∧
    (∀ j, (s.takeDeadline i tag).covered j = s.covered j) ∧ (∀ j, (s.takeDeadline i tag).frozen j = s.frozen j) ∧
    (s.takeDeadline i tag).arbiter.priorityMap = s.arbiter.priorityMap ∧
    (s.takeDeadline i tag).arbiter.groupQueue = s.arbiter.groupQueue ∧
    (s.takeDeadline i tag).arbiter.groupByPriority = s.arbiter.groupByPriority ∧
    (s.takeDeadline i tag).arbiter.mainsCeiling = s.arbiter.mainsCeiling ∧
    (s.takeDeadline i tag).arbiter.batteryCeiling = s.arbiter.batteryCeiling ∧
    (s.takeDeadline i tag).arbiter.staggerInterval = s.arbiter.staggerInterval ∧
    (s.takeDeadline i tag).ceilingInForce = s.ceilingInForce ∧ (s.takeDeadline i tag).mgmt.mode = s.mgmt.mode ∧
    (s.takeDeadline i tag).mgmt.timing = s.mgmt.timing ∧ (s.takeDeadline i tag).mgmt.enables = s.mgmt.enables := by
  unfold State.takeDeadline
  (repeat' split) <;> simp

/-- A hold started changes its slot alone. -/
@[simp] theorem State.startSelfPark_frame (s : State) (i : SlotId) :
    (s.startSelfPark i).now = s.now ∧ (s.startSelfPark i).trunk = s.trunk ∧ (s.startSelfPark i).kindMap = s.kindMap ∧
    (s.startSelfPark i).profiles = s.profiles ∧ (s.startSelfPark i).lanes = s.lanes ∧
    (s.startSelfPark i).arbiter = s.arbiter ∧ (s.startSelfPark i).nodes = s.nodes ∧
    (s.startSelfPark i).rules = s.rules ∧ (s.startSelfPark i).classes = s.classes ∧
    (s.startSelfPark i).zones = s.zones ∧ (s.startSelfPark i).groups = s.groups ∧
    (s.startSelfPark i).supply = s.supply ∧ (s.startSelfPark i).mgmt = s.mgmt ∧
    (s.startSelfPark i).pending = s.pending ∧ (∀ j, (s.startSelfPark i).lane j = s.lane j) ∧
    (∀ m, (s.startSelfPark i).node m = s.node m) ∧ (∀ c, (s.startSelfPark i).cls c = s.cls c) ∧
    (∀ k, (s.startSelfPark i).rule k = s.rule k) ∧ (∀ g, (s.startSelfPark i).group g = s.group g) ∧
    (∀ j, ((s.startSelfPark i).slot j).present = (s.slot j).present) ∧
    (∀ j, ((s.startSelfPark i).slot j).input = (s.slot j).input) ∧
    (∀ j, ((s.startSelfPark i).slot j).debounceExpiry = (s.slot j).debounceExpiry) ∧
    (∀ j, ((s.startSelfPark i).slot j).inService = (s.slot j).inService) ∧
    (∀ j, ((s.startSelfPark i).slot j).zone = (s.slot j).zone) ∧
    (∀ j, ((s.startSelfPark i).slot j).profile = (s.slot j).profile) ∧
    (∀ j, ((s.startSelfPark i).slot j).shedClass = (s.slot j).shedClass) ∧
    (∀ j, (s.startSelfPark i).profileOf j = s.profileOf j) ∧ (∀ j, (s.startSelfPark i).covered j = s.covered j) ∧
    (∀ j, (s.startSelfPark i).frozen j = s.frozen j) ∧ (s.startSelfPark i).ceilingInForce = s.ceilingInForce ∧
    (s.startSelfPark i).examined = s.examined ∧ (s.startSelfPark i).freeEntries = s.freeEntries := by
  unfold State.startSelfPark
  (repeat' split) <;> (repeat' apply And.intro)
  all_goals first
    | (simp; done)
    | (intro j
       by_cases h : j = i
       · subst h; simp [State.profileOf, State.covered, State.frozen, State.standingOf]
       · simp [h, State.profileOf, State.covered, State.frozen, State.standingOf])

end Sys2Proof.Machine
end

