-- ==== Sys2Proof/Laws/Trunk.lean ====
section
/-! SUPPORT. Laws/Trunk.lean: what each operation of the trunk port does to it (R135 to R137), and what an outcome does to
a slot, a group record and the trunk port (R4, R148, R150). -/

namespace Sys2Proof.Machine

variable (s : State)

/-! ### The trunk port -/

/-- A symbol due joins those that wait, or all of them are sent (R137). -/
@[simp] theorem State.dueSymbol_port (f : FlowSymbol) :
    (s.dueSymbol f).trunk.queue = s.trunk.queue ∧ (s.dueSymbol f).trunk.reservations = s.trunk.reservations ∧
    (s.dueSymbol f).trunk.transmitting = s.trunk.transmitting ∧ (s.dueSymbol f).trunk.hold = s.trunk.hold ∧
    (s.dueSymbol f).trunk.restartPending = s.trunk.restartPending ∧
    (s.dueSymbol f).freeEntries = s.freeEntries := by
  unfold State.dueSymbol
  split <;> simp [State.sendSymbols, State.freeEntries]

/-- What has been sent only grows (log 11). -/
theorem State.dueSymbol_transmitted (f : FlowSymbol) : s.trunk.transmitted <+: (s.dueSymbol f).trunk.transmitted := by
  unfold State.dueSymbol
  split <;> simp [State.sendSymbols]

/-- After a refresh HOLD stands exactly while fewer than 8 entries are free; queue, reservations, transmitter and a
pending RESTART are as they were (R137). -/
@[simp] theorem State.refreshFlow_port :
    s.refreshFlow.trunk.queue = s.trunk.queue ∧ s.refreshFlow.trunk.reservations = s.trunk.reservations ∧
    s.refreshFlow.trunk.transmitting = s.trunk.transmitting ∧
    s.refreshFlow.trunk.restartPending = s.trunk.restartPending ∧ s.refreshFlow.freeEntries = s.freeEntries ∧
    s.refreshFlow.trunk.hold = decide (s.freeEntries < Config.holdMargin) := by
  unfold State.refreshFlow
  (repeat' split) <;> simp_all [State.freeEntries] <;> exact decide_eq_false (Nat.not_lt.2 (by assumption))

theorem State.refreshFlow_transmitted : s.trunk.transmitted <+: s.refreshFlow.trunk.transmitted := by
  unfold State.refreshFlow
  split <;> split
  · exact List.prefix_rfl
  · exact State.dueSymbol_transmitted { s with trunk := { s.trunk with hold := true } } _
  · exact State.dueSymbol_transmitted { s with trunk := { s.trunk with hold := false } } _
  · exact List.prefix_rfl

/-- The transmitter is busy afterwards exactly if it was, or a frame waits and no RESTART is pending (R136, R180). -/
@[simp] theorem State.startTransmission_port :
    s.startTransmission.trunk.queue = s.trunk.queue ∧
    s.startTransmission.trunk.reservations = s.trunk.reservations ∧
    s.startTransmission.trunk.hold = s.trunk.hold ∧
    s.startTransmission.trunk.restartPending = s.trunk.restartPending ∧
    s.startTransmission.freeEntries = s.freeEntries ∧
    s.startTransmission.trunk.transmitting =
      (s.trunk.transmitting || !s.trunk.queue.isEmpty && s.trunk.restartPending.isNone) := by
  unfold State.startTransmission
  split
  · rename_i h
    cases ht : s.trunk.transmitting <;> cases hq : s.trunk.queue <;> cases hr : s.trunk.restartPending <;> simp_all
  · simp_all [State.sendSymbols, State.freeEntries]

theorem State.startTransmission_transmitted : s.trunk.transmitted <+: s.startTransmission.trunk.transmitted := by
  unfold State.startTransmission
  split
  · exact List.prefix_rfl
  · simp [State.sendSymbols]

/-- An answer takes the tail of the queue in an unreserved entry (R135, R137). -/
@[simp] theorem State.answer_port (a : AnswerFrame) :
    (s.answer a).trunk.queue = s.trunk.queue ++ [a] ∧ (s.answer a).trunk.reservations = s.trunk.reservations ∧
    (s.answer a).trunk.restartPending = s.trunk.restartPending ∧
    (s.answer a).freeEntries = s.freeEntries - 1 ∧
    (s.answer a).trunk.hold = decide (s.freeEntries - 1 < Config.holdMargin) ∧
    (s.answer a).trunk.transmitting = s.trunk.transmitting := by
  have h : ({ s with trunk := { s.trunk with queue := s.trunk.queue ++ [a] } } : State).freeEntries =
      s.freeEntries - 1 := by simp [State.freeEntries]; omega
  unfold State.answer
  simp [h]

theorem State.answer_transmitted (a : AnswerFrame) : s.trunk.transmitted <+: (s.answer a).trunk.transmitted :=
  State.refreshFlow_transmitted { s with trunk := { s.trunk with queue := s.trunk.queue ++ [a] } }

/-- Nothing but the trunk port differs after an answer, and that answer is the queue's new tail (R139). -/
theorem State.answer_answeredOnly (a : AnswerFrame) : AnsweredOnly s (s.answer a) a := by
  refine ⟨?_, by simp, by simp, by simp⟩
  unfold OnlyTrunk State.answer State.refreshFlow State.dueSymbol State.sendSymbols
  simp only []
  (repeat' split) <;> rfl

/-- An answer owed takes the queue's tail and spends its reservation (R137). -/
@[simp] theorem State.answerOwed_port (a : AnswerFrame) :
    (s.answerOwed a).trunk.queue = s.trunk.queue ++ [a] ∧
    (s.answerOwed a).trunk.reservations = s.trunk.reservations - 1 ∧
    (s.answerOwed a).trunk.restartPending = s.trunk.restartPending := by
  simp [State.answerOwed]

theorem State.answerOwed_transmitted (a : AnswerFrame) :
    s.trunk.transmitted <+: (s.answerOwed a).trunk.transmitted := by
  unfold State.answerOwed
  exact State.answer_transmitted
    { s with trunk := { s.trunk with reservations := s.trunk.reservations - 1 } } a

/-- A reservation is one more answer owed and nothing else (R137). -/
@[simp] theorem State.takeReservation_port :
    s.takeReservation.trunk.queue = s.trunk.queue ∧
    s.takeReservation.trunk.reservations = s.trunk.reservations + 1 ∧
    s.takeReservation.trunk.restartPending = s.trunk.restartPending ∧
    s.takeReservation.trunk.transmitting = s.trunk.transmitting := by
  simp [State.takeReservation]

theorem State.takeReservation_transmitted : s.trunk.transmitted <+: s.takeReservation.trunk.transmitted := by
  unfold State.takeReservation
  exact State.refreshFlow_transmitted
    { s with trunk := { s.trunk with reservations := s.trunk.reservations + 1 } }

/-- The head frame leaves the queue and is sent; an empty queue has none (R136). -/
theorem State.headSent_port (a : AnswerFrame) (rest : List AnswerFrame) (h : s.trunk.queue = a :: rest) :
    s.headSent.trunk =
      { s.trunk with queue := rest, transmitting := false, transmitted := s.trunk.transmitted ++ [.answer a] } := by
  simp [State.headSent, h]

/-- A frame is discarded without a free entry and taken with one (R137). -/
theorem State.withRoom_cases (take : State → State) :
    (s.freeEntries = 0 ∧ s.withRoom take = s) ∨ (s.freeEntries ≠ 0 ∧ s.withRoom take = take s) := by
  unfold State.withRoom
  split <;> simp_all

/-! ### Outcomes -/

/-- Without an active request there is nothing to answer (R4). -/
theorem State.giveOutcome_of_none {i : SlotId} (h : (s.slot i).active = none) (code : AnswerCode) :
    s.giveOutcome i code = s := by
  simp [State.giveOutcome, h]

/-- An outcome removes the slot's request and nothing else of any slot (R4). -/
theorem State.giveOutcome_slot (i j : SlotId) (code : AnswerCode) :
    (s.giveOutcome i code).slot j = if j = i then { s.slot i with active := none } else s.slot j := by
  unfold State.giveOutcome
  split
  · rename_i h
    split
    · rename_i hj; subst hj; rw [← h]
    · rfl
  · simp only []
    split <;> simp [State.slot_modifySlot]

/-- A CONTROLLER request is answered on the trunk link, spending its reservation, and no group changes (R4, R137). -/
theorem State.giveOutcome_controller {i : SlotId} {a : ActiveRequest} (h : (s.slot i).active = some a)
    (o : a.origin = .controller) (code : AnswerCode) :
    (s.giveOutcome i code).trunk.queue = s.trunk.queue ++ [slotAnswer i a code] ∧
    (s.giveOutcome i code).trunk.reservations = s.trunk.reservations - 1 ∧
    (s.giveOutcome i code).groups = s.groups := by
  simp [State.giveOutcome, h, o]

/-- A GROUP request's outcome goes to its record (R4, R148). -/
theorem State.giveOutcome_group {i : SlotId} {a : ActiveRequest} {g : GroupId} (h : (s.slot i).active = some a)
    (o : a.origin = .group g) (code : AnswerCode) :
    s.giveOutcome i code = (s.modifySlot i fun r => { r with active := none }).recordOutcome g i code := by
  simp [State.giveOutcome, h, o]

/-- A member's outcome leaves a record that still has members with that outcome in it, and answers and frees one that
has none left (R148, R150). -/
theorem State.recordOutcome_cases {g : GroupId} {r : GroupRecord} {i : SlotId} (h : s.group g = some r)
    (m : i ∈ r.remaining) (code : AnswerCode) :
    ((r.withOutcome i code).remaining ≠ [] ∧
      s.recordOutcome g i code = s.setGroup g (some (r.withOutcome i code))) ∨
    ((r.withOutcome i code).remaining = [] ∧ s.recordOutcome g i code =
      ((s.setGroup g (some (r.withOutcome i code))).answerOwed (r.withOutcome i code).answer).setGroup g none) := by
  simp only [State.recordOutcome, h, m, if_true, State.closeIfEmpty, State.group_setGroup_self]
  split <;> simp_all

/-- An outcome for a slot that the record does not await changes nothing (R148). -/
theorem State.recordOutcome_of_not_mem {g : GroupId} {i : SlotId} (h : ∀ r, s.group g = some r → i ∉ r.remaining)
    (code : AnswerCode) : s.recordOutcome g i code = s := by
  unfold State.recordOutcome
  split
  · rename_i r hr; simp [h r hr]
  · rfl

/-- The slot leaves the remaining set, and its outcome is counted or joins the results; the figures still add up
(R141, R148). -/
theorem GroupRecord.withOutcome_figures (r : GroupRecord) (i : SlotId) (code : AnswerCode) (m : i ∈ r.remaining) :
    (r.withOutcome i code).remaining = r.remaining.erase i ∧ (r.withOutcome i code).fanOut = r.fanOut ∧
    (r.withOutcome i code).doneCount + (r.withOutcome i code).results.length +
        (r.withOutcome i code).remaining.length =
      r.doneCount + r.results.length + r.remaining.length := by
  have h := List.length_erase_of_mem m
  have p : 0 < r.remaining.length := List.length_pos_of_mem m
  unfold GroupRecord.withOutcome
  split <;> simp [h] <;> omega

end Sys2Proof.Machine
end

