-- ==== Sys2Proof/Laws/Slots.lean ====
section
/-! SUPPORT. Laws/Slots.lean: the slot record and the lane that each operation of the slot controller gives: the state taken,
the rule of a state, an arrival, an entry to FAULT (chapter 01). -/

namespace Sys2Proof.Machine

variable (s : State)

/-! ### The state taken (R10, R37) -/

/-- A state taken gives the slot that state, its switch and its reservation (R10). -/
theorem State.enterState_slot (i j : SlotId) (st : SlotState) :
    (s.enterState i st).slot j =
      if j = i then { s.slot i with
        state := st, powerSwitch := st.powered
        reservation := reservationIn (s.profileOf i) (s.slot i).drawKept st }
      else s.slot j := by
  unfold State.enterState
  by_cases h : j = i <;> simp [h]

/-- The reservation total follows (R37). -/
theorem State.enterState_total (i : SlotId) (st : SlotState) :
    (s.enterState i st).arbiter.reservationTotal =
      s.arbiter.reservationTotal - (s.slot i).reservation
        + reservationIn (s.profileOf i) (s.slot i).drawKept st := by
  simp [State.enterState]

@[simp] theorem State.enterState_queues (i : SlotId) (st : SlotState) :
    (s.enterState i st).arbiter.queues = s.arbiter.queues ∧
    (s.enterState i st).arbiter.lastGrant = s.arbiter.lastGrant ∧
    (s.enterState i st).arbiter.staggerExpiry = s.arbiter.staggerExpiry ∧
    (s.enterState i st).examined = s.examined := by
  simp [State.enterState, State.examined]

/-- An op asked reaches the slot's lane alone (R53). -/
theorem State.ask_lane (i j : SlotId) (op : GovernedOp) :
    (s.ask i op).lane j =
      if j = i then (s.lane i).ask op s.now (opDuration (s.profileOf i) op) else s.lane j := by
  simp [State.ask, State.lane_modifyLane]

/-! ### The rule of the slot's state (R13 to R20) -/

/-- The draw kept is written before the state is taken, so that the reservation is derived from it (R10). -/
theorem State.spinDown_slot (i j : SlotId) (kept : DrawKept) :
    (s.spinDown i kept).slot j =
      if j = i then { s.slot i with
        state := .spinningDown, powerSwitch := true, drawKept := kept
        reservation := reservationIn (s.profileOf i) kept .spinningDown }
      else s.slot j := by
  unfold State.spinDown
  by_cases h : j = i
  · subst h; simp [State.enterState_slot, State.profileOf, SlotState.powered]
  · simp [h, State.enterState_slot]

/-- An unload keeps the running draw; an onset counts (R15, R18). -/
theorem State.unloadHeads_slot (i j : SlotId) (onset : Bool) :
    (s.unloadHeads i onset).slot j =
      if j = i then { s.slot i with
        state := .unloading, powerSwitch := true
        reservation := (s.profileOf i).runningDraw
        emergencyUnloads := if onset then countUp (s.slot i).emergencyUnloads else (s.slot i).emergencyUnloads }
      else s.slot j := by
  unfold State.unloadHeads
  by_cases h : j = i
  · subst h; simp [State.enterState_slot, State.profileOf, SlotState.powered, reservationIn]
  · simp [h, State.enterState_slot]

theorem State.spinDown_lane (i j : SlotId) (kept : DrawKept) :
    (s.spinDown i kept).lane j =
      if j = i then (s.lane i).ask .stop s.now (opDuration (s.profileOf i) .stop) else s.lane j := by
  unfold State.spinDown
  rw [State.ask_lane]
  by_cases h : j = i
  · subst h; simp [State.profileOf]
  · simp [h]

theorem State.unloadHeads_lane (i j : SlotId) (onset : Bool) :
    (s.unloadHeads i onset).lane j =
      if j = i then (s.lane i).ask .unload s.now (opDuration (s.profileOf i) .unload) else s.lane j := by
  unfold State.unloadHeads
  rw [State.ask_lane]
  by_cases h : j = i
  · subst h; simp [State.profileOf]
  · simp [h]

/-- The rule of a slot's state takes it where the tables of R13 to R20 say. -/
theorem State.proceed_state (i : SlotId) (onset : Bool) :
    ((s.proceed i onset).slot i).state =
      afterRecompute (decide (s.mgmt.mode = .run)) (s.slot i).state (s.effectiveTarget i) := by
  unfold State.proceed
  cases hs : (s.slot i).state <;> cases ht : s.effectiveTarget i <;>
    by_cases hm : s.mgmt.mode = .run <;>
    simp_all [afterRecompute, State.enterState_slot, State.spinDown_slot, State.unloadHeads_slot]

/-- No other slot and no other lane is touched (R12). -/
theorem State.proceed_other {i j : SlotId} (h : j ≠ i) (onset : Bool) :
    (s.proceed i onset).slot j = s.slot j ∧ (s.proceed i onset).lane j = s.lane j := by
  unfold State.proceed
  (repeat' split) <;>
    simp [h, State.enterState_slot, State.spinDown_slot, State.unloadHeads_slot, State.ask_lane,
      State.spinDown_lane, State.unloadHeads_lane]

/-- What a move changes of the slot and its lane, and nothing more (R12 to R20). -/
theorem State.proceed_moved (i : SlotId) (onset : Bool) : MovedFrom s (s.proceed i onset) i (s.slot i) := by
  have a := fun op => (s.lane i).ask_eq op s.now (opDuration (s.profileOf i) op)
  unfold MovedFrom State.proceed
  (repeat' split) <;> refine ⟨?_, ?_⟩ <;>
    simp only [State.enqueue_slot, State.dequeue_slot, State.enqueue_lane, State.dequeue_lane, State.ask_frame,
      State.enterState_slot, State.spinDown_slot, State.unloadHeads_slot, State.ask_lane, State.spinDown_lane,
      State.unloadHeads_lane, State.enterState_frame, if_true] <;>
    first | rfl | exact a _

/-- A move leaves every effective target as it was: none of its inputs changes (R11). -/
@[simp] theorem State.proceed_effectiveTarget (i j : SlotId) (onset : Bool) :
    (s.proceed i onset).effectiveTarget j = s.effectiveTarget j := by
  have m := (s.proceed_moved i onset).1
  by_cases h : j = i
  · subst h
    unfold State.effectiveTarget
    rw [m]
    simp
  · simp [State.effectiveTarget, (s.proceed_other h onset).1]

/-! ### Requests completed and arrivals (R28) -/

/-- A request whose target the state equals is removed and answered DONE (R28). -/
theorem State.completeIfReached_cases (i : SlotId) :
    (s.completeIfReached i = s ∧ ∀ a ∈ (s.slot i).active, (s.slot i).state.asTarget ≠ some a.target) ∨
    (s.completeIfReached i = s.giveOutcome i .done ∧
      ∃ a ∈ (s.slot i).active, (s.slot i).state.asTarget = some a.target) := by
  unfold State.completeIfReached
  (repeat' split) <;> simp_all

/-- The slot record after a completion: the request leaves exactly if its target is reached (R28). -/
theorem State.completeIfReached_slot (i j : SlotId) :
    (s.completeIfReached i).slot j =
      if j = i then { s.slot i with
        active := (s.slot i).active.filter fun a => decide ((s.slot i).state.asTarget ≠ some a.target) }
      else s.slot j := by
  unfold State.completeIfReached
  cases ha : (s.slot i).active with
  | none =>
    by_cases h : j = i
    · subst h; simp only [if_true, Option.filter_none]; rw [← ha]
    · simp [h]
  | some a =>
    by_cases ht : (s.slot i).state.asTarget = some a.target
    · simp [ht, State.giveOutcome_slot, Option.filter]
    · by_cases h : j = i
      · subst h
        have e : (some a).filter (fun b => decide ((s.slot j).state.asTarget ≠ some b.target)) = some a := by
          simp [Option.filter, ht]
        simp only [ht, if_false, if_true, e]
        rw [← ha]
      · simp [ht, h]

/-- An arrival in a state: the request it reaches leaves, and the slot goes by the rule of the state taken (R28). -/
theorem State.arrive_state (i : SlotId) (st : SlotState) :
    ((s.arrive i st).slot i).state =
      afterRecompute (decide (s.mgmt.mode = .run)) st (((s.enterState i st).completeIfReached i).effectiveTarget i) := by
  unfold State.arrive
  rw [State.proceed_state]
  simp [State.completeIfReached_slot, State.enterState_slot]

/-- An arrival touches no other slot and no other lane. -/
theorem State.arrive_other {i j : SlotId} (h : j ≠ i) (st : SlotState) :
    (s.arrive i st).slot j = s.slot j ∧ (s.arrive i st).lane j = s.lane j := by
  unfold State.arrive
  simp [State.proceed_other _ h, State.completeIfReached_slot, State.enterState_slot, h]

/-! ### FAULT (R26) -/

/-- Entry to FAULT: switch off, no reservation, no mark, no request, the cause recorded (R26). -/
theorem State.enterFault_slot (i j : SlotId) (cause : FaultCause) :
    (s.enterFault i cause).slot j =
      if j = i then { s.slot i with
        state := .fault, powerSwitch := false, reservation := 0, shedMark := false, active := none
        faultCause := some cause }
      else s.slot j := by
  unfold State.enterFault
  by_cases h : j = i
  · subst h; simp [State.giveOutcome_slot, State.enterState_slot, SlotState.powered, reservationIn]
  · simp [h, State.giveOutcome_slot, State.enterState_slot]

/-- The governed side of the slot's lane is abandoned, no other lane is touched (R26, R61). -/
theorem State.enterFault_lane (i j : SlotId) (cause : FaultCause) :
    (s.enterFault i cause).lane j = if j = i then (s.lane i).abandonGoverned else s.lane j := by
  unfold State.enterFault
  by_cases h : j = i
  · subst h; simp
  · simp [h]

/-- SLOT_FAULT is set (R26). -/
@[simp] theorem State.enterFault_flags (i : SlotId) (cause : FaultCause) :
    (s.enterFault i cause).mgmt.flags = s.mgmt.flags.raise .slotFault := by
  have e : ∀ (t : State) (c : AnswerCode), (t.giveOutcome i c).mgmt = t.mgmt := by simp
  unfold State.enterFault
  rw [e]
  simp

/-- The slot and its lane stand as R26 leaves them. -/
theorem State.enterFault_faulted (i : SlotId) (cause : FaultCause) : Faulted s (s.enterFault i cause) i cause := by
  refine ⟨by simp [State.enterFault_slot], ?_, by simp [EventFlags.raise]⟩
  rw [State.enterFault_lane, if_pos rfl]
  rfl

/-! ### Acceptance (R127) -/

/-- The record after an acceptance: request, standing target and last priority written, the slot moved, and the request
gone again where the slot stands at its target (R127, R128). -/
theorem State.accept_other {i j : SlotId} (h : j ≠ i) (a : ActiveRequest) :
    (s.accept i a).slot j = s.slot j ∧ (s.accept i a).lane j = s.lane j := by
  unfold State.accept
  simp [State.completeIfReached_slot, State.proceed_other _ h, h, State.giveOutcome_slot]

end Sys2Proof.Machine
end

