-- ==== Sys2Proof/Laws/Budget.lean ====
section
/-! SUPPORT. Laws/Budget.lean: what a grant, a look, a marking, the selector's run, the over-ceiling test and the conclusion
of an event can do (chapters 02 and 09). -/

namespace Sys2Proof.Machine

variable (s : State)

/-! ### Grants (R40 to R42) -/

/-- The candidate is the first entry, in the order of examination, whose slot is not frozen (R40). -/
theorem State.candidate_eq_some {i : SlotId} (h : s.candidate = some i) :
    ∃ front e back, s.examined = front ++ e :: back ∧ (∀ x ∈ front, s.frozen x.slot = true) ∧
      s.frozen e.slot = false ∧ e.slot = i := by
  unfold State.candidate at h
  obtain ⟨e, he, rfl⟩ := Option.map_eq_some_iff.1 h
  obtain ⟨hp, front, back, hs, hf⟩ := List.find?_eq_some_iff_append.1 he
  exact ⟨front, e, back, hs, fun x hx => by simpa using hf x hx, by simpa using hp, rfl⟩

/-- There is no candidate exactly while every entry's slot is frozen (R40). -/
theorem State.candidate_eq_none : s.candidate = none ↔ ∀ e ∈ s.examined, s.frozen e.slot = true := by
  simp [State.candidate, List.find?_eq_none]

/-- A grant: SPINNING_UP at the spin-up draw, the spin-up counted (R16, R42). -/
theorem State.grant_slot (i j : SlotId) :
    (s.grant i).slot j =
      if j = i then { s.slot i with
        state := .spinningUp, powerSwitch := true, reservation := (s.profileOf i).spinUpDraw
        spinUps := countUp (s.slot i).spinUps }
      else s.slot j := by
  unfold State.grant
  by_cases h : j = i
  · subst h; simp [State.enterState_slot, State.profileOf, SlotState.powered, reservationIn]
  · simp [h, State.enterState_slot]

/-- SPIN is asked of the slot's lane (R42). -/
theorem State.grant_lane (i j : SlotId) :
    (s.grant i).lane j =
      if j = i then (s.lane i).ask .spin s.now (opDuration (s.profileOf i) .spin) else s.lane j := by
  unfold State.grant
  simp only []
  rw [State.ask_lane]
  by_cases h : j = i
  · subst h; simp [State.profileOf]
  · simp [h]

/-- The time of last grant is now, the stagger timer is off, the entry has left its queue, and the total follows
(R37, R42). -/
theorem State.grant_arbiter (i : SlotId) :
    (s.grant i).arbiter.lastGrant = some s.now ∧ (s.grant i).arbiter.staggerExpiry = none ∧
    (s.grant i).arbiter.queues = (s.dequeue i).arbiter.queues ∧
    (s.grant i).arbiter.reservationTotal =
      s.arbiter.reservationTotal - (s.slot i).reservation + (s.profileOf i).spinUpDraw := by
  simp [State.grant, State.enterState_total, State.profileOf, reservationIn]

/-- What holds before a look, is kept by each grant it may make and by setting the timer, holds after it (R38 to R42). -/
theorem State.lookUpTo_induct {P : State → Prop} (n : Nat) {t : State} (h : P t)
    (grant : ∀ u i, P u → u.candidate = some i → u.drawFits i = true → u.staggerPassed = true → P (u.grant i))
    (timer : ∀ u i, P u → u.candidate = some i → u.drawFits i = true → u.staggerPassed = false →
      P { u with arbiter := { u.arbiter with staggerExpiry := u.staggerEnd } }) : P (t.lookUpTo n) := by
  induction n generalizing t with
  | zero => exact h
  | succ n ih =>
    unfold State.lookUpTo
    split
    · exact h
    · rename_i i hc
      split
      · rename_i hd
        split
        · rename_i hp; exact ih (grant t i h hc hd hp)
        · rename_i hp; exact timer t i h hc hd (by simpa using hp)
      · exact h

/-- A grant opportunity, likewise; in CONFIG it is nothing (R39). -/
theorem State.look_induct {P : State → Prop} {t : State} (h : P t)
    (grant : ∀ u i, P u → u.candidate = some i → u.drawFits i = true → u.staggerPassed = true → P (u.grant i))
    (timer : ∀ u i, P u → u.candidate = some i → u.drawFits i = true → u.staggerPassed = false →
      P { u with arbiter := { u.arbiter with staggerExpiry := u.staggerEnd } }) : P t.look := by
  unfold State.look
  split
  · exact State.lookUpTo_induct _ h grant timer
  · exact h

/-- A grant passes only within the ceiling in force (R41). -/
theorem State.drawFits_iff (i : SlotId) :
    s.drawFits i = true ↔ s.arbiter.reservationTotal + (s.profileOf i).spinUpDraw ≤ s.ceilingInForce := by
  simp [State.drawFits]

/-- The stagger has passed exactly when no earlier grant lies less than the interval back (R38). -/
theorem State.staggerPassed_iff :
    s.staggerPassed = true ↔ ∀ last ∈ s.arbiter.lastGrant, last + s.arbiter.staggerInterval * 10 ≤ s.now := by
  unfold State.staggerPassed State.staggerEnd
  cases s.arbiter.lastGrant <;> simp

/-! ### Shedding (R159 to R162) -/

/-- Marking a slot touches no other slot and no other lane (R162). -/
theorem State.shedMarkSlot_other {i j : SlotId} (h : j ≠ i) :
    (s.shedMarkSlot i).slot j = s.slot j ∧ (s.shedMarkSlot i).lane j = s.lane j := by
  unfold State.shedMarkSlot
  simp [State.proceed_other _ h, State.giveOutcome_slot, h]

/-- A marked slot: mark set, standing target STOPPED, its request answered, moved by the rule of its state (R162). -/
theorem State.shedMarkSlot_slot (i : SlotId) :
    ∃ u : State, u.slot i = { s.slot i with shedMark := true, standing := .stopped, active := none } ∧
      u.lane i = s.lane i ∧ u.mgmt = s.mgmt ∧ u.zones = s.zones ∧ s.shedMarkSlot i = u.proceed i false := by
  exact ⟨_, by simp [State.giveOutcome_slot], by simp, by simp, by simp, rfl⟩

/-- What holds before the selector's run and is kept by each marking holds after it (R161). -/
theorem State.shedRun_induct {P : State → Prop} (order : List SlotId) (relief : Nat) {t : State} (h : P t)
    (mark : ∀ i ∈ order, ∀ u, P u → P (u.shedMarkSlot i)) : P (t.shedRun order relief) := by
  induction order generalizing t relief with
  | nil => exact h
  | cons i rest ih =>
    unfold State.shedRun
    simp only []
    split
    · exact mark i (by simp) t h
    · exact ih _ (mark i (by simp) t h) fun j hj => mark j (by simp [hj])

/-- The shed candidates, by the order's own words (R160). -/
theorem State.mem_shedOrder (i : SlotId) :
    i ∈ s.shedOrder ↔ 0 < (s.slot i).reservation ∧ (s.slot i).shedMark = false ∧ (s.slot i).shedClass ≠ 3 ∧
      (s.slot i).state ≠ .fault := by
  have h : ∀ c : Fin 4, c ≠ 3 ↔ c = 0 ∨ c = 1 ∨ c = 2 := by decide
  simp only [State.shedOrder, State.shedCandidate, allSlots, List.mem_flatMap, List.mem_filter, List.mem_reverse,
    List.mem_finRange, true_and, Bool.and_eq_true, decide_eq_true_eq, Bool.not_eq_true', List.mem_cons,
    List.not_mem_nil, or_false]
  constructor
  · rintro ⟨c, _, _, ⟨⟨a, b⟩, d⟩, e⟩; exact ⟨a, b, d, e⟩
  · rintro ⟨a, b, d, e⟩; exact ⟨(s.slot i).shedClass, (h _).1 d, rfl, ⟨⟨a, b⟩, d⟩, e⟩

/-- The selector runs only where the marked slots do not cover the shortfall (R159). -/
theorem State.considerShed_cases :
    s.considerShed = s ∨ (s.ceilingInForce < s.arbiter.reservationTotal - s.markedRelief ∧
      s.considerShed = s.shedRun s.shedOrder s.markedRelief) := by
  unfold State.considerShed
  split <;> simp_all

/-! ### The over-ceiling test and the conclusion (R158) -/

/-- After a test the over-ceiling condition stands exactly where the total exceeded the ceiling in force (R158). -/
@[simp] theorem State.overCeilingTest_condition :
    s.overCeilingTest.supply.overCeiling = decide (s.ceilingInForce < s.arbiter.reservationTotal) := by
  unfold State.overCeilingTest
  (repeat' split) <;> simp_all

/-- Where the total is within the ceiling the test only ends the condition (R158). -/
theorem State.overCeilingTest_of_le (h : s.arbiter.reservationTotal ≤ s.ceilingInForce) :
    s.overCeilingTest = s.setOverCeiling false := by
  simp [State.overCeilingTest, Nat.not_lt.2 h]

/-- The test is made exactly where a figure has changed (R158). -/
theorem testIfChanged_cases (before after : State) :
    (figuresChanged before after = true ∧ testIfChanged before after = after.overCeilingTest) ∨
    (figuresChanged before after = false ∧ testIfChanged before after = after) := by
  unfold testIfChanged
  split <;> simp_all

/-- An event concludes with a look, if it was an opportunity, and then with a test, if a figure has changed. -/
theorem concludeEvent_cases (before after : State) :
    ∃ u, (u = after ∧ grantOpportunity before after = false ∨ u = after.look ∧ grantOpportunity before after = true) ∧
      concludeEvent before after = testIfChanged before u := by
  unfold concludeEvent
  split
  · exact ⟨_, .inr ⟨rfl, by assumption⟩, rfl⟩
  · exact ⟨_, .inl ⟨rfl, by simp_all⟩, rfl⟩

/-- What is kept by grants, by the timer, by markings and by the two records of the over-ceiling condition is kept by
the conclusion of an event. -/
theorem concludeEvent_induct {P : State → Prop} (before after : State) (h : P after)
    (grant : ∀ u i, P u → u.candidate = some i → u.drawFits i = true → u.staggerPassed = true → P (u.grant i))
    (timer : ∀ u i, P u → u.candidate = some i → u.drawFits i = true → u.staggerPassed = false →
      P { u with arbiter := { u.arbiter with staggerExpiry := u.staggerEnd } })
    (mark : ∀ u i, P u → P (u.shedMarkSlot i)) (condition : ∀ u b, P u → P (u.setOverCeiling b))
    (flag : ∀ u, P u → P (u.setFlag .overCeiling)) : P (concludeEvent before after) := by
  have shed : ∀ u, P u → P u.considerShed := by
    intro u hu
    rcases u.considerShed_cases with e | ⟨_, e⟩
    · rw [e]; exact hu
    · rw [e]; exact State.shedRun_induct _ _ hu fun i _ v hv => mark v i hv
  have test : ∀ u, P u → P u.overCeilingTest := by
    intro u hu
    unfold State.overCeilingTest
    split
    · split
      · exact shed u hu
      · exact shed _ (flag _ (condition u true hu))
    · exact condition u false hu
  have looked : P (if grantOpportunity before after then after.look else after) := by
    split
    · exact State.look_induct h grant timer
    · exact h
  unfold concludeEvent
  generalize (if grantOpportunity before after then after.look else after) = u at looked
  unfold testIfChanged
  split
  · exact test u looked
  · exact looked

/-- An event that changes no slot, no zone and no figure concludes as it is. -/
theorem concludeEvent_of_quiet {before after : State} (slots : after.slots = before.slots)
    (zones : after.zones = before.zones) (total : after.arbiter.reservationTotal = before.arbiter.reservationTotal)
    (ceiling : after.ceilingInForce = before.ceilingInForce) : concludeEvent before after = after := by
  have s1 : ∀ i, after.slot i = before.slot i := fun i => by simp [State.slot, slots]
  have g : grantOpportunity before after = false := by
    simp [grantOpportunity, total, zones, s1]
  simp [concludeEvent, g, testIfChanged, figuresChanged, total, ceiling]

end Sys2Proof.Machine
end

