-- ==== Sys2Proof/Laws/Hold.lean ====
section
/-! SUPPORT. Laws/Hold.lean: what a recomputation of zones, an activation, a firing, a join, a leave and a rule's evaluation
give (chapter 06), and the bounds of one sample's arithmetic (chapter 04). -/

namespace Sys2Proof.Machine

variable (s : State)

/-! ### Zones and their report (R113, R114) -/

/-- A slot whose zone's coverage is what it was is not touched by the report (R114). -/
theorem State.reportCoverage_unchanged (before : State) (onset : Bool) (i : SlotId)
    (h : before.zones[(s.slot i).zone].covered = s.zones[(s.slot i).zone].covered) :
    (State.reportCoverage before s onset).slot i = s.slot i ∧
    (State.reportCoverage before s onset).lane i = s.lane i := by
  unfold State.reportCoverage
  refine (State.forSlots_induct (P := fun t => t.slot i = s.slot i ∧ t.lane i = s.lane i ∧ t.zones = s.zones)
    allSlots ⟨rfl, rfl, rfl⟩ ?_).imp id And.left
  intro j _ t ⟨hs, hl, hz⟩
  by_cases hj : i = j
  · subst hj
    rw [if_pos (by simp only [hs, hz]; exact h)]
    exact ⟨hs, hl, hz⟩
  · split
    · exact ⟨hs, hl, hz⟩
    · exact ⟨(t.proceed_other hj onset).1.trans hs, (t.proceed_other hj onset).2.trans hl, by simp [hz]⟩

/-- A zone update writes the standings of the zones named from the classes, before the slots move (R113). -/
@[simp] theorem State.updateZones_zones (zs : Set4) (onset : Bool) :
    (s.updateZones zs onset).zones = (s.recomputeZones zs).zones := by
  simp [State.updateZones]

/-- What is kept by a recomputation and by the rule of each slot's state is kept by a zone update. -/
theorem State.updateZones_induct {P : State → Prop} (zs : Set4) (onset : Bool) (h : P (s.recomputeZones zs))
    (step : ∀ u i, P u → P (u.proceed i onset)) : P (s.updateZones zs onset) := by
  unfold State.updateZones State.reportCoverage
  refine State.forSlots_induct allSlots h ?_
  intro i _ t ht
  split
  · exact ht
  · exact step t i ht

/-! ### Classes (R105, R106, R108, R110, R111) -/

/-- After an activation the class is active and otherwise as it was; no other class changes (R105, R110). -/
theorem State.activate_cls (c d : ClassId) :
    (s.activate c).cls d = if d = c then { s.cls c with active := true } else s.cls d := by
  unfold State.activate State.onset
  by_cases ha : (s.cls c).active = true
  · by_cases h : d = c
    · subst h; simp only [ha, if_true]; rw [← ha]
    · simp [ha, h]
  · simp [ha, State.cls_modifyClass]

/-- An inactive class's activation is an onset: HOLD_CHANGE is set (R106). -/
theorem State.activate_holdChange (c : ClassId) (h : (s.cls c).active = false) :
    (s.activate c).mgmt.flags.holdChange = true := by
  simp [State.activate, State.onset, h, EventFlags.raise]

/-- A firing extends the expiry, counts, and activates; no other class changes (R105). -/
theorem State.fire_cls (c d : ClassId) :
    (s.fire c).cls d =
      if d = c then { s.cls c with
        active := true, expiry := some (laterExpiry (s.cls c).expiry (s.now + (s.cls c).holdTime * 10))
        fireCount := countUp (s.cls c).fireCount }
      else s.cls d := by
  unfold State.fire
  by_cases h : d = c <;> simp [State.activate_cls, h]

/-- A node that joins is a holder of the class, which is active; no other class changes (R110). -/
theorem State.joinClass_cls (n : NodeId) (c d : ClassId) :
    (s.joinClass n c).cls d =
      if d = c then { s.cls c with active := true, holders := (s.cls c).holders.set n.val true n.isLt }
      else s.cls d := by
  unfold State.joinClass
  by_cases h : d = c <;> simp [State.activate_cls, h]

/-- A clear makes the class inactive without expiry; no other class changes (R108). -/
theorem State.clear_cls (c d : ClassId) :
    (s.clear c).cls d = if d = c then { s.cls c with active := false, expiry := none } else s.cls d := by
  unfold State.clear
  by_cases h : d = c <;> simp [h]

/-- A node that leaves is no holder; another class is as it was (R111). -/
theorem State.leaveClass_holders (n : NodeId) (c d : ClassId) :
    ((s.leaveClass n c).cls d).holders =
      if d = c then (s.cls c).holders.set n.val false n.isLt else (s.cls d).holders := by
  unfold State.leaveClass
  by_cases h : d = c
  · subst h
    simp only [State.cls_modifyClass_self, if_true]
    split <;> rfl
  · simp [h]

/-! ### Rules (R100 to R102) -/

/-- A counter after a sample lies within the rule's persistence (R100, R101). -/
theorem MotionRule.counterAfter_le (r : MotionRule) (n : NodeId) (x : Results) :
    r.counterAfter n x ≤ r.persistence := by
  unfold MotionRule.counterAfter
  split <;> simp

/-- One rule's evaluation writes that rule's counter of that node, where it watches it, and nothing else of any rule
(R101). -/
theorem State.evaluateRule_rule (n : NodeId) (x : Results) (k j : Fin 16) :
    (s.evaluateRule n x k).rule j =
      if j = k ∧ (s.rule k).watches n = true then
        { s.rule k with counters := (s.rule k).counters.set n.val ((s.rule k).counterAfter n x) n.isLt }
      else s.rule j := by
  have f : ∀ (t : State) (c : ClassId), (t.fire c).rule j = t.rule j := by
    intro t c
    have r : ∀ (u : State) (zs : Set4) (b : Bool), (u.updateZones zs b).rule j = u.rule j := by simp
    unfold State.fire State.activate State.onset
    split <;> simp [r]
  unfold State.evaluateRule
  by_cases hw : (s.rule k).watches n = true
  · by_cases hj : j = k
    · subst hj
      simp only [hw, if_true, and_self]
      split <;> simp [f]
    · simp only [hw, if_true, hj, false_and, if_false]
      split <;> simp [f, hj]
  · simp [hw]

/-! ### The arithmetic of a sample (R73 to R80) -/

/-- A clamped axis lies within 16000 of 0 (R73). -/
theorem clampAxis_natAbs_le (a : Int) : (clampAxis a).natAbs ≤ 16000 := by
  unfold clampAxis clampInt
  omega

/-- The magnitude of axes within 16000 is at most 28000 (R75). -/
theorem magnitude_le {x y z : Nat} (hx : x ≤ 16000) (hy : y ≤ 16000) (hz : z ≤ 16000) :
    magnitude x y z ≤ 28000 := by
  unfold magnitude middle smallest largest
  omega

/-- The deviation is at most the larger of its two terms (R76). -/
theorem deviation_le (m g : Nat) : deviation m g ≤ max m g := by
  unfold deviation
  omega

/-- The vibration level moves toward D and never past it (R77). -/
theorem vibration_between (v d k : Nat) : min v d ≤ vibration v d k ∧ vibration v d k ≤ max v d := by
  unfold vibration
  have p : (0 : Int) < 2 ^ k := by positivity
  rcases le_total (v : Int) d with h | h
  · have q : (0 : Int) ≤ (d : Int) - v := by omega
    rw [Int.tdiv_eq_ediv_of_nonneg q]
    have a : 0 ≤ ((d : Int) - v) / 2 ^ k := Int.ediv_nonneg q p.le
    have b : ((d : Int) - v) / 2 ^ k ≤ (d : Int) - v := Int.ediv_le_self _ q
    omega
  · have q : (0 : Int) ≤ (v : Int) - d := by omega
    have e : ((d : Int) - v) = -((v : Int) - d) := by omega
    rw [e, Int.neg_tdiv, Int.tdiv_eq_ediv_of_nonneg q]
    have a : 0 ≤ ((v : Int) - d) / 2 ^ k := Int.ediv_nonneg q p.le
    have b : ((v : Int) - d) / 2 ^ k ≤ (v : Int) - d := Int.ediv_le_self _ q
    omega

/-- The tilt ratio lies within -256 and 256 (R80). -/
theorem tiltRatio_bounds (u : Int) (g : Nat) : -256 ≤ tiltRatio u g ∧ tiltRatio u g ≤ 256 := by
  unfold tiltRatio clampInt
  omega

end Sys2Proof.Machine
end

