-- ==== Sys2Proof/Laws/Management.lean ====
section
/-! SUPPORT. Laws/Management.lean: the forms of management requests and the cases of the frame they go through (R185, R188),
and the fields of the reads as bytes (R187, R200). -/

namespace Sys2Proof.Machine

/-! ### The forms of the requests (R185, R200) -/

/-- The entry lengths of R200, as pairs of a table code and a length. -/
theorem entryLength_pair {n m : Nat} :
    (n, m) ∈ [(0, 1), (1, 2), (2, 6), (3, 3), (4, 4), (5, 2), (6, 8), (7, 7), (8, 4), (9, 3)] ↔ entryLength n = some m := by
  match n with
  | 0 | 1 | 2 | 3 | 4 | 5 | 6 | 7 | 8 | 9 => simp [entryLength, eq_comm]
  | n + 10 => simp [entryLength]

/-- The table codes are 0 to 9 (R200). -/
theorem entryLength_isSome {n : Nat} : n ≤ 9 ↔ (entryLength n).isSome = true := by
  simp [entryLength]
  omega

/-- A one-byte payload is taken up to its limit. -/
theorem notOneByte_iff {limit : Nat} {p : List Byte} :
    notOneByte limit p = false ↔ ∃ b : Byte, p = [b] ∧ b.toNat ≤ limit := by
  unfold notOneByte
  split <;> simp_all

/-- The check of a management payload takes exactly the proper forms (R185, R200). -/
theorem properForm_iff {k : Nat} {p : List Byte} : ProperForm k p ↔ managementMalformed k p = false := by
  constructor
  · intro h
    cases h <;> simp_all [managementMalformed, notOneByte_iff, entryLength_isSome, entryLength_pair, -List.mem_cons] <;> omega
  · intro h
    unfold managementMalformed at h
    split at h
    · split at h
      · exact .tableRead _ _ (entryLength_isSome.2 (by simpa using h))
      · simp at h
    · split at h
      · exact .tableWrite _ _ _ (entryLength_pair.2 (by simpa using h))
      · simp at h
    · split at h
      · exact .slotRead _ _ (by simpa using h)
      · simp at h
    · obtain ⟨b, rfl, -⟩ := notOneByte_iff.1 h; exact .nodeRead b
    · obtain ⟨b, rfl, hb⟩ := notOneByte_iff.1 h; exact .statusRead b hb
    · obtain ⟨b, rfl, hb⟩ := notOneByte_iff.1 h; exact .setMode b hb
    · obtain ⟨b, rfl, -⟩ := notOneByte_iff.1 h; exact .clearFault b
    · obtain ⟨b, rfl, -⟩ := notOneByte_iff.1 h; exact .withdraw b
    · obtain ⟨b, rfl, -⟩ := notOneByte_iff.1 h; exact .restore b
    · obtain ⟨b, rfl, hb⟩ := notOneByte_iff.1 h; exact .ackEvents b hb
    · obtain ⟨b, rfl, hb⟩ := notOneByte_iff.1 h; exact .setEnables b hb
    · obtain rfl : p = [] := by simpa using h
      exact .restart
    · simp at h

/-- The frames that are answered MALFORMED whatever the state are those of R120 and R185. -/
theorem refusedFrame_iff {f : TrunkFrame} : RefusedFrame f ↔ f.malformed = true := by
  have form : ¬ProperForm f.body.kind.toNat f.body.payload ↔
      managementMalformed f.body.kind.toNat f.body.payload = true := by rw [properForm_iff, Bool.not_eq_false]
  simp only [RefusedFrame, form, TrunkFrame.malformed, TrunkFrame.refusedField, Bool.or_eq_true, Bool.and_eq_true,
    decide_eq_true_eq]
  unfold Config.gatewayAddress Config.payloadMax
  cases managementMalformed f.body.kind.toNat f.body.payload <;>
    simp only [Bool.false_eq_true, and_false, and_true, or_false] <;> omega

/-! ### The frame of a request -/

variable (s : State)

/-- A management request is discarded without room, refused for its payload's form, or taken (R137, R185). -/
theorem State.manage_cases (kind : Nat) (tag : Byte) (payload : List Byte) (take : State → State) :
    (s.freeEntries = 0 ∧ s.manage kind tag payload take = s) ∨
    (s.freeEntries ≠ 0 ∧ managementMalformed kind payload = true ∧
      s.manage kind tag payload take = s.refuse kind tag .malformed) ∨
    (s.freeEntries ≠ 0 ∧ managementMalformed kind payload = false ∧ s.manage kind tag payload take = take s) := by
  unfold State.manage State.withRoom
  (repeat' split) <;> simp_all

/-- An index is taken where it lies in range and refused BAD_INDEX elsewhere (R185). -/
theorem State.indexed_cases (kind : Nat) (tag : Byte) (n : Nat) (b : Byte) (take : Fin n → State) :
    (∃ h : b.toNat < n, s.indexed kind tag n b take = take ⟨b.toNat, h⟩) ∨
    (n ≤ b.toNat ∧ s.indexed kind tag n b take = s.refuse kind tag .badIndex) := by
  unfold State.indexed indexBelow
  by_cases h : b.toNat < n
  · exact .inl ⟨h, by simp [h]⟩
  · exact .inr ⟨by omega, by simp [h]⟩

/-- A refusal is the trunk port's affair alone (R185). -/
theorem State.refuse_answeredOnly (kind : Nat) (tag : Byte) (code : AnswerCode) :
    AnsweredOnly s (s.refuse kind tag code) ⟨31, byte kind, tag, code, []⟩ :=
  s.answer_answeredOnly (manageAnswer kind tag code [])

/-- An executed request's answer is the trunk port's affair alone (R185). -/
theorem State.done_answeredOnly (kind : Nat) (tag : Byte) (payload : List Byte) :
    AnsweredOnly s (s.done kind tag payload) ⟨31, byte kind, tag, .done, payload⟩ :=
  s.answer_answeredOnly (manageAnswer kind tag .done payload)

/-- A TABLE_WRITE of the right length and index is refused by its owning block or answered with the entry stored
(R188, R189). -/
theorem State.tableWrite_taken (t : Table) (tag index : Byte) (entry : List Byte) (write : State → Written)
    (room : s.freeEntries ≠ 0) (len : entryLength t.code = some entry.length) (i : index.toNat < t.entries) :
    (∃ c, write s = .refused c ∧ s.tableWrite t tag index entry write = s.refuse 1 tag c) ∨
    (∃ v, write s = .stored v ∧ s.tableWrite t tag index entry write = v.done 1 tag (v.tablePayload t index)) := by
  have c : (byte t.code).toNat = t.code := by cases t <;> rfl
  have m : managementMalformed 1 (byte t.code :: index :: entry) = false := by
    change (!(entryLength (byte t.code).toNat == some entry.length)) = false
    rw [c, len]
    simp
  simp only [State.tableWrite, State.manage, State.withRoom, room, if_false, m, Bool.false_eq_true, i, if_true]
  cases hw : write s with
  | refused c => exact .inl ⟨c, rfl, rfl⟩
  | stored v => exact .inr ⟨v, rfl, rfl⟩

/-! ### The fields of the reads (R187, R200) -/

/-- A set byte (R200). -/
theorem bitByte_set (zs : Set4) : [bitByte zs.toList] = set4Byte zs := by
  rcases zs with ⟨⟨l⟩, h⟩
  simp at h
  match l, h with
  | [a, b, c, d], _ => cases a <;> cases b <;> cases c <;> cases d <;> rfl

/-- An effects byte (R200). -/
theorem bitByte_effects (u f : Bool) : bitByte [u, f] = byte (bitOf u 0 + bitOf f 1) := by
  cases u <;> cases f <;> rfl

/-- The four persistence counters as bytes (R187). -/
theorem counters_bytes (v : Vector Nat 4) : v.toList.map byte = [byte v[0], byte v[1], byte v[2], byte v[3]] := by
  rcases v with ⟨⟨l⟩, h⟩
  simp at h
  match l, h with
  | [a, b, c, d], _ => rfl

/-- A flag set byte (R200). -/
theorem flagSet_eq (e : EventFlags) : flagSet e = e.toByte := by
  rcases e with ⟨a, b, c, d, e, f⟩
  cases a <;> cases b <;> cases c <;> cases d <;> cases e <;> cases f <;> rfl

/-- A field of two bytes (R198). -/
theorem wide_eq (n : Nat) : wide n = two n := rfl

/-- The time that remains, as the reads send it (R193). -/
theorem timeLeft_eq (s : State) (e : Option Nat) : timeLeft s e = optTwo (remaining s.now e) := by
  cases e with
  | none => show [0xFF, 0xFF] = two 65535; decide
  | some e => rfl

/-- An optional field of one byte (R200). -/
theorem narrowOr_eq (n : Option Nat) : narrowOr n = optOne n := by cases n <;> rfl

/-- A yes/no field (R200). -/
theorem flagByte_eq (b : Bool) : flagByte b = [yesByte b] := by cases b <;> rfl

/-- The entries of a table, taken in their order, are those that TABLE_READ sends (R187, R200). -/
theorem tableFields_getElem? (s : State) (tb : Table) (i : Nat) :
    (tableFields s tb)[i]? = if i < tb.entries then some (s.entryBytes tb i) else none := by
  cases tb with
  | kindMap | drawProfiles | slotConfiguration | nodeConfiguration | motionRules | classes =>
    simp only [tableFields, Table.entries, State.entryBytes, indexBelow, List.getElem?_map]
    split
    · rename_i h
      simp [h, one, DrawProfile.bytes, NodeConfig.bytes, ruleFields, classFields, MotionRule.fieldBytes,
        ClassRecord.fieldBytes, State.slot, State.node, State.rule, State.cls, ← bitByte_set, bitByte_effects, counters_bytes,
        flagByte_eq, wide_eq, narrowOr_eq, timeLeft_eq, wideSigned, signedTwo]
    · rename_i h
      simp [h]
  | priorityMap =>
    simp only [tableFields, Table.entries, State.entryBytes, indexBelow]
    rcases Nat.lt_trichotomy i 8 with h | rfl | h
    · have : i < 9 := by omega
      simp [h, this, one]
    · simp [one, flagByte_eq]
    · have : ¬ i < 9 := by omega
      have : ¬ i < 8 := by omega
      simp [*]
  | ceilings | stagger | timing =>
    match i with
    | 0 => rfl
    | i + 1 => simp [tableFields, Table.entries]

end Sys2Proof.Machine
end

