-- ==== Sys2Proof/Tests/Slice0.lean ====
section
/-! SUPPORT. Tests/Slice0.lean: refused ill-formed commands, single steps whose expected results come from the spec's
worked sequences and tables, and for each obligation with hypotheses a state and operands that meet them. -/

namespace Sys2Proof.Tests

-- one theorem after the other: many at once start more threads than the checker's memory limit lets
set_option Elab.async false

open Sys2Proof.Machine

/-! ### Helpers -/

/-- The next state, or the state itself where the command stops. -/
def after (s : State) (c : Instr) : State :=
  match exec c s with
  | .next t => t
  | .fault _ => s
  | .refused _ => s

/-- The command answers a next state. -/
def completes (s : State) (c : Instr) : Bool :=
  match exec c s with
  | .next _ => true
  | .fault _ => false
  | .refused _ => false

/-- A command that completes answers the state `after` names. -/
theorem exec_of_completes {s : State} {c : Instr} (h : completes s c = true) : exec c s = .next (after s c) := by
  unfold completes at h
  unfold after
  split <;> simp_all

/-- RUN on MAINS at 10000 with no carrier, no class active, all nodes LIVE, and the kind map of 7.10. -/
def calm : State :=
  { State.reset with
    now := 10000
    kindMap := #v[.block, .stopped, .atLeastParked, .atMostParked, .loaded, .block, .block, .block, .block, .forward,
      .forwardIfClear, .block, .block, .block, .block, .block]
    nodes := Vector.replicate 4 { defaultNode 10000 with status := .live }
    classes := Vector.ofFn fun c => { defaultClasses[c] with active := false, holders := Set4.none }
    zones := Vector.replicate 4 ⟨false, false⟩
    supply := ⟨.high, .mains, none, false⟩
    mgmt := { State.reset.mgmt with mode := .run } }

/-- The record of a seated carrier in slot `i` at its defaults but for the fields named. -/
def carrier (i : SlotId) (st : SlotState) (standing : Target) : SlotRecord :=
  { powerOnSlot 0 i .low with
    present := true, debounceExpiry := none, state := st, standing := standing, powerSwitch := st.powered
    reservation := reservationIn defaultProfile .running st }

/-- `s` with the slot's record, the reservation total following. -/
def seat (s : State) (i : SlotId) (r : SlotRecord) : State :=
  { s with
    slots := s.slots.set i.val r i.isLt
    arbiter := { s.arbiter with
      reservationTotal := s.arbiter.reservationTotal - (s.slot i).reservation + r.reservation } }

/-- `s` with an outstanding SOLE op on lane `i`, issued at 9000. -/
def withOp (s : State) (i : SlotId) (op : GovernedOp) (tag : Byte) (deadline : Nat) : State :=
  s.modifyLane i fun r => { r with lastTag := tag, governed := some ⟨op, tag, 9000, deadline, .sole⟩ }

/-- A request frame without payload. -/
def frame (kind tag priority wait : Byte) : FrameBody := ⟨kind, tag, priority, wait, []⟩

/-- The conditions of one slot's record, as a decidable proposition. -/
def slotFits (s : State) (i : SlotId) : Prop :=
  ((s.slot i).present = true ↔ (s.slot i).state ≠ .empty) ∧ (s.slot i).powerSwitch = (s.slot i).state.powered ∧
    (s.slot i).reservation = reservationIn (s.profileOf i) (s.slot i).drawKept (s.slot i).state ∧
    ((s.slot i).debounceExpiry.isSome = true ↔ seated (s.slot i).input ≠ (s.slot i).present) ∧
    s.entriesOf i = (if (s.slot i).state = .queued then 1 else 0) ∧
    ((s.slot i).active.isSome = true → (s.slot i).state ≠ .empty ∧ (s.slot i).state ≠ .fault)

/-- The account from its decidable parts. -/
theorem account_of {s : State} (h : ∀ i, slotFits s i)
    (t : s.arbiter.reservationTotal = (allSlots.map fun i => (s.slot i).reservation).sum) : AccountKept s :=
  ⟨fun i => ⟨(h i).1, (h i).2.1, (h i).2.2.1, (h i).2.2.2.1, (h i).2.2.2.2.1, (h i).2.2.2.2.2⟩, t⟩

/-- A lane's conditions, its position apart. -/
def laneFits (s : State) (i : SlotId) : Prop :=
  (s.lane i).outstanding.Nodup ∧ (∀ t ∈ (s.lane i).outstanding, t ∉ (s.lane i).retired) ∧
    (s.lane i).retired.Nodup ∧ (s.lane i).retired.length ≤ Config.retiredMax ∧
    (s.lane i).awaited = (s.slot i).state.waitsOn

/-- The position of a lane's governed side, as a test. -/
def positionFits (r : LaneRecord) : Bool :=
  match r.governed with
  | none => r.preempting.isNone && r.held.isNone
  | some g => match g.role with
    | .sole => r.preempting.isNone && r.held.isNone
    | .first => r.held.isNone && r.preempting.any fun p => preempts g.op p.op
    | .residual => r.preempting.isNone && (decide (g.op = .load) || decide (g.op = .spin))

/-- A position that passes the test is one of R53 and R55. -/
theorem position_of {r : LaneRecord} (h : positionFits r = true) : r.position := by
  unfold positionFits at h
  unfold LaneRecord.position
  cases hg : r.governed with
  | none => simp_all
  | some g => cases hr : g.role <;> simp_all [Option.any_eq_true]

/-- A lane's conditions from their decidable parts. -/
theorem lane_of {s : State} {i : SlotId} (h : laneFits s i ∧ positionFits (s.lane i) = true) : LaneKept s i :=
  ⟨position_of h.2, h.1.1, h.1.2.1, ⟨h.1.2.2.1, h.1.2.2.2.1⟩, h.1.2.2.2.2⟩

/-! ### Ill-formed commands are refused (WellFormed) -/

theorem test_wf_kind : (Instr.slotRequest 0 (frame 16 0 0 0)).wf = false := by decide
theorem test_wf_priority : (Instr.groupFrame .all (frame 15 0 8 0)).wf = false := by decide
theorem test_wf_payload : (Instr.plainFrame 0 ⟨0, 0, 0, 0, List.replicate 17 0⟩).wf = false := by decide
theorem test_wf_management : (Instr.tableRead 0 (List.replicate 17 0)).wf = false := by decide
theorem test_wf_entry : (Instr.timingWrite 0 0 (List.replicate 15 0)).wf = false := by decide
theorem test_wf_completion : (Instr.completion 0 0 .done (List.replicate 17 0)).wf = false := by decide
theorem test_wf_malformed : (Instr.malformedFrame ⟨28, frame 15 0 7 255⟩).wf = false := by decide
theorem test_wf_taken : (Instr.blockedSlotFrame 23 ⟨15, 255, 7, 255, List.replicate 16 0⟩).wf = true := by decide

/-! ### Bytes on the wire (12.1) -/

/-- The check value of the CRC over "123456789" (R198). -/
theorem test_crc : crc16 [0x31, 0x32, 0x33, 0x34, 0x35, 0x36, 0x37, 0x38, 0x39] = 0x29B1 := by decide +kernel

/-- No row of the table has bits. -/
theorem test_no_word : decodeTableWord 8 0 = none := rfl

/-- A self-parked beacon, with the delimiter, its length, type, beacon and code, is received as the command. -/
theorem test_beacon : laneCommands 5 (wireBytes [4, 3, 0, 0]) = [.selfParked 5] := by decide +kernel

/-! ### Trunk frames and the trunk port -/

/-- 1.7.1, 2.7.1: a STOPPED slot raised to LOADED with priority 4 is QUEUED in queue 2 while the stagger refuses. -/
def raised : State :=
  let s := seat calm 9 (carrier 9 .stopped .stopped)
  { s with arbiter := { s.arbiter with lastGrant := some 9800 } }

theorem test_slot_request_queued :
    let t := after raised (.slotRequest 9 (frame 4 41 4 0))
    (t.slot 9).state = .queued ∧ (t.slot 9).standing = .loaded ∧ t.arbiter.queues[2] = [⟨9, some 4⟩] ∧
      t.arbiter.staggerExpiry = some 10300 := by decide +kernel

/-- 1.7.2: a spin-up taken back keeps the spin-up draw, and the former request is answered SUPERSEDED. -/
theorem test_slot_request_supersedes :
    let r := { carrier 14 .spinningUp .loaded with active := some ⟨.controller, 7, 4, .loaded, none, 0⟩ }
    let s := withOp (seat calm 14 r) 14 .spin 112 15000
    let t := after { s with trunk := { s.trunk with reservations := 1 } } (.slotRequest 14 (frame 1 8 0 0))
    (t.slot 14).state = .spinningDown ∧ (t.slot 14).reservation = 25 ∧ (t.slot 14).drawKept = .spinUp ∧
      (t.lane 14).outstanding = [112, 113] ∧ t.trunk.queue = [⟨14, 4, 7, .superseded, []⟩] := by decide +kernel

/-- 3.9.4: kind 9 with a 4-byte payload is issued as PLAIN with tag 64 and deadline 8500. -/
theorem test_plain_frame :
    let s := (seat calm 2 (carrier 2 .loaded .loaded)).modifyLane 2 fun r => { r with lastTag := 63 }
    ((after { s with now := 8000 } (.plainFrame 2 ⟨9, 130, 0, 0, [1, 2, 3, 4]⟩)).lane 2).plain =
      some ⟨64, 130, 9, 8000, 8500⟩ := by decide +kernel

/-- 7.10.1: slot 1's kind 7 is BLOCK. -/
theorem test_blocked_slot_frame :
    (after (seat calm 1 (carrier 1 .loaded .loaded)) (.blockedSlotFrame 1 (frame 7 2 0 0))).trunk.queue =
      [⟨1, 7, 2, .blocked, []⟩] := by decide +kernel

/-- 8.9.2: zone 3 with slots 20 to 23 STOPPED answers a STOPPED group at once, (18, ABSENT) and (19, ABSENT). -/
theorem test_group_frame :
    let s := seat (seat (seat (seat calm 20 (carrier 20 .stopped .stopped)) 21 (carrier 21 .stopped .stopped))
      22 (carrier 22 .stopped .stopped)) 23 (carrier 23 .stopped .stopped)
    let t := after s (.groupFrame (.zone 3) (frame 1 91 0 0))
    t.trunk.queue = [⟨27, 1, 91, .done, [6, 4, 2, 18, 3, 19, 3]⟩] ∧ t.group 0 = none := by decide +kernel

/-- 8.9.2: a group frame of a kind mapped FORWARD is MALFORMED from source 27. -/
theorem test_group_frame_forward :
    (after calm (.groupFrame (.zone 3) (frame 9 90 0 0))).trunk.queue = [⟨27, 9, 90, .malformed, []⟩] := by
  decide +kernel

/-- 7.10.1: destination 30 is answered MALFORMED from source 30. -/
theorem test_malformed_frame :
    (after calm (.malformedFrame ⟨30, frame 4 10 0 0⟩)).trunk.queue = [⟨30, 4, 10, .malformed, []⟩] := by
  decide +kernel

/-- A whole frame in which nothing is refused is the command it is (log 9): here STATUS_READ of section QUEUES. -/
theorem test_whole_frame_taken :
    (after calm (.malformedFrame ⟨31, ⟨4, 10, 0, 0, [1]⟩⟩)).trunk.queue = [⟨31, 4, 10, .done, [0, 0, 0, 0]⟩] := by
  decide +kernel

theorem test_unknown_management_kind :
    (after calm (.unknownManagementKind 0 5)).trunk.queue = [⟨31, 12, 5, .malformed, []⟩] := by decide +kernel

/-- R136: the frame sent leaves, the next is started. -/
theorem test_answer_sent :
    let a : AnswerFrame := ⟨1, 7, 2, .blocked, []⟩
    let b : AnswerFrame := ⟨2, 7, 3, .blocked, []⟩
    let t := after { calm with trunk := ⟨[a, b], true, 0, false, [], none, []⟩ } .answerSent
    t.trunk.queue = [b] ∧ t.trunk.transmitting = true ∧ t.trunk.transmitted = [.answer a] := by decide +kernel

/-- 7.10.3: with 14 frames and 44 reservations 6 entries are free, and HOLD waits for the frame in transmission. -/
theorem test_hold_entered :
    let s := { calm with trunk := ⟨List.replicate 12 ⟨1, 7, 2, .blocked, []⟩, true, 44, false, [], none, []⟩ }
    let t := after s (.blockedSlotFrame 1 (frame 7 2 0 0))
    t.trunk.hold = true ∧ t.trunk.flowDue = [.hold] := by decide +kernel

/-! ### Tables and reads -/

/-- 11.6: the ceilings' defaults, 20 A and 8 A. -/
theorem test_table_read :
    (after calm (.tableRead 1 [4, 0])).trunk.queue = [⟨31, 0, 1, .done, [4, 0, 0, 200, 0, 80]⟩] := by decide +kernel

theorem test_kind_map_write :
    (after State.reset (.kindMapWrite 1 15 [5])).kindMap[15] = .forwardIfClear := by decide +kernel

theorem test_priority_map_write :
    let t := after calm (.priorityMapWrite 1 8 [9, 1])
    t.arbiter.groupQueue = 3 ∧ t.arbiter.groupByPriority = true := by decide +kernel

theorem test_draw_profile_write :
    let t := after (seat State.reset 0 (carrier 0 .parked .parked)) (.drawProfileWrite 1 0 [255, 10, 0, 1, 2, 3])
    t.profiles[0] = ⟨60, 10, 1, 1, 2, 3⟩ ∧ t.arbiter.reservationTotal = 10 := by decide +kernel

theorem test_slot_configuration_write :
    let t := after calm (.slotConfigurationWrite 1 23 [9, 9, 2])
    ((t.slot 23).zone, (t.slot 23).profile, (t.slot 23).shedClass) = (3, 7, 2) := by decide +kernel

theorem test_ceilings_write :
    let t := after calm (.ceilingsWrite 1 0 [0xFF, 0xFF, 2, 0x59])
    (t.arbiter.mainsCeiling, t.arbiter.batteryCeiling) = (200, 600) := by decide +kernel

theorem test_stagger_write : (after calm (.staggerWrite 1 0 [1, 0])).arbiter.staggerInterval = 255 := by decide +kernel

/-- A changed rest reference sets V to 0 (R70). -/
theorem test_node_configuration_write :
    let s := State.reset.modifyNode 1 fun r => { r with v := 500 }
    let t := after s (.nodeConfigurationWrite 1 1 [1, 5, 0, 0, 0, 0, 16, 255])
    (t.node 1).config = ⟨true, .minusZ, 500, 1, 2, 15, none⟩ ∧ (t.node 1).v = 0 ∧
      (t.cls 0).holders = #v[true, false, true, true] := by decide +kernel

theorem test_motion_rule_write :
    (after calm (.motionRuleWrite 1 2 [1, 5, 3, 0xFE, 0, 0, 7])).rule 2 =
      ⟨true, #v[true, false, true, false], .tilt, -256, 1, 7, #v[0, 0, 0, 0]⟩ := by decide +kernel

theorem test_class_write :
    let t := after calm (.classWrite 1 2 [2, 2, 0, 100])
    ((t.cls 2).zones, (t.cls 2).unload, (t.cls 2).freeze, (t.cls 2).holdTime) =
      (#v[false, true, false, false], false, true, 100) := by decide +kernel

theorem test_timing_write : (after calm (.timingWrite 1 0 [0, 51, 0])).mgmt.timing = ⟨0, 50, 1⟩ := by decide +kernel

/-- R193 with the encodings of R200: present, no debounce, in service, STOPPED, zone 1, ... -/
theorem test_slot_read :
    ((after (seat calm 9 (carrier 9 .stopped .stopped)) (.slotRead 1 [9, 0])).trunk.queue.map
      fun a => a.payload.take 8) = [[1, 0xFF, 0xFF, 1, 1, 1, 0, 0]] := by decide +kernel

/-- The FAILED code of the last preempted outcome ranges over 0 to 255 and takes two bytes (R50, R200). -/
theorem test_slot_read_lane :
    let s := calm.modifyLane 9 fun r => { r with lastPreempted := some ⟨.load, 7, .failed 17⟩ }
    ((after s (.slotRead 1 [9, 1])).trunk.queue.map fun a => a.payload.drop 20) = [[2, 0, 7, 1, 0, 17]] := by
  decide +kernel

theorem test_node_read :
    ((after calm (.nodeRead 1 [3])).trunk.queue.map fun a => a.payload.take 9) =
      [[1, 4, 3, 0xE8, 3, 0, 20, 8, 0]] := by decide +kernel

theorem test_status_read :
    ((after calm (.statusRead 1 [0])).trunk.queue.map fun a => a.payload.take 10) =
      [[1, 0, 0, 200, 0, 80, 0, 200, 0, 0]] := by decide +kernel

/-! ### Mode, slot and event requests, RESTART -/

/-- R25: a STOPPED slot whose standing target lies above STOPPED is taken when the mode becomes RUN. -/
theorem test_set_mode_run :
    let s := seat State.reset 9 (carrier 9 .stopped .parked)
    let t := after { s with zones := Vector.replicate 4 ⟨false, false⟩ } (.setModeRun 1)
    t.mgmt.mode = .run ∧ (t.slot 9).state = .spinningUp ∧ t.arbiter.lastGrant = some 0 := by decide +kernel

theorem test_set_mode_config_in_use :
    let t := after (seat calm 9 (carrier 9 .parked .parked)) (.setModeConfig 1)
    t.mgmt.mode = .run ∧ t.trunk.queue = [⟨31, 5, 1, .inUse, []⟩] := by decide +kernel

/-- 1.7.4: CLEAR_FAULT takes slot 20 to STOPPED and keeps its cause. -/
theorem test_clear_fault :
    let t := after (seat calm 20 { carrier 20 .fault .loaded with faultCause := some (.loadFailed 17) }) (.clearFault 1 [20])
    (t.slot 20).state = .stopped ∧ (t.slot 20).standing = .stopped ∧ (t.slot 20).faultCause = some (.loadFailed 17) ∧
      t.trunk.queue = [⟨31, 6, 1, .done, [1]⟩] := by decide +kernel

/-- R176: a LOADED slot withdrawn goes down by unloading first, its standing target kept. -/
theorem test_withdraw :
    let t := after (seat calm 5 (carrier 5 .loaded .loaded)) (.withdraw 1 [5])
    (t.slot 5).state = .unloading ∧ (t.slot 5).standing = .loaded ∧ (t.slot 5).inService = false ∧
      (t.lane 5).governed = some ⟨.unload, 0, 10000, 10500, .sole⟩ := by decide +kernel

theorem test_restore :
    let t := after (seat calm 5 { carrier 5 .stopped .loaded with inService := false }) (.restore 1 [5])
    (t.slot 5).inService = true ∧ (t.slot 5).standing = .stopped ∧ (t.slot 5).state = .stopped := by decide +kernel

/-- 11.8 at 40400: HOLD_CHANGE acknowledged, SLOT_FAULT still set and enabled. -/
theorem test_ack_events :
    let s := calm.setEvents ⟨true, true, false, false, false, false⟩ ⟨true, true, false, false, false, false⟩
    let t := after s (.ackEvents 1 [1])
    t.trunk.queue = [⟨31, 9, 1, .done, [2, 3]⟩] ∧ t.mgmt.attn = true := by decide +kernel

/-- 11.8 at 43200: enabling NODE_SILENT asserts ATTN at once. -/
theorem test_set_enables :
    let s := calm.setEvents ⟨false, false, true, false, false, false⟩ ⟨true, true, false, false, false, false⟩
    let t := after s (.setEnables 1 [7])
    t.trunk.queue = [⟨31, 10, 1, .done, [4, 7]⟩] ∧ s.mgmt.attn = false ∧ t.mgmt.attn = true := by decide +kernel

/-- 10.7.2: 12 slots probing at 8 each exceed the default BATTERY ceiling of 80: slots 11 and 10 are marked. -/
def spinning : State :=
  (List.finRange 12).foldl (fun s i => seat s ⟨i.val, by omega⟩ (carrier ⟨i.val, by omega⟩ .parked .parked))
    { calm with supply := ⟨.low, .battery, none, false⟩ }

theorem test_restart :
    let t := after spinning (.restart 200 [])
    t.arbiter.reservationTotal = 96 ∧ (t.slot 11).shedMark = true ∧ (t.slot 10).shedMark = true ∧
      (t.slot 9).shedMark = false ∧ (t.lane 0).governed = some ⟨.query, 0, 10000, 10250, .sole⟩ ∧
      t.trunk.queue = [⟨31, 11, 200, .done, []⟩] := by decide +kernel

/-- 10.7.2: with no frame in transmission the two queued frames are discarded; else the first is begun at the tick. -/
theorem test_restart_queued :
    let a : AnswerFrame := ⟨1, 7, 2, .blocked, []⟩
    let s := after (after calm (.blockedSlotFrame 1 (frame 7 2 0 0))) (.unknownManagementKind 0 5)
    s.trunk.transmitting = false ∧ s.trunk.queue.length = 2 ∧
      (after s (.restart 200 [])).trunk.queue = [⟨31, 11, 200, .done, []⟩] ∧
      s.tick.trunk.transmitting = true ∧ s.tick.trunk.flowDue = [] ∧
      (after s.tick (.restart 200 [])).trunk.restartPending = some 200 ∧
      (after s .answerSent).trunk.transmitted = [.symbol .go, .answer { a with code := .absent }] := by decide +kernel

theorem test_restart_execution :
    (after { calm with trunk := { calm.trunk with restartPending := some 7 } } .restartExecution).trunk.queue =
      [⟨31, 11, 7, .done, []⟩] := by decide +kernel

theorem test_power_on_reset :
    let t := after (seat calm 9 (carrier 9 .loaded .loaded)) .powerOnReset
    (t.slot 9).state = .empty ∧ (t.slot 9).debounceExpiry = some 100 ∧ (t.lane 9).lastTag = 255 ∧ t.now = 0 ∧
      t.supply = ⟨.high, .battery, some 100, false⟩ := by decide +kernel

/-! ### Lines -/

/-- 9.10.1 at 200000: the debounce expires 100 ms later. -/
theorem test_supply_line :
    (after calm (.supplySourceLineChange .low)).supply = ⟨.low, .mains, some 10100, false⟩ := by decide +kernel

/-- 9.10.2: 81 against a BATTERY ceiling of 40 marks slots 6, 5 and 4. -/
def fallback : State :=
  let at_ (i : SlotId) (st : SlotState) (c : Fin 4) : SlotRecord := { carrier i st .loaded with shedClass := c }
  let s := [(0, 2), (1, 2), (2, 2), (3, 2), (4, 1), (5, 1)].foldl
    (fun s q => seat s q.1 (at_ q.1 .loaded q.2)) calm
  let s := seat (seat s 6 { at_ 6 .spinningUp 0 with active := some ⟨.controller, 12, 4, .loaded, none, 0⟩ })
    7 { at_ 7 .parked 3 with standing := .parked }
  let s := withOp s 6 .spin 0 20000
  { s with
    arbiter := { s.arbiter with batteryCeiling := 40 }
    trunk := { s.trunk with reservations := 1 }
    supply := ⟨.low, .mains, some 10000, false⟩ }

theorem test_source_debounce_expiry :
    let t := after fallback .sourceDebounceExpiry
    (allSlots.filter fun i => (t.slot i).shedMark) = [4, 5, 6] ∧ (t.slot 6).state = .spinningDown ∧
      (t.slot 5).state = .unloading ∧ t.trunk.queue = [⟨6, 4, 12, .shed, []⟩] ∧ t.arbiter.reservationTotal = 81 := by
  decide +kernel

theorem test_presence_input :
    ((after calm (.presenceInputChange 17 .low)).slot 17).debounceExpiry = some 10100 := by decide +kernel

/-- 10.7.1 at 300350: the removal retires tags 120 and 121 and answers the plain op GONE. -/
def pulled : State :=
  let s := withOp (seat calm 17 { carrier 17 .loading .loaded with input := .high, debounceExpiry := some 10000 })
    17 .load 120 10500
  let s := s.modifyLane 17 fun r => { r with lastTag := 121, plain := some ⟨121, 44, 9, 9050, 9550⟩ }
  { s with trunk := { s.trunk with reservations := 1 } }

theorem test_presence_debounce_expiry :
    let t := after pulled (.presenceDebounceExpiry 17)
    (t.slot 17).state = .empty ∧ t.arbiter.reservationTotal = 0 ∧ (t.lane 17).retired = [120, 121] ∧
      t.trunk.queue = [⟨17, 9, 44, .gone, []⟩] ∧ t.mgmt.flags.presenceChange = true := by decide +kernel

/-! ### Lanes -/

/-- 1.7.1: SPIN DONE takes the slot through PARKED to LOADING. -/
theorem test_completion_spin :
    let t := after (withOp (seat calm 9 (carrier 9 .spinningUp .loaded)) 9 .spin 5 24000) (.completion 9 5 .done [])
    (t.slot 9).state = .loading ∧ t.arbiter.reservationTotal = 8 ∧
      (t.lane 9).governed = some ⟨.load, 6, 10000, 11000, .sole⟩ := by decide +kernel

/-- 1.7.4: LOAD FAILED with code 17. -/
theorem test_completion_failed :
    let t := after (withOp (seat calm 20 (carrier 20 .loading .loaded)) 20 .load 5 10500) (.completion 20 5 (.failed 17) [])
    (t.slot 20).state = .fault ∧ (t.slot 20).faultCause = some (.loadFailed 17) ∧ t.arbiter.reservationTotal = 0 ∧
      t.mgmt.flags.slotFault = true := by decide +kernel

/-- 1.7.3: the hold expires 2000 ms after the beacon. -/
theorem test_self_parked :
    let t := after { seat calm 3 (carrier 3 .loaded .loaded) with now := 50000 } (.selfParked 3)
    (t.slot 3).state = .parked ∧ (t.slot 3).selfParkExpiry = some 52000 ∧ (t.slot 3).selfParks = 1 := by decide +kernel

/-- 3.9.4 at 8150: the governed side alone is abandoned. -/
theorem test_carrier_fault :
    let t := after (withOp (seat calm 2 (carrier 2 .unloading .loaded)) 2 .unload 9 9500) (.carrierFault 2 5)
    (t.slot 2).state = .fault ∧ (t.slot 2).faultCause = some (.carrierFault 5) ∧ (t.lane 2).retired = [9] := by
  decide +kernel

/-- 3.9.3 at 5500: the deadline of tag 17 retires it behind 18. -/
theorem test_op_deadline :
    let s := withOp (seat calm 11 (carrier 11 .unloading .loaded)) 11 .unload 17 5500
    let t := after (s.modifyLane 11 fun r => { r with retired := [18] }) (.opDeadlineExpiry 11 17)
    (t.slot 11).faultCause = some .unloadTimeout ∧ (t.lane 11).retired = [18, 17] := by decide +kernel

/-- 3.9.2 after 70300 and after 70500: a FIRST op, and a RESIDUAL op with a held STOP. -/
def overtaken (role : Role) : State :=
  (seat calm 6 (carrier 6 (if role = .first then .unloading else .spinningDown) .stopped)).modifyLane 6 fun r =>
    { r with
      lastTag := 201, governed := some ⟨.load, 200, 9000, 10000, role⟩
      preempting := if role = .first then some ⟨.unload, 201, 9300, 9800⟩ else none
      held := if role = .first then none else some .stop }

/-- R52: the tags that one event retires join the list in the order issued, LOAD's 200 before UNLOAD's 201. -/
theorem test_op_deadline_pair :
    ((after (overtaken .first) (.opDeadlineExpiry 6 201)).lane 6).retired = [200, 201] := by decide +kernel

/-! ### Timers and samples -/

/-- 1.7.3 at 52000: the slot is loaded again. -/
theorem test_self_park_hold_expiry :
    let t := after (seat calm 3 { carrier 3 .parked .loaded with selfParkExpiry := some 10000 }) (.selfParkHoldExpiry 3)
    (t.slot 3).state = .loading ∧ (t.slot 3).selfParkExpiry = none := by decide +kernel

/-- 2.7.4: the wait deadline taken first answers WAIT_EXPIRED and takes slot 5 out of its queue. -/
def waiting : State :=
  let s := seat calm 5 { carrier 5 .queued .loaded with
    active := some ⟨.controller, 60, 4, .loaded, some 10000, 5⟩, lastPriority := some 5 }
  { s with
    trunk := { s.trunk with reservations := 1 }
    arbiter := { s.arbiter with
      queues := #v[[], [], [⟨5, some 5⟩], []], lastGrant := some 9500, staggerExpiry := some 10000 } }

theorem test_wait_deadline :
    let t := after waiting (.waitDeadline 5)
    (t.slot 5).state = .stopped ∧ (t.slot 5).standing = .stopped ∧ t.arbiter.queues[2] = [] ∧
      t.trunk.queue = [⟨5, 4, 60, .waitExpired, []⟩] := by decide +kernel

/-- 2.7.4: the grant taken first. -/
theorem test_stagger_timer :
    let t := after waiting .staggerTimerExpiry
    (t.slot 5).state = .spinningUp ∧ t.arbiter.reservationTotal = 25 ∧ t.arbiter.lastGrant = some 10000 ∧
      t.arbiter.staggerExpiry = none := by decide +kernel

/-- 4.6.1: M = 2925, D = 1925, V from 120 to 345, T = 256. -/
theorem test_sample :
    let s := calm.modifyNode 2 fun r => { r with v := 120 }
    let t := after s (.sample 2 2 1 (BitVec.ofInt 16 (-300)) 2400 1100)
    ((t.node 2).lastM, (t.node 2).lastD, (t.node 2).v, (t.node 2).lastT) =
      (some 2925, some 1925, 345, some 256) := by decide +kernel

/-- 6.8.1 at 40000: the shock fires class 0, and a LOADED slot counts an emergency unload. A node whose progress stands at
a newly written smaller count goes LIVE at its next sample, a gap too (R89). -/
theorem test_sample_fires :
    let t := after { seat calm 5 (carrier 5 .loaded .loaded) with now := 40000 } (.sample 2 2 1 0 3800 900)
    (t.node 2).lastD = some 3137 ∧ (t.cls 0).expiry = some 43000 ∧ (t.cls 0).fireCount = 1 ∧
      (t.slot 5).state = .unloading ∧ (t.slot 5).emergencyUnloads = 1 ∧ t.zones[0] = ⟨true, true⟩ ∧
      (let s := State.reset.modifyNode 3 fun r =>
        { r with config := { r.config with recoveryCount := 4 }, progress := 6, lastSequence := some 9 }
      ((after s (.sample 3 3 20 0 0 1000)).node 3).status = .live) := by decide +kernel

/-- 5.9.1 at 1025: SILENT, V 0, and a blind holder of class 0. The duplicate of that instant is still discarded (R92). -/
theorem test_silence :
    let s := calm.modifyNode 1 fun r => { r with silenceExpiry := some 10000, v := 40, lastSequence := some 252 }
    let t := after s (.silenceTimerExpiry 1)
    (t.node 1).status = .silent ∧ (t.node 1).v = 0 ∧ (t.node 1).lastSequence = none ∧
      (t.cls 0).holders = #v[false, true, false, false] ∧ t.mgmt.flags.nodeSilent = true ∧
      after t (.sample 1 1 252 0 0 1000) = t ∧ ((after t (.sample 1 1 253 0 0 1000)).node 1).status = .recovering := by
  decide +kernel

/-- 6.8.1 at 43005: the clear releases the zones and slot 5 is loaded again. -/
def held : State :=
  { (seat calm 5 (carrier 5 .parked .loaded)).modifyClass 0 fun r => { r with active := true, expiry := some 10000 } with
    zones := Vector.replicate 4 ⟨true, true⟩ }

theorem test_class_expiry :
    let t := after held (.classExpiry 0)
    (t.cls 0).active = false ∧ t.zones[3] = ⟨false, false⟩ ∧ (t.slot 5).state = .loading ∧
      t.mgmt.flags.holdChange = true := by decide +kernel

/-- R105 with log 4: an expiry that a firing has moved on changes nothing. -/
theorem test_class_expiry_moved :
    let s := held.modifyClass 0 fun r => { r with expiry := some 10001 }
    after s (.classExpiry 0) = s := by decide +kernel

/-! ### Conditions from their decidable parts -/

/-- An open record's conditions as a test. -/
def groupFits (r : GroupRecord) : Bool :=
  decide (r.doneCount + r.results.length + r.remaining.length = r.fanOut ∧ r.fanOut ≤ 24 ∧ r.remaining ≠ [] ∧
    (r.remaining ++ r.results.map (·.1)).Nodup)

theorem groups_of {s : State} (h : ∀ g, (s.group g).all groupFits = true)
    (m : ∀ g i, ((s.group g).any fun r => decide (i ∈ r.remaining)) =
      (s.slot i).active.any fun a => decide (a.origin = .group g)) : GroupsKept s := by
  refine ⟨fun g r hr => ?_, fun g i => ?_⟩
  · have := h g
    rw [hr] at this
    obtain ⟨a, b, c, d⟩ : _ ∧ _ ∧ _ ∧ _ := by simpa [groupFits] using this
    exact ⟨a, b, by simpa using c, by simpa using d⟩
  · have := m g i
    rw [Bool.eq_iff_iff] at this
    simpa [Option.any_eq_true] using this

/-- The trunk port's conditions as one decidable proposition. -/
def trunkFits (s : State) : Prop :=
  s.trunk.reservations = s.answersOwed ∧ s.trunk.queue.length + s.trunk.reservations ≤ Config.egressCapacity ∧
    (s.trunk.hold = true ↔ s.freeEntries < Config.holdMargin) ∧ (s.trunk.transmitting = true → s.trunk.queue ≠ []) ∧
    (s.trunk.restartPending.isSome = true → s.trunk.transmitting = true) ∧
    (s.trunk.transmitting = false → s.trunk.flowDue = [] ∨ s.trunk.flowDue = [.go])

theorem trunk_of {s : State} (h : trunkFits s) : TrunkKept s :=
  ⟨h.1, h.2.1, h.2.2.1, h.2.2.2.1, h.2.2.2.2.1, h.2.2.2.2.2⟩

/-- A node's conditions as one decidable proposition. -/
def nodeFits (s : State) (n : NodeId) : Prop :=
  ((s.node n).status = .off ↔ (s.node n).config.enabled = false) ∧
    ((s.node n).silenceExpiry.isSome = true ↔ (s.node n).status = .live ∨ (s.node n).status = .recovering) ∧
    (∀ c : ClassId, (s.cls c).holders[n] = true ↔
      (s.node n).status.blind = true ∧ (s.node n).config.blindClass = some c) ∧
    ((s.node n).progress ≤ 15 ∧ ((s.node n).status ≠ .recovering → (s.node n).progress = 0)) ∧
    (1 ≤ (s.node n).config.recoveryCount ∧ (s.node n).config.recoveryCount ≤ 15) ∧
    ((s.node n).status = .silent ∨ (s.node n).status = .off → (s.node n).lastSequence = none)

theorem nodes_of {s : State} (h : ∀ n, nodeFits s n) : NodesKept s :=
  fun n => ⟨(h n).1, (h n).2.1, (h n).2.2.1, (h n).2.2.2.1, (h n).2.2.2.2.1, (h n).2.2.2.2.2⟩

/-- The hold unit's conditions as one decidable proposition. -/
def holdsFit (s : State) : Prop :=
  (∀ c, (s.cls c).active = true ↔ (s.cls c).expiry.isSome = true ∨ ∃ n : NodeId, (s.cls c).holders[n] = true) ∧
    (∀ z : ZoneId, s.zones[z].covered = true ↔
      ∃ c, (s.cls c).active = true ∧ (s.cls c).unload = true ∧ (s.cls c).zones[z] = true) ∧
    ∀ z : ZoneId, s.zones[z].frozen = true ↔
      ∃ c, (s.cls c).active = true ∧ (s.cls c).freeze = true ∧ (s.cls c).zones[z] = true

theorem holds_of {s : State} (h : holdsFit s) : HoldsKept s := ⟨h.1, h.2.1, h.2.2⟩

/-- The slot of the first entry not frozen, once the stagger has passed in RUN, is the one the arbiter tries next. -/
theorem next_of {s t : State} {i : SlotId}
    (h : s.mgmt.mode = .run ∧ (∀ last ∈ s.arbiter.lastGrant, last + 10 * s.arbiter.staggerInterval ≤ s.now) ∧
      t.frozen i = false ∧ s.arbiter.queues[3] = [] ∧ (s.arbiter.queues[2].head?.map fun e => e.slot) = some i) :
    NextGrant s t i := by
  obtain ⟨run, stagger, thawed, empty, head⟩ := h
  refine ⟨run, stagger, thawed, ?_⟩
  cases hq : s.arbiter.queues[2] with
  | nil => simp [hq] at head
  | cons e rest =>
    exact ⟨[], rest ++ s.arbiter.queues[1] ++ s.arbiter.queues[0], e, by simp [empty], by simpa [hq] using head, by simp⟩

/-! ### States and operands that meet the hypotheses of the statements -/

theorem witness_StepTakesFrontCommand :
    ({ calm with pending := [.answerSent, .selfParked 0] } : State).pending = .answerSent :: [.selfParked 0] := rfl

theorem witness_CommandsKeepQueueAndTime :
    exec (.selfParked 3) calm = .next (after calm (.selfParked 3)) ∧ Instr.selfParked 3 ≠ .powerOnReset :=
  ⟨exec_of_completes (by decide +kernel), by decide⟩

theorem witness_IdleStepIsTick :
    State.reset.pending = [] ∧
      (let s := { calm with trunk := { calm.trunk with queue := [⟨1, 7, 2, .blocked, []⟩] } };
        s.pending = [] ∧ s.trunk.transmitting = false ∧ s.trunk.restartPending = none ∧ s.trunk.queue ≠ []) := by
  decide +kernel

/-- One frame in transmission, nothing owed. -/
def sending : State := { calm with trunk := ⟨[⟨1, 7, 2, .blocked, []⟩], true, 0, false, [], none, []⟩ }

theorem witness_RestartWaitsForFrame :
    sending.trunk.transmitting = true ∧ sending.trunk.restartPending = none ∧
      (let s := { sending with trunk := { sending.trunk with restartPending := some 9 } };
        s.trunk.transmitting = true ∧ s.trunk.restartPending.isSome = true ∧ s.pending = [] ∧
          completes s (.blockedSlotFrame 1 (frame 7 2 0 0)) = true) := by
  decide +kernel

theorem witness_RestartExecution :
    ExecutesRestart spinning (.restart 200 []) 200 ∧
      ExecutesRestart { spinning with trunk := { spinning.trunk with restartPending := some 9 } } .restartExecution 9 ∧
      ExecutesRestart { spinning with trunk := { sending.trunk with restartPending := some 9 } } .answerSent 9 ∧
      LanesKept spinning ∧ probes spinning 11 = true ∧ probes spinning 12 = false :=
  ⟨.inl (by decide +kernel), .inr (.inl (by decide +kernel)), .inr (.inr (by decide +kernel)),
    fun i => lane_of (by unfold laneFits; revert i; decide +kernel), by decide +kernel, by decide +kernel⟩

/-- 57 frames queued, HOLD standing: the frame sent leaves 8 entries free. -/
def full : State :=
  { calm with trunk := ⟨List.replicate 57 ⟨1, 7, 2, .blocked, []⟩, true, 0, true, [], none, []⟩ }

theorem witness_AnswerSentFreesEntry :
    (TrunkKept sending ∧ sending.trunk.restartPending = none ∧
        sending.trunk.queue = ⟨1, 7, 2, .blocked, []⟩ :: []) ∧
      (TrunkKept full ∧ full.trunk.restartPending = none ∧
        full.trunk.queue = ⟨1, 7, 2, .blocked, []⟩ :: List.replicate 56 ⟨1, 7, 2, .blocked, []⟩) ∧
      (let s := { sending with trunk := { sending.trunk with transmitting := false, flowDue := [.go] } };
        TrunkKept s ∧ s.trunk.queue = ⟨1, 7, 2, .blocked, []⟩ :: []) ∧
      TrunkKept calm ∧ calm.trunk.queue = [] := by
  refine ⟨⟨trunk_of ?_, ?_⟩, ⟨trunk_of ?_, ?_⟩, ⟨trunk_of ?_, ?_⟩, trunk_of ?_, ?_⟩ <;>
    first | decide +kernel | (unfold trunkFits; decide +kernel)

theorem witness_FullEgressDiscardsFrames :
    ({ calm with trunk := { calm.trunk with reservations := 64 } } : State).freeEntries = 0 ∧
      trunkFrameCommand (.slotRequest 0 (frame 4 1 0 0)) = true ∧ trunkFrameCommand (.restart 1 [0]) = true := by
  decide +kernel

theorem witness_RefusedFramesAnswered :
    calm.freeEntries ≠ 0 ∧ RefusedFrame ⟨29, frame 15 0 7 0⟩ ∧ RefusedFrame ⟨32, frame 0 0 0 0⟩ ∧
      RefusedFrame ⟨31, ⟨11, 0, 0, 0, [0]⟩⟩ ∧ ¬RefusedFrame ⟨28, frame 15 0 7 0⟩ ∧ ¬RefusedFrame ⟨31, frame 12 0 0 0⟩ ∧
      (frame 16 0 0 0).wf = false ∧ (frame 0 0 8 0).wf = false ∧
      ((frame 9 0 0 0).wf = true ∧ (9 : Fin 16).val = (9 : Byte).toNat ∧ calm.kindMap[(9 : Fin 16)] = .forward) ∧
      ((frame 10 0 0 0).wf = true ∧ (10 : Fin 16).val = (10 : Byte).toNat ∧
        calm.kindMap[(10 : Fin 16)] = .forwardIfClear) := by
  simp only [refusedFrame_iff]
  decide +kernel

/-- Every group record open with slot 0, whose frames are not at issue here. -/
def groupsOpen : State :=
  { calm with groups := Vector.replicate 4 (some ⟨.zone 0, 5, 4, .loaded, 0, 0, 6, [5], 5, []⟩) }

theorem witness_RefusedFramesAnswered_groupFull :
    groupsOpen.freeEntries ≠ 0 ∧ (frame 4 0 0 0).wf = true ∧ groupsOpen.kindMap[(4 : Fin 16)] ≠ .forward ∧
      groupsOpen.kindMap[(4 : Fin 16)] ≠ .forwardIfClear ∧ ∀ g, (groupsOpen.group g).isSome = true := by
  decide +kernel

/-- The slots of 7.10.1. -/
def checked : State :=
  let s := seat calm 1 (carrier 1 .loaded .loaded)
  let s := seat s 2 (carrier 2 .fault .stopped)
  let s := seat s 3 { carrier 3 .spinningDown .stopped with shedMark := true }
  let s := seat s 5 { carrier 5 .stopped .stopped with inService := false }
  let s := seat s 14 (carrier 14 .parked .loaded)
  let s := s.modifyLane 1 fun r => { r with lastTag := 64, plain := some ⟨64, 8, 9, 9990, 10490⟩ }
  { s with zones := s.zones.set 2 ⟨true, true⟩ }

theorem witness_SlotFrameRefused :
    checked.freeEntries ≠ 0 ∧ SlotFrameCommand 1 (frame 7 2 0 0) (.blockedSlotFrame 1 (frame 7 2 0 0)) ∧
      SlotRefused checked 1 (frame 16 0 0 0) 0 .malformed ∧ SlotRefused checked 0 (frame 4 1 0 0) 4 .absent ∧
      SlotRefused checked 1 (frame 7 2 0 0) 7 .blocked ∧ SlotRefused checked 2 (frame 4 3 0 0) 4 .faulted ∧
      SlotRefused checked 3 (frame 2 4 0 0) 2 .shedding ∧ SlotRefused checked 5 (frame 4 6 0 0) 4 .withdrawn ∧
      SlotRefused checked 14 (frame 10 7 0 0) 10 .held ∧ SlotRefused checked 1 (frame 9 9 0 0) 9 .laneBusy ∧
      SlotRefused (seat State.reset 1 (carrier 1 .stopped .stopped)) 1 (frame 0 0 0 0) 0 .blocked ∧
      SlotRefused { checked with mgmt := { checked.mgmt with mode := .config } } 1 (frame 1 0 0 0) 1 .configMode :=
  ⟨by decide +kernel, .inr (.inr rfl), .malformed (by decide), .absent (by decide) (by decide +kernel),
    .blocked (by decide) (by decide +kernel) rfl (by decide +kernel),
    .faulted (by decide) (by decide +kernel) rfl (by unfold Governed; decide +kernel) (by decide +kernel)
      (by decide +kernel) (by decide +kernel),
    .shedding (by decide) (by decide +kernel) rfl (by decide +kernel) (by decide +kernel) (by decide +kernel)
      (by decide +kernel) (by decide +kernel),
    .withdrawn (by decide) (by decide +kernel) rfl (by unfold Governed; decide +kernel) (by decide +kernel)
      (by decide +kernel),
    .held (by decide) (by decide +kernel) rfl (by decide +kernel) (by decide +kernel),
    .laneBusy (by decide) (by decide +kernel) rfl (by decide +kernel) (by decide +kernel),
    .blocked (by decide) (by decide +kernel) rfl (by decide +kernel),
    .configMode (by decide) (by decide +kernel) rfl (by unfold Governed; decide +kernel) (by decide +kernel)⟩

theorem witness_PlainFrameTaken :
    SlotFrameCommand 14 (frame 9 8 0 0) (.plainFrame 14 (frame 9 8 0 0)) ∧ checked.freeEntries ≠ 0 ∧
      (frame 9 8 0 0).wf = true ∧ (checked.slot 14).present = true ∧ checked.kindMap[(9 : Fin 16)] = .forward ∧
      (checked.lane 14).plain = none ∧ LaneKept checked 14 ∧
      (checked.kindMap[(10 : Fin 16)] = .forwardIfClear ∧ checked.covered 2 = false ∧ checked.frozen 2 = false ∧
        (checked.slot 2).present = true ∧ (checked.lane 2).plain = none ∧ LaneKept checked 2) :=
  ⟨.inr (.inl rfl), by decide +kernel, by decide, by decide +kernel, by decide +kernel, by decide +kernel,
    lane_of (by unfold laneFits; decide +kernel), by decide +kernel, by decide +kernel, by decide +kernel,
    by decide +kernel, by decide +kernel, lane_of (by unfold laneFits; decide +kernel)⟩

/-- A slot SPINNING_UP with a request, and a PARKED one. -/
def working : State :=
  let s := seat calm 14 { carrier 14 .spinningUp .loaded with active := some ⟨.controller, 7, 4, .loaded, none, 0⟩ }
  let s := withOp (seat s 8 (carrier 8 .parked .parked)) 14 .spin 112 15000
  { s with trunk := { s.trunk with reservations := 1 } }

theorem working_account : AccountKept working := account_of (by unfold slotFits; decide +kernel) (by decide +kernel)
theorem working_lanes : LanesKept working := fun i => lane_of (by unfold laneFits; revert i; decide +kernel)
theorem working_heads : HeadsAllowed working := by unfold HeadsAllowed; decide +kernel

/-- A group of which slot 5 remains. -/
def grouped : State :=
  let s := seat calm 5 { carrier 5 .spinningUp .loaded with active := some ⟨.group 0, 5, 4, .loaded, none, 0⟩ }
  let s := withOp s 5 .spin 3 15000
  { s with
    groups := s.groups.set 0 (some ⟨.zone 0, 5, 4, .loaded, 0, 0, 6, [5], 0,
      [(0, .absent), (1, .absent), (2, .absent), (3, .absent), (4, .absent)]⟩)
    trunk := { s.trunk with reservations := 1 } }

theorem grouped_account : AccountKept grouped := account_of (by unfold slotFits; decide +kernel) (by decide +kernel)
theorem grouped_lanes : LanesKept grouped := fun i => lane_of (by unfold laneFits; revert i; decide +kernel)
theorem grouped_groups : GroupsKept grouped := groups_of (by decide +kernel) (by decide +kernel)

/-- A frame that supersedes a CONTROLLER request, one whose target the slot has reached already, and one that supersedes
the last member of a group, which is thereby answered. -/
theorem witness_AcceptedRequestRecorded :
    SlotFrameCommand 14 (frame 1 8 7 255) (.slotRequest 14 (frame 1 8 7 255)) ∧
      AcceptedFrame working 14 (frame 1 8 7 255) 1 .stopped ∧ (7 : Fin 8).val = (frame 1 8 7 255).priority.toNat ∧
      AcceptedFrame working 8 (frame 2 8 0 0) 2 .parked ∧ atTarget (working.slot 8).state .parked = true ∧
      (AccountKept working ∧ HeadsAllowed working ∧ GroupsKept working) ∧
      AcceptedFrame grouped 5 (frame 1 8 7 255) 1 .stopped ∧
      (AccountKept grouped ∧ HeadsAllowed grouped ∧ GroupsKept grouped) ∧
      (outcomeAnswers grouped [5] .superseded).length = 1 :=
  ⟨.inl rfl, ⟨by decide, rfl, by decide +kernel, by unfold Acceptable; decide +kernel, by decide +kernel⟩, rfl,
    ⟨by decide, rfl, by decide +kernel, by unfold Acceptable; decide +kernel, by decide +kernel⟩, by decide +kernel,
    ⟨working_account, working_heads, groups_of (by decide +kernel) (by decide +kernel)⟩,
    ⟨by decide, rfl, by decide +kernel, by unfold Acceptable; decide +kernel, by decide +kernel⟩,
    ⟨grouped_account, by unfold HeadsAllowed; decide +kernel, grouped_groups⟩, by decide +kernel⟩

theorem witness_AcceptedRequestMovesSlot :
    SlotFrameCommand 8 (frame 4 8 7 0) (.slotRequest 8 (frame 4 8 7 0)) ∧
      AcceptedFrame working 8 (frame 4 8 7 0) 4 .loaded ∧ AccountKept working ∧ LanesKept working :=
  ⟨.inl rfl, ⟨by decide, rfl, by decide +kernel, by unfold Acceptable; decide +kernel, by decide +kernel⟩,
    working_account, working_lanes⟩

theorem witness_RequestJoinsQueueTail :
    SlotFrameCommand 9 (frame 4 41 4 0) (.slotRequest 9 (frame 4 41 4 0)) ∧
      AcceptedFrame raised 9 (frame 4 41 4 0) 4 .loaded ∧ (4 : Fin 8).val = (frame 4 41 4 0).priority.toNat ∧
      AccountKept raised ∧ (raised.slot 9).state = .stopped ∧ raised.arbiter.lastGrant = some 9800 ∧
      raised.now < 9800 + 10 * raised.arbiter.staggerInterval :=
  ⟨.inl rfl, ⟨by decide, rfl, by decide +kernel, by unfold Acceptable; decide +kernel, by decide +kernel⟩, rfl,
    account_of (by unfold slotFits; decide +kernel) (by decide +kernel), by decide +kernel, by decide +kernel,
    by decide +kernel⟩

theorem witness_GroupAnsweredAtOnce :
    (calm.freeEntries ≠ 0 ∧ (frame 0 1 0 0).wf = true ∧ (0 : Fin 16).val = (frame 0 1 0 0).kind.toNat ∧
        calm.group 0 = none ∧ calm.kindMap[(0 : Fin 16)] = .block) ∧
      (Governed ({ calm with mgmt := { calm.mgmt with mode := .config } } : State).kindMap[(4 : Fin 16)] ∧
        ({ calm with mgmt := { calm.mgmt with mode := .config } } : State).mgmt.mode = .config) := by
  unfold Governed
  decide +kernel

/-- 8.9.1: members refused, at their target, and left; with slots 0 to 11 alone, everything ends at once. -/
def fanOut : State :=
  let s := seat (seat calm 0 (carrier 0 .loaded .loaded)) 1 (carrier 1 .stopped .stopped)
  let s := seat (seat s 2 (carrier 2 .fault .stopped)) 3 { carrier 3 .stopped .stopped with inService := false }
  { s with arbiter := { s.arbiter with lastGrant := some 9990 } }

theorem witness_GroupMembersAccepted :
    fanOut.freeEntries ≠ 0 ∧ (frame 2 77 6 0).wf = true ∧ (2 : Fin 16).val = (frame 2 77 6 0).kind.toNat ∧
      (6 : Fin 8).val = (frame 2 77 6 0).priority.toNat ∧ fanOut.mgmt.mode = .run ∧ fanOut.group 0 = none ∧
      (∀ i, targetTable fanOut.kindMap[(2 : Fin 16)] (fanOut.slot i).standing =
        some (if i = 0 then .loaded else .parked)) ∧
      AccountKept fanOut ∧ HeadsAllowed fanOut ∧ GroupsKept fanOut ∧ LaneKept fanOut 1 ∧
      fanOut.arbiter.lastGrant = some 9990 ∧ fanOut.now < 9990 + 10 * fanOut.arbiter.staggerInterval ∧
      ((fanOut.members (.zone 0)).filter fun i => (memberCode fanOut i .parked).isNone) = [0, 1] ∧
      ((fanOut.members (.zone 3)).filter fun i => (memberCode fanOut i .parked).isNone) = [] :=
  ⟨by decide +kernel, by decide, rfl, rfl, by decide +kernel, by decide +kernel, by decide +kernel,
    account_of (by unfold slotFits; decide +kernel) (by decide +kernel), by unfold HeadsAllowed; decide +kernel,
    groups_of (by decide +kernel) (by decide +kernel), lane_of (by unfold laneFits; decide +kernel), by decide +kernel⟩

/-- The group settings, a motion rule with its counters, a class with its state, and the last entry of a table. -/
theorem witness_ReadsAnswered :
    calm.freeEntries ≠ 0 ∧ (tableFields calm .priorityMap)[(8 : Byte).toNat]? = some [1, 0] ∧
      (tableFields State.reset .motionRules)[(2 : Byte).toNat]? = some [1, 15, 3, 0, 181, 10, 1, 0, 0, 0, 0] ∧
      (tableFields State.reset .classes)[(0 : Byte).toNat]? = some [15, 3, 1, 44, 1, 0xFF, 0xFF, 15, 0, 0] ∧
      (tableFields State.reset .slotConfiguration)[(23 : Byte).toNat]? = some [3, 0, 0] ∧
      (tableFields State.reset .timing)[(0 : Byte).toNat]? = some [20, 10, 50] := by
  decide +kernel

/-- A case-wide group of which slot 5 remains, every other member refused. -/
def crowded : State :=
  { grouped with groups := grouped.groups.set 0 (some ⟨.all, 5, 4, .loaded, 0, 0, 24, [5], 0,
      (allSlots.erase 5).map fun i => (i, .absent)⟩) }

/-- An open record whose remaining members all end, a case-wide one just opened, of which one member ends, and one with 23
results. -/
theorem witness_ReadPayloadsFit : AccountKept grouped ∧ LanesKept grouped ∧ GroupsKept grouped ∧
    (∃ r, (∃ g, grouped.group g = some r) ∧ r.remaining ≠ [] ∧
      ((r.remaining.map fun i => (i, AnswerCode.gone)).map (·.1)).Nodup ∧
      ∀ o ∈ r.remaining.map (fun i => (i, AnswerCode.gone)), o.1 ∈ r.remaining) ∧
    (23 : SlotId) ∈ (grouped.openedRecord .all ⟨4, 1, 0, 0, []⟩ .loaded).remaining ∧
    (AccountKept crowded ∧ LanesKept crowded ∧ GroupsKept crowded ∧
      (crowded.group 0).any fun r => decide (r.results.length = 23 ∧ r.remaining.length = 1)) := by
  refine ⟨grouped_account, grouped_lanes, grouped_groups, ⟨(grouped.group 0).get (by decide +kernel), ⟨0, by simp⟩, ?_⟩, ?_,
    account_of ?_ ?_, fun i => lane_of ?_, groups_of ?_ ?_, ?_⟩
  all_goals first
    | decide +kernel
    | (unfold slotFits; decide +kernel)
    | (unfold laneFits; revert i; decide +kernel)

/-- The longest read answer: a GROUP section with 23 results and one remaining member (R200). -/
theorem test_longest_section : (crowded.statusReadPayload 3).length = 56 := by decide +kernel

theorem witness_RequestFormsRefused :
    calm.freeEntries ≠ 0 ∧ ¬ProperForm 0 [10, 0] ∧ ¬ProperForm 2 [0, 2] ∧ ¬ProperForm 3 [] ∧ ¬ProperForm 4 [7] ∧
      ¬ProperForm 6 [] ∧ ¬ProperForm 7 [0, 0] ∧ ¬ProperForm 8 [] ∧ ¬ProperForm 9 [64] ∧ ¬ProperForm 10 [64] ∧
      ¬ProperForm 11 [0] ∧ Table.classes.entries ≤ (8 : Byte).toNat ∧ 24 ≤ (24 : Byte).toNat ∧ (1 : Byte).toNat ≤ 1 ∧
      4 ≤ (4 : Byte).toNat := by
  simp only [properForm_iff]
  decide +kernel

/-- A class active in RUN. -/
def active0 : State := { calm.modifyClass 0 fun r => { r with active := true, expiry := some 12000 } with
  zones := Vector.replicate 4 ⟨true, true⟩ }

theorem witness_TableWritesRefused :
    working.freeEntries ≠ 0 ∧ WriteRefused working .timing 0 [] .malformed ∧
      WriteRefused working .priorityMap 9 [0, 0] .badIndex ∧ WriteRefused working .kindMap 15 [0] .locked ∧
      WriteRefused State.reset .kindMap 0 [7] .malformed ∧ WriteRefused working .priorityMap 8 [0, 2] .malformed ∧
      WriteRefused State.reset .nodeConfiguration 3 [0, 6, 0, 0, 0, 0, 0, 0] .malformed ∧
      WriteRefused working .motionRules 15 [0, 16, 0, 0, 0, 0, 0] .malformed ∧
      WriteRefused working .classes 7 [0, 4, 0, 0] .malformed ∧
      WriteRefused working .slotConfiguration 8 [0, 0, 0] .inUse ∧
      WriteRefused working .drawProfiles 0 [0, 0, 0, 0, 0, 0] .inUse ∧
      WriteRefused active0 .classes 0 [0, 3, 0, 0] .classActive :=
  ⟨by decide +kernel, .length (properForm_iff.not.2 (by decide)), .index (properForm_iff.2 (by decide)) (by decide),
    .locked (properForm_iff.2 (by decide)) (by decide) (by decide +kernel) (.inl rfl), .action 7 rfl (by decide) rfl rfl (by decide),
    .groupSetting 0 2 rfl rfl rfl (by decide), .nodeCode rfl (by decide) rfl rfl (by unfold nodeCodes; decide),
    .ruleCode rfl (by decide) rfl (by unfold ruleCodes; decide), .classCode rfl (by decide) rfl (by unfold classCodes; decide),
    .slotInUse 8 rfl rfl rfl (by decide +kernel) (by decide +kernel) (by decide +kernel),
    .profileInUse 0 8 rfl rfl rfl (by decide +kernel) (by decide +kernel) (by decide +kernel),
    .classActive 0 rfl rfl (by unfold classCodes; decide) (by decide +kernel) (by decide +kernel)⟩

theorem witness_PlainTableWritesStored :
    State.reset.freeEntries ≠ 0 ∧ State.reset.mgmt.mode = .config ∧ (15 : Fin 16).val = (15 : Byte).toNat ∧
      (7 : Fin 8).val = (7 : Byte).toNat ∧ (3 : Fin 4).val = min (255 : Byte).toNat 3 := by
  decide +kernel

/-- In CONFIG with the profile used, and in RUN with it unused. -/
theorem witness_DrawProfileWriteRederives :
    (let s := seat State.reset 0 (carrier 0 .parked .parked);
      s.freeEntries ≠ 0 ∧ AccountKept s ∧ s.mgmt.mode = .config ∧ (s.slot 0).profile = 0) ∧
      working.freeEntries ≠ 0 ∧ AccountKept working ∧
        ∀ j, (working.slot j).profile = 7 → (working.slot j).reservation = 0 ∧ (working.slot j).state ≠ .queued :=
  ⟨⟨by decide +kernel, account_of (by unfold slotFits; decide +kernel) (by decide +kernel), by decide +kernel,
    by decide +kernel⟩, by decide +kernel, working_account, by decide +kernel⟩

theorem witness_SlotConfigurationWriteStored :
    raised.freeEntries ≠ 0 ∧ (9 : SlotId).val = (9 : Byte).toNat ∧ (3 : ZoneId).val = min (9 : Byte).toNat 3 ∧
      (7 : Fin 8).val = min (7 : Byte).toNat 7 ∧ (0 : Fin 4).val = min (0 : Byte).toNat 3 ∧ AccountKept raised ∧
      (raised.slot 9).state = .stopped ∧ (raised.slot 0).state = .empty :=
  ⟨by decide +kernel, rfl, rfl, rfl, rfl, account_of (by unfold slotFits; decide +kernel) (by decide +kernel),
    by decide +kernel, by decide +kernel⟩

/-- A ceiling raised, one lowered below the total of 33, and one raised to the 25 that the first entry not frozen needs. -/
theorem witness_CeilingsWriteStored :
    working.freeEntries ≠ 0 ∧ AccountKept working ∧
      ({ working with arbiter := { working.arbiter with mainsCeiling := 32 } } : State).ceilingInForce <
        working.arbiter.reservationTotal ∧
      working.arbiter.reservationTotal ≤
        ({ working with arbiter := { working.arbiter with mainsCeiling := 33 } } : State).ceilingInForce ∧
      (let s := { waiting with arbiter := { waiting.arbiter with mainsCeiling := 24 } };
        s.freeEntries ≠ 0 ∧ AccountKept s ∧ NextGrant s s 5 ∧
          s.arbiter.reservationTotal + (s.profileOf 5).spinUpDraw ≤ 25) :=
  ⟨by decide +kernel, working_account, by decide +kernel, by decide +kernel, by decide +kernel,
    account_of (by unfold slotFits; decide +kernel) (by decide +kernel), next_of (by decide +kernel), by decide +kernel⟩

/-- CONFIG with no class active and node 3 disabled. -/
def disabled : State :=
  let s := calm.modifyNode 3 fun r =>
    { r with config := { r.config with enabled := false }, status := .off, silenceExpiry := none }
  { s with mgmt := { s.mgmt with mode := .config } }

/-- An enabled node that the write may disable, and a disabled one that it may enable. -/
theorem witness_NodeConfigurationWriteActs :
    State.reset.freeEntries ≠ 0 ∧ (3 : NodeId).val = (3 : Byte).toNat ∧
      (let s := seat State.reset 0 (carrier 0 .parked .parked);
        AccountKept s ∧ NodesKept s ∧ s.mgmt.mode = .config ∧ (s.node 3).config.enabled = true) ∧
      disabled.freeEntries ≠ 0 ∧ AccountKept disabled ∧ NodesKept disabled ∧ disabled.mgmt.mode = .config ∧
      (disabled.node 3).config.enabled = false ∧ (disabled.cls 0).holders[(3 : NodeId)] = false ∧
      (let t := after disabled (.nodeConfigurationWrite 1 3 [1, 4, 3, 0xE8, 3, 20, 8, 0]);
        (t.node 3).status = .recovering ∧ (t.cls 0).holders[(3 : NodeId)] = true ∧ (t.cls 0).active = true) :=
  ⟨by decide +kernel, rfl, ⟨account_of (by unfold slotFits; decide +kernel) (by decide +kernel),
    nodes_of (by unfold nodeFits; decide +kernel), by decide +kernel, by decide +kernel⟩, by decide +kernel,
    account_of (by unfold slotFits; decide +kernel) (by decide +kernel), nodes_of (by unfold nodeFits; decide +kernel),
    by decide +kernel⟩

theorem witness_ClassWriteActs :
    (active0.freeEntries ≠ 0 ∧ (7 : ClassId).val = (7 : Byte).toNat ∧ AccountKept active0 ∧ HoldsKept active0 ∧
        (active0.cls 7).active = false) ∧
      (let s := seat { active0 with mgmt := { active0.mgmt with mode := .config } } 5 (carrier 5 .parked .loaded);
        s.freeEntries ≠ 0 ∧ AccountKept s ∧ HoldsKept s ∧ (s.cls 0).active = true ∧ s.mgmt.mode = .config) :=
  ⟨⟨by decide +kernel, rfl, account_of (by unfold slotFits; decide +kernel) (by decide +kernel),
    holds_of (by unfold holdsFit; decide +kernel), by decide +kernel⟩, by decide +kernel,
    account_of (by unfold slotFits; decide +kernel) (by decide +kernel), holds_of (by unfold holdsFit; decide +kernel),
    by decide +kernel, by decide +kernel⟩

theorem witness_ModeRequests :
    raised.freeEntries ≠ 0 ∧ raised.mgmt.mode = .run ∧
      (∀ i, (raised.slot i).state = .empty ∨ (raised.slot i).state = .stopped ∨ (raised.slot i).state = .fault) ∧
      (∀ g, raised.group g = none) ∧
      (working.freeEntries ≠ 0 ∧ working.mgmt.mode = .run ∧ (working.slot 8).state = .parked) ∧
      (let s := seat { calm with mgmt := { calm.mgmt with mode := .config } } 9 (carrier 9 .stopped .parked);
        s.freeEntries ≠ 0 ∧ s.mgmt.mode = .config ∧ AccountKept s ∧ s.effectiveTarget 9 ≠ .stopped) := by
  refine ⟨?_, ?_, ?_, ?_, ?_, ?_, ?_, account_of ?_ ?_, ?_⟩ <;>
    first | decide +kernel | (unfold slotFits; decide +kernel)

theorem witness_SlotRequests :
    checked.freeEntries ≠ 0 ∧ AccountKept checked ∧ (checked.slot 2).state = .fault ∧
      (checked.slot 23).state ≠ .fault ∧ (checked.slot 1).inService = true ∧ GroupsKept checked ∧
      (checked.slot 5).inService = false ∧
      (grouped.freeEntries ≠ 0 ∧ AccountKept grouped ∧ (grouped.slot 5).inService = true ∧ GroupsKept grouped) :=
  ⟨by decide +kernel, account_of (by unfold slotFits; decide +kernel) (by decide +kernel), by decide +kernel,
    by decide +kernel, by decide +kernel, groups_of (by decide +kernel) (by decide +kernel), by decide +kernel,
    by decide +kernel, grouped_account, by decide +kernel, grouped_groups⟩

theorem witness_EventRequestsAnswered : calm.freeEntries ≠ 0 ∧ (63 : Byte).toNat ≤ 63 := by decide +kernel

/-- Levels that change and levels that do not; an expiry not reached. -/
theorem witness_InputLinesDebounced :
    calm.supply.line ≠ .low ∧ calm.supply.line = .high ∧ (calm.slot 23).input ≠ .low ∧ (calm.slot 23).input = .high ∧
      (∀ e ∈ ({ calm with supply := ⟨.low, .mains, some 10001, false⟩ } : State).supply.debounceExpiry,
        calm.now < e) ∧
      ∀ e ∈ (calm.slot 0).debounceExpiry, calm.now < e := by
  decide +kernel

theorem fallback_account : AccountKept fallback := account_of (by unfold slotFits; decide +kernel) (by decide +kernel)

/-- 9.10.2, the same with a ceiling that the total of 81 just meets, and a slot that the new source's ceiling lets the
arbiter grant. -/
theorem witness_SourceChangeSheds :
    fallback.supply.debounceExpiry = some 10000 ∧ 10000 ≤ fallback.now ∧ AccountKept fallback ∧
      GroupsKept fallback ∧
      (∀ i, i ∈ ([6, 5, 4, 3, 2, 1, 0] : List SlotId) ↔ 0 < (fallback.slot i).reservation ∧
        (fallback.slot i).shedMark = false ∧ (fallback.slot i).shedClass ≠ 3 ∧ (fallback.slot i).state ≠ .fault) ∧
      ([6, 5, 4, 3, 2, 1, 0] : List SlotId).Pairwise (fun i j =>
        (fallback.slot i).shedClass < (fallback.slot j).shedClass ∨
          ((fallback.slot i).shedClass = (fallback.slot j).shedClass ∧ j < i)) ∧
      ceilingOf fallback .battery < fallback.arbiter.reservationTotal ∧
      fallback.arbiter.reservationTotal ≤
        ceilingOf { fallback with arbiter := { fallback.arbiter with batteryCeiling := 81 } } .battery ∧
      (let s := { waiting with supply := ⟨.low, .mains, some 10000, false⟩ };
        AccountKept s ∧ GroupsKept s ∧ NextGrant s s 5 ∧
          s.arbiter.reservationTotal + (s.profileOf 5).spinUpDraw ≤ ceilingOf s .battery) := by
  refine ⟨?_, ?_, fallback_account, groups_of ?_ ?_, ?_, ?_, ?_, ?_, account_of ?_ ?_, groups_of ?_ ?_, next_of ?_, ?_⟩ <;>
    first | decide +kernel | (unfold slotFits; decide +kernel)

theorem witness_PresenceChanges :
    ((pulled.slot 17).debounceExpiry = some 10000 ∧ 10000 ≤ pulled.now ∧ AccountKept pulled ∧ GroupsKept pulled ∧
        (pulled.slot 17).input = .high) ∧
      (let s := calm.modifySlot 17 fun r => { r with input := .low, debounceExpiry := some 9999 };
        (s.slot 17).debounceExpiry = some 9999 ∧ 9999 ≤ s.now ∧ AccountKept s ∧ GroupsKept s ∧
        (s.slot 17).input = .low) :=
  ⟨⟨by decide +kernel, by decide +kernel, account_of (by unfold slotFits; decide +kernel) (by decide +kernel),
    groups_of (by decide +kernel) (by decide +kernel), by decide +kernel⟩, by decide +kernel, by decide +kernel,
    account_of (by unfold slotFits; decide +kernel) (by decide +kernel), groups_of (by decide +kernel) (by decide +kernel), by decide +kernel⟩

theorem witness_CompletionsMoveSlot :
    Awaits working 14 112 .spin 15000 ∧ arrival .spin [] = some .parked ∧ (List.replicate 16 (0 : Byte)).length ≤ 16 ∧
      arrival .query [2] = some .loaded ∧ AccountKept working ∧ HeadsAllowed working ∧ LanesKept working ∧
      GroupsKept working :=
  ⟨.inl (by decide +kernel), rfl, by decide, by decide, working_account, working_heads, working_lanes,
    groups_of (by decide +kernel) (by decide +kernel)⟩

/-- The ends that lead to FAULT, a preempting op whose first op is still out, a group's last member, and an entry to FAULT
that frees what the first entry of the queues needs. -/
theorem witness_FailureEntersFault :
    Awaits working 14 112 .spin 15000 ∧
      FailsWith working 14 112 .spin 15000 (.completion 14 112 (.failed 17) []) (.spinFailed 17) .failed ∧
      FailsWith working 14 112 .spin 15000 (.completion 14 112 .aborted []) (.spinFailed 0) .failed ∧
      FailsWith { working with now := 15000 } 14 112 .spin 15000 (.opDeadlineExpiry 14 112) .spinTimeout .timeout ∧
      FailsWith working 14 112 .query 15000 (.completion 14 112 .done [3]) (.carrierFault 0) .failed ∧
      (AccountKept working ∧ LanesKept working) ∧
      (Awaits (overtaken .first) 6 201 .unload 9800 ∧
        FailsWith (overtaken .first) 6 201 .unload 9800 (.opDeadlineExpiry 6 201) .unloadTimeout .timeout ∧
        AccountKept (overtaken .first) ∧ LanesKept (overtaken .first)) ∧
      (Awaits grouped 5 3 .spin 15000 ∧ AccountKept grouped ∧ LanesKept grouped ∧ GroupsKept grouped) ∧
      (let s := withOp (seat waiting 14 (carrier 14 .spinningUp .loaded)) 14 .spin 112 15000;
        Awaits s 14 112 .spin 15000 ∧ AccountKept s ∧ LanesKept s ∧ NextGrant s s 5 ∧ 0 < (s.slot 14).reservation ∧
          s.arbiter.reservationTotal - (s.slot 14).reservation + (s.profileOf 5).spinUpDraw ≤ s.ceilingInForce) :=
  ⟨.inl (by decide +kernel), .failed 17 [] (by decide), .aborted [] (by decide), .deadline (by decide),
    .otherState [3] (by decide) (by decide), ⟨working_account, working_lanes⟩,
    ⟨.inr (by decide +kernel), .deadline (by decide +kernel),
      account_of (by unfold slotFits; decide +kernel) (by decide +kernel),
      fun i => lane_of (by unfold laneFits; revert i; decide +kernel)⟩,
    ⟨.inl (by decide +kernel), grouped_account, grouped_lanes, grouped_groups⟩,
    .inl (by decide +kernel), account_of (by unfold slotFits; decide +kernel) (by decide +kernel),
    fun i => lane_of (by unfold laneFits; revert i; decide +kernel), next_of (by decide +kernel), by decide +kernel⟩

theorem witness_FirstOpsMoveNothing :
    (((overtaken .first).lane 6).governed = some ⟨.load, 200, 9000, 10000, .first⟩ ∧ Role.first ≠ .sole ∧
        LaneKept (overtaken .first) 6) ∧
      (((overtaken .residual).lane 6).governed = some ⟨.load, 200, 9000, 10000, .residual⟩ ∧ Role.residual ≠ .sole ∧
        LaneKept (overtaken .residual) 6 ∧ 10000 ≤ (overtaken .residual).now) ∧
      ([] : List Byte).length ≤ 16 :=
  ⟨⟨by decide +kernel, by decide, lane_of (by unfold laneFits; decide +kernel)⟩,
    ⟨by decide +kernel, by decide, lane_of (by unfold laneFits; decide +kernel), by decide +kernel⟩, by decide⟩

theorem witness_LateReportsCounted :
    111 ∉ (working.lane 14).outstanding ∧ (List.replicate 16 (0 : Byte)).length ≤ 16 ∧
      16 < (List.replicate 17 (0 : Byte)).length ∧ (∀ g ∈ (working.lane 14).governed, working.now < g.deadline) ∧
      (∀ p ∈ (working.lane 14).preempting, working.now < p.deadline) ∧
      ∀ p ∈ (working.lane 14).plain, working.now < p.deadline := by
  decide +kernel

theorem witness_PlainOpsAnswered :
    (checked.lane 1).plain = some ⟨64, 8, 9, 9990, 10490⟩ ∧ LaneKept checked 1 ∧
      (List.replicate 16 (0 : Byte)).length ≤ 16 ∧ 10490 ≤ ({ checked with now := 10490 } : State).now :=
  ⟨by decide +kernel, lane_of (by unfold laneFits; decide +kernel), by decide, by decide +kernel⟩

theorem witness_SelfParkStartsAndEnds :
    (checked.slot 23).state ≠ .loaded ∧ (checked.slot 1).state = .loaded ∧ AccountKept checked ∧ LaneKept checked 1 ∧
      (let s := seat calm 3 { carrier 3 .parked .loaded with selfParkExpiry := some 10000 };
        (∀ e ∈ (s.slot 3).selfParkExpiry, ({ s with now := 9999 } : State).now < e) ∧ AccountKept s ∧
        10000 ∈ (s.slot 3).selfParkExpiry ∧ 10000 ≤ s.now ∧ LaneKept s 3) :=
  ⟨by decide +kernel, by decide +kernel, account_of (by unfold slotFits; decide +kernel) (by decide +kernel),
    lane_of (by unfold laneFits; decide +kernel), by decide +kernel,
    account_of (by unfold slotFits; decide +kernel) (by decide +kernel), by decide +kernel, by decide +kernel,
    lane_of (by unfold laneFits; decide +kernel)⟩

theorem witness_CarrierFaultEntersFault :
    (checked.slot 1).state = .loaded ∧ (checked.slot 2).state = .fault ∧ (working.slot 14).state = .spinningUp ∧
      AccountKept working ∧ GroupsKept working ∧ AccountKept checked ∧ GroupsKept checked :=
  ⟨by decide +kernel, by decide +kernel, by decide +kernel, working_account,
    groups_of (by decide +kernel) (by decide +kernel), account_of (by unfold slotFits; decide +kernel) (by decide +kernel),
    groups_of (by decide +kernel) (by decide +kernel)⟩

/-- A waiting position at its deadline and 1 ms before; a PARKED slot held below its target; a slot SPINNING_UP. -/
theorem witness_WaitDeadlineTested :
    ((waiting.slot 5).active = some ⟨.controller, 60, 4, .loaded, some 10000, 5⟩ ∧ AccountKept waiting ∧
        GroupsKept waiting ∧ (waiting.slot 5).state = .queued ∧ ({ waiting with now := 9999 } : State).now < 10000 ∧
        10000 ≤ waiting.now) ∧
      (let s := { seat calm 8 { carrier 8 .parked .loaded with
            active := some ⟨.controller, 20, 4, .loaded, some 10000, 0⟩ } with
          zones := Vector.replicate 4 ⟨true, true⟩ };
        AccountKept s ∧ GroupsKept s ∧ (s.effectiveTarget 8).rank < Target.loaded.rank ∧ s.covered 8 = true) ∧
      (let s := seat calm 8 { carrier 8 .spinningUp .loaded with
          active := some ⟨.controller, 20, 4, .loaded, some 10000, 0⟩ };
        AccountKept s ∧ GroupsKept s ∧ (s.slot 8).state = .spinningUp) :=
  ⟨⟨by decide +kernel, account_of (by unfold slotFits; decide +kernel) (by decide +kernel), groups_of (by decide +kernel) (by decide +kernel),
    by decide +kernel, by decide +kernel, by decide +kernel⟩,
    ⟨account_of (by unfold slotFits; decide +kernel) (by decide +kernel), groups_of (by decide +kernel) (by decide +kernel),
      by decide +kernel, by decide +kernel⟩,
    account_of (by unfold slotFits; decide +kernel) (by decide +kernel), groups_of (by decide +kernel) (by decide +kernel), by decide +kernel⟩

theorem waiting_account : AccountKept waiting := account_of (by unfold slotFits; decide +kernel) (by decide +kernel)

/-- The candidate fits exactly, does not fit by 1, waits for the stagger, is frozen, or the mode is CONFIG. -/
theorem witness_StaggerExpiryGrants :
    waiting.arbiter.staggerExpiry = some 10000 ∧ AccountKept waiting ∧ 10000 ≤ waiting.now ∧
      ({ waiting with now := 9999 } : State).now < 10000 ∧ waiting.mgmt.mode = .run ∧
      (waiting.arbiter.queues[3] ++ waiting.arbiter.queues[2] ++ waiting.arbiter.queues[1] ++
        waiting.arbiter.queues[0] = [] ++ ⟨5, some 5⟩ :: []) ∧
      waiting.frozen 5 = false ∧
      (∀ q : Fin 4, ∀ x ∈ waiting.arbiter.queues[q],
        ({ waiting with zones := Vector.replicate 4 ⟨false, true⟩ } : State).frozen x.slot = true) ∧
      ({ waiting with arbiter := { waiting.arbiter with mainsCeiling := 24 } } : State).ceilingInForce <
        waiting.arbiter.reservationTotal + (waiting.profileOf 5).spinUpDraw ∧
      waiting.arbiter.reservationTotal + (waiting.profileOf 5).spinUpDraw ≤
        ({ waiting with arbiter := { waiting.arbiter with mainsCeiling := 25 } } : State).ceilingInForce ∧
      (∀ last ∈ waiting.arbiter.lastGrant, last + 10 * waiting.arbiter.staggerInterval ≤ waiting.now) ∧
      waiting.now < 9501 + 10 * waiting.arbiter.staggerInterval ∧ LaneKept waiting 5 := by
  refine ⟨?_, waiting_account, ?_, ?_, ?_, ?_, ?_, ?_, ?_, ?_, ?_, ?_, lane_of ?_⟩ <;>
    first | decide +kernel | (unfold laneFits; decide +kernel)

theorem witness_SampleUpdatesNode :
    Accepts calm 2 2 1 ∧ 300 ≤ 1100 ∧ 1100 ≤ 2400 ∧
      [2400, 1100, 300].Perm [(max (-16000) (min 16000 (BitVec.ofInt 16 (-300)).toInt)).natAbs,
        (max (-16000) (min 16000 (2400 : Word16).toInt)).natAbs,
        (max (-16000) (min 16000 (1100 : Word16).toInt)).natAbs] := by
  unfold Accepts
  decide +kernel

theorem witness_SampleDiscarded :
    (3 : Byte).toNat ≠ (2 : NodeId).val ∧
      ((calm.modifyNode 2 NodeRecord.disabled).node 2).status = .off ∧
      (let s := calm.modifyNode 2 fun r => { r with lastSequence := some 255, silenceExpiry := some 10000 };
        (s.node 2).lastSequence = some 255 ∧ (s.node 2).silenceExpiry = some 10000 ∧ 10000 ≤ s.now) := by
  decide +kernel

/-- A sample that fires class 0, and one with which a RECOVERING node leaves it. -/
theorem witness_RulesCountAndFire :
    Accepts calm 2 2 0 ∧
      (let s := State.reset.modifyNode 3 fun r => { r with progress := 7, lastSequence := some 255 };
        Accepts s 3 3 0 ∧ (s.node 3).status.blind = true ∧
          ((after s (.sample 3 3 0 0 0 1000)).node 3).status.blind = false) := by
  unfold Accepts
  decide +kernel

theorem witness_SilenceExpires :
    (let s := calm.modifyNode 1 fun r => { r with silenceExpiry := some 10000 };
      10000 ∈ (s.node 1).silenceExpiry ∧ 10000 ≤ s.now ∧ (s.node 1).status = .live ∧
        ∀ e ∈ (s.node 1).silenceExpiry, ({ s with now := 9999 } : State).now < e) ∧
      (State.reset.node 1).status ≠ .live := by
  decide +kernel

theorem witness_ClassExpires :
    (held.cls 0).active = true ∧ (held.cls 0).expiry = some 10000 ∧ ({ held with now := 9999 } : State).now < 10000 ∧
      10000 ≤ held.now ∧ (∀ n : NodeId, (held.cls 0).holders[n] = false) ∧
      ((held.modifyClass 0 fun r => { r with holders := Set4.all }).cls 0).holders[(3 : NodeId)] = true := by
  decide +kernel

/-- A class's expiry that uncovers, a sample and a node configuration write that cover, and an expiry that ends the freeze
of the zone whose slot is first in the queues. -/
theorem witness_HoldsMoveSlots :
    (AccountKept held ∧ HeadsAllowed held ∧ HoldsKept held ∧ (held.slot 5).state = .parked) ∧
      (let s := seat calm 5 (carrier 5 .loaded .loaded);
        AccountKept s ∧ HeadsAllowed s ∧ HoldsKept s ∧ (after s (.sample 2 2 1 0 3800 900)).covered 5 ≠ s.covered 5) ∧
      (let s := seat disabled 5 (carrier 5 .loaded .loaded);
        AccountKept s ∧ HeadsAllowed s ∧ HoldsKept s ∧
          (after s (.nodeConfigurationWrite 1 3 [1, 4, 3, 0xE8, 3, 20, 8, 0])).covered 5 ≠ s.covered 5) ∧
      (let s := { waiting with classes := held.classes, zones := held.zones };
        let t := after s (.classExpiry 0);
        AccountKept s ∧ HeadsAllowed s ∧ HoldsKept s ∧ TargetsServed s ∧ NextGrant s t 5 ∧ s.zones[0].frozen = true ∧
          t.zones[0].frozen = false ∧ s.arbiter.reservationTotal + (s.profileOf 5).spinUpDraw ≤ s.ceilingInForce) := by
  refine ⟨⟨account_of ?_ ?_, ?_, holds_of ?_, ?_⟩, ⟨account_of ?_ ?_, ?_, holds_of ?_, ?_⟩,
    ⟨account_of ?_ ?_, ?_, holds_of ?_, ?_⟩, account_of ?_ ?_, ?_, holds_of ?_, ?_, next_of ?_, ?_⟩ <;>
    first
    | decide +kernel
    | (unfold slotFits; decide +kernel)
    | (unfold HeadsAllowed; decide +kernel)
    | (unfold TargetsServed; decide +kernel)
    | (unfold holdsFit; decide +kernel)

theorem witness_MagnitudeAndDeviation :
    16000 ≤ 16000 ∧ [16000, 16000, 0].Perm [16000, 0, 16000] ∧ 500 ≤ 500 ∧ 2000 ≤ 2000 ∧ 0 ≤ 500 := by decide

/-- A gap of 2^k on either side, and one below it. -/
theorem witness_SteadyDeviationSettles :
    1 ≤ 6 ∧ 6 ≤ 6 ∧ 100 + 2 ^ 6 ≤ 164 ∧ 100 + 2 ^ 6 ≤ 164 ∧ (100 < 163 + 2 ^ 6 ∧ 163 < 100 + 2 ^ 6) := by decide

/-- `working` with a completion waiting. -/
def stepping : State := { working with pending := [.completion 14 112 .done []] }

/-- `stepping` after its step. -/
def stepped : State := after { working with pending := [] } (.completion 14 112 .done [])

theorem step_stepping : step stepping = .next stepped := by
  show exec (.completion 14 112 .done []) { working with pending := [] } = _
  exact exec_of_completes (by decide +kernel)

theorem witness_StepKeepsAccount :
    AccountKept stepping ∧ HeadsAllowed stepping ∧ TargetsServed stepping ∧ step stepping = .next stepped :=
  ⟨account_of (by unfold slotFits; decide +kernel) (by decide +kernel), by unfold HeadsAllowed; decide +kernel,
    by unfold TargetsServed; decide +kernel, step_stepping⟩

theorem witness_StepKeepsLanes : AccountKept stepping ∧ LanesKept stepping ∧ step stepping = .next stepped :=
  ⟨account_of (by unfold slotFits; decide +kernel) (by decide +kernel),
    fun i => lane_of (by unfold laneFits; revert i; decide +kernel), step_stepping⟩

theorem witness_StepKeepsNodes : NodesKept stepping ∧ ValuesKept stepping ∧ step stepping = .next stepped :=
  ⟨nodes_of (by unfold nodeFits; decide +kernel), by unfold ValuesKept; decide +kernel, step_stepping⟩

theorem witness_StepKeepsHolds : CountersKept stepping ∧ HoldsKept stepping ∧ step stepping = .next stepped :=
  ⟨by unfold CountersKept; decide +kernel, holds_of (by unfold holdsFit; decide +kernel), step_stepping⟩

theorem witness_StepKeepsGroups :
    GroupsKept { grouped with pending := [.selfParked 5] } ∧
      step { grouped with pending := [.selfParked 5] } = .next (after { grouped with pending := [] } (.selfParked 5)) :=
  ⟨groups_of (by decide +kernel) (by decide +kernel),
    show exec (.selfParked 5) { grouped with pending := [] } = _ from exec_of_completes (by decide +kernel)⟩

theorem witness_StepKeepsTrunk : TrunkKept stepping ∧ step stepping = .next stepped :=
  ⟨trunk_of (by unfold trunkFits; decide +kernel), step_stepping⟩

theorem attn_of {s : State} (h : ∀ f, ¬(s.mgmt.flags.get f = true ∧ s.mgmt.enables.get f = true))
    (a : s.mgmt.attn = false) : AttnKept s :=
  ⟨fun ha => by simp [a] at ha, fun ⟨f, hf⟩ => absurd hf (h f)⟩

theorem witness_StepKeepsAttnAndTables : AttnKept stepping ∧ TablesKept stepping ∧ step stepping = .next stepped :=
  ⟨attn_of (by intro f; cases f <;> decide +kernel) (by decide +kernel),
    by constructor <;> decide +kernel, step_stepping⟩

theorem witness_GrantsWithinCeiling :
    AccountKept { waiting with pending := [.staggerTimerExpiry] } ∧
      step { waiting with pending := [.staggerTimerExpiry] } =
        .next (after { waiting with pending := [] } .staggerTimerExpiry) ∧
      (waiting.slot 5).state = .queued ∧
      ((after { waiting with pending := [] } .staggerTimerExpiry).slot 5).state = .spinningUp :=
  ⟨account_of (by unfold slotFits; decide +kernel) (by decide +kernel),
    show exec .staggerTimerExpiry { waiting with pending := [] } = _ from exec_of_completes (by decide +kernel),
    by decide +kernel, by decide +kernel⟩

theorem witness_FramesRoundTrip :
    (∀ q ∈ [(([0x7D, 0x3C] : List Byte), (⟨0xC3, ⟨0x7D, 0x3C, 0x3D, 0, List.replicate 249 0xC3⟩⟩ : TrunkFrame))],
      (∀ b ∈ q.1, b ≠ 0xC3) ∧ q.2.body.payload.length ≤ 249) ∧ (List.replicate 16 (0 : Byte)).length ≤ 16 ∧
      (List.replicate 60 (0 : Byte)).length ≤ 60 ∧ ([3, 1, 255] : List Byte).length + 1 = (4 : Byte).toNat ∧
      [(0 : Byte), 0] ≠ crcBytes (4 :: [3, 1, 255]) := by
  decide +kernel

theorem witness_TableEntriesRoundTrip : TablesKept working := by constructor <;> decide +kernel

end Sys2Proof.Tests
end

section
/-! PROOFS. The arithmetic of a sample: the magnitude, the deviation and the rest point of the vibration level (R74 to
R78). -/

namespace Sys2Proof.Machine

/-! ### The magnitude (R74, R75) -/

/-- The middle and the smallest value enter the magnitude only by their sum, so the largest value and the total of the
three settle it. -/
theorem magnitude_eq_largest_add (x y z : Nat) :
    magnitude x y z = largest x y z + 3 * (x + y + z - largest x y z) / 8 := by
  have h : middle x y z + smallest x y z = x + y + z - largest x y z := by
    unfold middle smallest largest
    omega
  rw [magnitude, h]

theorem largest_eq_foldr (x y z : Nat) : largest x y z = [x, y, z].foldr max 0 := by
  simp [largest]

theorem largest_of_perm {a b c x y z : Nat} (h : [a, b, c].Perm [x, y, z]) : largest x y z = largest a b c := by
  rw [largest_eq_foldr, largest_eq_foldr, h.foldr_eq]

/-- The order in which the axes are taken, and so the way a tie is broken, has no effect (R74). -/
theorem magnitude_of_perm {a b c x y z : Nat} (h : [a, b, c].Perm [x, y, z]) :
    magnitude x y z = magnitude a b c := by
  have total : x + y + z = a + b + c := by simpa [add_assoc] using h.sum_nat.symm
  rw [magnitude_eq_largest_add, magnitude_eq_largest_add, largest_of_perm h, total]

theorem magnitude_of_sorted {a b c : Nat} (hcb : c ≤ b) (hba : b ≤ a) :
    magnitude a b c = a + 3 * (b + c) / 8 := by
  have top : largest a b c = a := by
    unfold largest
    omega
  have rest : a + b + c - a = b + c := by omega
  rw [magnitude_eq_largest_add, top, rest]

theorem magnitude_eq_zero_iff (x y z : Nat) : magnitude x y z = 0 ↔ x = 0 ∧ y = 0 ∧ z = 0 := by
  rw [magnitude_eq_largest_add, largest]
  omega

/-! ### The deviation (R76) -/

theorem deviation_cast (m g : Nat) : (deviation m g : Int) = |(m : Int) - g| :=
  Int.natCast_natAbs _

theorem deviation_zero_left (g : Nat) : deviation 0 g = g := by
  simp [deviation]

/-- The sign of M - G is not kept (R76). -/
theorem deviation_add_eq_sub {k g : Nat} (h : k ≤ g) : deviation (g + k) g = deviation (g - k) g := by
  unfold deviation
  omega

/-- Over the ranges of M (R75) and of the rest reference the deviation stays within 27500 (R76). -/
theorem deviation_le_of_ranges {m g : Nat} (hm : m ≤ 28000) (low : 500 ≤ g) (high : g ≤ 2000) :
    deviation m g ≤ 27500 := by
  unfold deviation
  omega

/-- Settles O48: the magnitude is a function of the largest value and the total, which no reordering changes. -/
theorem magnitudeAndDeviation : Obligations.MagnitudeAndDeviation := by
  intro a b c hcb hba ha
  have bound : magnitude a b c ≤ 28000 := magnitude_le ha (by omega) (by omega)
  refine ⟨fun x y z h => (magnitude_of_perm h).trans (magnitude_of_sorted hcb hba), by omega, by omega, by omega,
    bound, magnitude_eq_zero_iff a b c, magnitude_of_sorted le_rfl le_rfl, fun g low high => ?_⟩
  exact ⟨deviation_cast _ g, deviation_le_of_ranges bound low high, rfl, deviation_zero_left g,
    fun k h => deviation_add_eq_sub h⟩

/-! ### One update of the vibration level (R77) -/

theorem vibration_of_le {v d : Nat} (k : Nat) (h : v ≤ d) : vibration v d k = v + (d - v) / 2 ^ k := by
  have quotient : Int.tdiv ((d : Int) - v) (2 ^ k) = ((d - v) / 2 ^ k : Nat) := by
    rw [Int.ofNat_tdiv, Nat.cast_sub h, Nat.cast_pow, Nat.cast_ofNat]
  rw [vibration, quotient, ← Nat.cast_add, Int.toNat_natCast]

theorem vibration_of_ge {v d : Nat} (k : Nat) (h : d ≤ v) : vibration v d k = v - (v - d) / 2 ^ k := by
  have quotient : Int.tdiv ((d : Int) - v) (2 ^ k) = -((v - d) / 2 ^ k : Nat) := by
    rw [Int.ofNat_tdiv, Nat.cast_sub h, Nat.cast_pow, Nat.cast_ofNat, ← Int.neg_tdiv, neg_sub]
  rw [vibration, quotient, ← sub_eq_add_neg, Int.toNat_sub]

/-- A gap that is at least the divisor is shortened by at least 1 and left at least the divisor less 1. -/
theorem quotient_of_divisor_le {gap p : Nat} (hp : 0 < p) (h : p ≤ gap) :
    1 ≤ gap / p ∧ gap / p + (p - 1) ≤ gap := by
  obtain ⟨excess, rfl⟩ := Nat.exists_eq_add_of_le h
  have within := Nat.div_le_self excess p
  rw [Nat.add_div_left excess hp]
  exact ⟨Nat.le_add_left 1 _, by omega⟩

theorem vibration_rises {v d k : Nat} (h : v + 2 ^ k ≤ d) :
    v + 1 ≤ vibration v d k ∧ vibration v d k + (2 ^ k - 1) ≤ d := by
  obtain ⟨moves, leaves⟩ := quotient_of_divisor_le (gap := d - v) (Nat.two_pow_pos k) (by omega)
  rw [vibration_of_le k (by omega)]
  omega

theorem vibration_falls {v d k : Nat} (h : d + 2 ^ k ≤ v) :
    vibration v d k + 1 ≤ v ∧ d + (2 ^ k - 1) ≤ vibration v d k := by
  obtain ⟨moves, leaves⟩ := quotient_of_divisor_le (gap := v - d) (Nat.two_pow_pos k) (by omega)
  rw [vibration_of_ge k (by omega)]
  omega

/-- A gap below 2^k gives a truncated step of 0 (R78). -/
theorem vibration_eq_self {v d k : Nat} (above : v < d + 2 ^ k) (below : d < v + 2 ^ k) : vibration v d k = v := by
  rcases le_total v d with h | h
  · rw [vibration_of_le k h, Nat.div_eq_of_lt (by omega), Nat.add_zero]
  · rw [vibration_of_ge k h, Nat.div_eq_of_lt (by omega), Nat.sub_zero]

/-! ### Repeated updates under a steady deviation (R78) -/

/-- V stands at or below its rest point under the deviation D, at most m from it. -/
def BelowRest (d k m v : Nat) : Prop := v + (2 ^ k - 1) ≤ d ∧ d ≤ v + (2 ^ k - 1) + m

/-- V stands at or above its rest point over the deviation D, at most m from it. -/
def AboveRest (d k m v : Nat) : Prop := d + (2 ^ k - 1) ≤ v ∧ v ≤ d + (2 ^ k - 1) + m

theorem belowRest_vibration {d k m v : Nat} (h : BelowRest d k (m + 1) v) : BelowRest d k m (vibration v d k) := by
  obtain ⟨low, near⟩ := h
  have p := Nat.two_pow_pos k
  rcases Nat.lt_or_ge d (v + 2 ^ k) with rests | moves
  · rw [vibration_eq_self (by omega) rests]
    exact ⟨low, by omega⟩
  · obtain ⟨up, short⟩ := vibration_rises moves
    exact ⟨short, by omega⟩

theorem aboveRest_vibration {d k m v : Nat} (h : AboveRest d k (m + 1) v) : AboveRest d k m (vibration v d k) := by
  obtain ⟨high, near⟩ := h
  have p := Nat.two_pow_pos k
  rcases Nat.lt_or_ge v (d + 2 ^ k) with rests | moves
  · rw [vibration_eq_self rests (by omega)]
    exact ⟨high, by omega⟩
  · obtain ⟨down, short⟩ := vibration_falls moves
    exact ⟨short, by omega⟩

/-- A step that brings every point within m + 1 of a rest point to within m of it reaches the rest point from within m
in m steps. -/
theorem iterate_eq_rest {f : Nat → Nat} {Within : Nat → Nat → Prop} {rest : Nat}
    (nearer : ∀ m u, Within (m + 1) u → Within m (f u)) (stays : ∀ u, Within 0 u → u = rest) :
    ∀ m v, Within m v → f^[m] v = rest := by
  intro m
  induction m with
  | zero => exact stays
  | succ m ih =>
    intro v h
    rw [Function.iterate_succ_apply]
    exact ih (f v) (nearer m v h)

theorem iterate_vibration_of_belowRest {d k m v : Nat} (h : BelowRest d k m v) :
    (fun u => vibration u d k)^[m] v = d - (2 ^ k - 1) := by
  refine iterate_eq_rest (Within := BelowRest d k) (fun _ _ => belowRest_vibration) (fun u ⟨low, near⟩ => ?_) m v h
  omega

theorem iterate_vibration_of_aboveRest {d k m v : Nat} (h : AboveRest d k m v) :
    (fun u => vibration u d k)^[m] v = d + (2 ^ k - 1) := by
  refine iterate_eq_rest (Within := AboveRest d k) (fun _ _ => aboveRest_vibration) (fun u ⟨high, near⟩ => ?_) m v h
  omega

/-- Settles O49: each update brings V at least 1 nearer to its rest point without crossing it, so as many updates as the
gap is wide reach it, and it does not move from there. -/
theorem steadyDeviationSettles : Obligations.SteadyDeviationSettles := by
  intro v d k _ _
  refine ⟨fun rising => ?_, fun falling => ?_, vibration_eq_self⟩
  · obtain ⟨moves, leaves⟩ := vibration_rises rising
    refine ⟨by omega, moves, leaves, d - v, le_rfl, fun m hm => ?_⟩
    exact iterate_vibration_of_belowRest ⟨by omega, by omega⟩
  · obtain ⟨moves, leaves⟩ := vibration_falls falling
    refine ⟨by omega, moves, leaves, v - d, le_rfl, fun m hm => ?_⟩
    exact iterate_vibration_of_aboveRest ⟨by omega, by omega⟩

end Sys2Proof.Machine
end

section
/-! PROOFS. The expiry of an active class: it clears, or it waits on its blind holders (R107). -/

namespace Sys2Proof.Machine

/-! ### Expiries and sets of nodes -/

theorem reached_some (now e : Nat) : reached now (some e) = decide (e ≤ now) := rfl

theorem Set4.isEmpty_iff (h : Set4) : Set4.isEmpty h = true ↔ ∀ n : NodeId, h[n] = false := by
  simp [Set4.isEmpty, Fin.forall_fin_succ, and_assoc]

/-! ### A flag once set stays set to the end of the event (R195) -/

theorem EventFlags.get_raise (e : EventFlags) (f g : Flag) : (e.raise g).get f = (decide (f = g) || e.get f) := by
  cases f <;> cases g <;> rfl

/-- Of what concludes an event only the over-ceiling test writes a flag, and it only sets one (R158). -/
theorem concludeEvent_keeps_flag (before after : State) (f : Flag) (h : after.mgmt.flags.get f = true) :
    (concludeEvent before after).mgmt.flags.get f = true := by
  refine concludeEvent_induct (P := fun u => u.mgmt.flags.get f = true) before after h ?grant ?timer ?mark ?condition
    ?flag
  case grant => intro u i hu _ _ _; simpa using hu
  case timer => intro u i hu _ _ _; exact hu
  case mark => intro u i hu; simpa using hu
  case condition => intro u b hu; exact hu
  case flag => intro u hu; simp [EventFlags.get_raise, hu]

/-- A clear sets HOLD_CHANGE (R108). -/
theorem State.clear_holdChange (s : State) (c : ClassId) : (s.clear c).mgmt.flags.get .holdChange = true := by
  simp [State.clear, EventFlags.get_raise]

/-! ### The expiry event (R107) -/

theorem exec_classExpiry (c : ClassId) (s : State) : exec (.classExpiry c) s = execClassExpiry c s := rfl

section
variable {s : State} {c : ClassId} {e : Nat}

theorem exec_classExpiry_of_not_reached (expiry : (s.cls c).expiry = some e) (early : s.now < e) :
    exec (.classExpiry c) s = .next s := by
  have unreached : ¬e ≤ s.now := by omega
  simp [exec_classExpiry, execClassExpiry, expiry, reached_some, unreached]

/-- A reached expiry does what the class's blind holders decide. -/
theorem exec_classExpiry_of_reached (active : (s.cls c).active = true) (expiry : (s.cls c).expiry = some e)
    (due : e ≤ s.now) :
    exec (.classExpiry c) s =
      if Set4.isEmpty (s.cls c).holders then .next (concludeEvent s (s.clear c))
      else .next (s.modifyClass c fun r => { r with expiry := none }) := by
  simp [exec_classExpiry, execClassExpiry, active, expiry, reached_some, due]

end

/-- Settles O46: the event is a case split on the expiry and on the holders; where it clears the class, its conclusion
leaves classes, nodes and rules alone and no flag is lost. -/
theorem classExpires : Obligations.ClassExpires := by
  intro s c e active expiry
  refine ⟨exec_classExpiry_of_not_reached expiry, fun due ⟨n, holds⟩ => ?blind, fun due free => ?clears⟩
  case blind =>
    have held : ¬Set4.isEmpty (s.cls c).holders = true := fun empty => by
      simp [(Set4.isEmpty_iff _).1 empty n] at holds
    rw [exec_classExpiry_of_reached active expiry due, if_neg held]
  case clears =>
    rw [exec_classExpiry_of_reached active expiry due, if_pos ((Set4.isEmpty_iff _).2 free)]
    refine ⟨_, rfl, ?self, concludeEvent_keeps_flag s (s.clear c) .holdChange (s.clear_holdChange c), ?others, ?nodes,
      ?rules⟩
    case self => simp [State.clear_cls]
    case others => intro d other; simp [State.clear_cls, other]
    case nodes => simp
    case rules => simp

end Sys2Proof.Machine
end

section
/-! PROOFS. One induction over the events: what every event keeps, every command and every step keeps. -/

namespace Sys2Proof.Machine

/-! ### The conclusion of an event (R39, R158) -/

/-- What a grant, the timer, a marking and the two records of the over-ceiling condition keep. -/
structure ConclusionKeeps (P : State → Prop) : Prop where
  grant : ∀ u i, P u → u.mgmt.mode = .run → u.candidate = some i → u.drawFits i = true → u.staggerPassed = true →
    P (u.grant i)
  timer : ∀ u, P u → P { u with arbiter := { u.arbiter with staggerExpiry := u.staggerEnd } }
  mark : ∀ u i, P u → P (u.shedMarkSlot i)
  condition : ∀ u b, P u → P (u.setOverCeiling b)
  flag : ∀ u, P u → P (u.setFlag .overCeiling)

section
variable {P : State → Prop} {s : State}

theorem ConclusionKeeps.look (K : ConclusionKeeps P) (h : P s) : P s.look := by
  cases mode : s.mgmt.mode with
  | config => simpa [State.look, mode] using h
  | run =>
    refine (State.look_induct (P := fun u => P u ∧ u.mgmt.mode = .run) ⟨h, mode⟩ ?_ ?_).1
    · exact fun u i ⟨hu, m⟩ c d p => ⟨K.grant u i hu m c d p, by simpa using m⟩
    · exact fun u i ⟨hu, m⟩ _ _ _ => ⟨K.timer u hu, m⟩

theorem ConclusionKeeps.overCeilingTest (K : ConclusionKeeps P) (h : P s) : P s.overCeilingTest := by
  have shed : ∀ u, P u → P u.considerShed := by
    intro u hu
    rcases u.considerShed_cases with e | ⟨_, e⟩
    · rwa [e]
    · rw [e]; exact State.shedRun_induct _ _ hu fun i _ v hv => K.mark v i hv
  unfold State.overCeilingTest
  split
  · split
    · exact shed s h
    · exact shed _ (K.flag _ (K.condition s true h))
  · exact K.condition s false h

theorem ConclusionKeeps.testIfChanged (K : ConclusionKeeps P) (before : State) (h : P s) :
    P (testIfChanged before s) := by
  rcases testIfChanged_cases before s with ⟨_, e⟩ | ⟨_, e⟩
  · rw [e]; exact K.overCeilingTest h
  · rwa [e]

theorem ConclusionKeeps.concludeEvent (K : ConclusionKeeps P) (before : State) (h : P s) :
    P (concludeEvent before s) := by
  obtain ⟨u, ⟨rfl, _⟩ | ⟨rfl, _⟩, e⟩ := concludeEvent_cases before s
  · rw [e]; exact K.testIfChanged before h
  · rw [e]; exact K.testIfChanged before (K.look h)

end

/-! ### The events -/

/-- What every event makes of `B`, which holds before it and while its own effects are made, and of `P`, which holds from
then on. `B true` and `P true` are what holds with a free entry in the egress queue, which a trunk frame finds (R137) and its
answer takes. An invariant has one predicate for all. -/
structure EventsKeep (B P : Bool → State → Prop) : Prop where
  room : ∀ s, B false s → s.freeEntries ≠ 0 → B true s
  body : ∀ b s, B b s → P b s
  answer : ∀ s a, P true s → P false (s.answer a)
  conclusion : ∀ b, ConclusionKeeps (P b)
  /- slot frames and group frames -/
  plain : ∀ s i (f : FrameBody), B true s → (s.slot i).present = true → (s.lane i).plain = none →
    B false ((s.takeReservation).modifyLane i fun r =>
      r.issuePlain f.tag (frameKind f.kind) f.payload s.now (s.mgmt.timing.plainDeadline * 10))
  accept : ∀ s i f a, B true s → (s.slot i).present = true → s.governedRefusal i a = none →
    B false (s.accept i (s.requestOf i f a))
  openGroup : ∀ s g d f a, B true s → s.group g = none → B false (s.openGroup g (s.openedRecord d f a))
  /- the transmitter and RESTART -/
  restartPending : ∀ s tag, B false s → s.trunk.transmitting = true →
    B false { s with trunk := { s.trunk with restartPending := some tag } }
  restart : ∀ s x, B false s → s.trunk.transmitting = false → s.trunk.transmitted <+: x.transmitted →
    P true ({ s with trunk := x } : State).restartRecords.sendQueries
  /- table writes -/
  kindMap : ∀ s m, B true s → B true { s with kindMap := m }
  priorityMap : ∀ s m q y, B true s →
    B true { s with arbiter := { s.arbiter with priorityMap := m, groupQueue := q, groupByPriority := y } }
  profile : ∀ s (k : Fin 8) p entry, B true s → profileEntry entry = some p →
    B true (({ s with profiles := s.profiles.set k.val p k.isLt } : State).rederiveProfile k)
  slotEntry : ∀ s i zone profile shed, B true s → (s.slot i).state.atRest = true →
    B true ((s.modifySlot i fun r => { r with zone := zone, profile := profile, shedClass := shed }).proceed i false)
  ceilings : ∀ s m b entry, B true s → ceilingsEntry s.arbiter.mainsCeiling s.arbiter.batteryCeiling entry = some (m, b) →
    B true { s with arbiter := { s.arbiter with mainsCeiling := m, batteryCeiling := b } }
  stagger : ∀ s n, B true s → n ≤ 255 → B true { s with arbiter := { s.arbiter with staggerInterval := n } }
  configureNode : ∀ s n c entry, B true s → nodeEntry entry = some c → B true (s.configureNode n c)
  rule : ∀ s (k : Fin 16) r entry, B true s → ruleEntry entry = some r → B true { s with rules := s.rules.set k.val r k.isLt }
  classStored : ∀ s c zones unload freeze hold entry, B true s →
    classEntry entry = some (zones, unload, freeze, hold) → (s.cls c).active = false →
    B true (s.modifyClass c fun r => { r with zones := zones, unload := unload, freeze := freeze, holdTime := hold })
  classUpdated : ∀ s c zones unload freeze hold entry, B true s →
    classEntry entry = some (zones, unload, freeze, hold) → (s.cls c).active = true →
    B true ((s.modifyClass c fun r =>
      { r with zones := zones, unload := unload, freeze := freeze, holdTime := hold }).updateZones
        (Set4.union (s.cls c).zones zones) false)
  timing : ∀ s m entry, B true s → timingEntry entry = some m → B true { s with mgmt := { s.mgmt with timing := m } }
  /- mode, slot and event requests -/
  enterRun : ∀ s, B true s → s.mgmt.mode = .config →
    B true ((s.setMode .run).forSlots allSlots fun i t => if (t.slot i).state = .stopped then t.proceed i false else t)
  enterConfig : ∀ s, B true s → s.quiet = true → B true (s.setMode .config)
  clearFault : ∀ s i, B true s → B true (s.clearFaultOf i)
  withdraw : ∀ s i, B true s → B true (s.withdrawSlot i)
  restore : ∀ s i, B true s → B true (s.restoreSlot i)
  setEvents : ∀ s flags enables, B true s → B true (s.setEvents flags enables)
  /- input lines -/
  supplyLine : ∀ s level e, B false s → B false { s with supply := { s.supply with line := level, debounceExpiry := e } }
  source : ∀ s, B false s →
    B false { s with supply := { s.supply with source := sourceOf s.supply.line, debounceExpiry := none } }
  presenceInput : ∀ s i level, B false s → B false (s.modifySlot i fun r =>
    { r with input := level, debounceExpiry := debounceAfter s (seated level != r.present) })
  presenceGained : ∀ s i, B false s → (s.slot i).debounceExpiry.isSome = true → seated (s.slot i).input = true →
    B false (((s.modifySlot i fun r => { r with present := seated r.input, debounceExpiry := none }).setFlag
      .presenceChange).presenceGained i)
  presenceLost : ∀ s i, B false s → (s.slot i).debounceExpiry.isSome = true → seated (s.slot i).input = false →
    B false (((s.modifySlot i fun r => { r with present := seated r.input, debounceExpiry := none }).setFlag
      .presenceChange).presenceLost i)
  /- lane events -/
  completion : ∀ s i tag o payload, B false s → B false (s.takeCompletion i tag o payload)
  deadline : ∀ s i tag, B false s → B false (s.takeDeadline i tag)
  selfParkCounted : ∀ s i, B false s → B false (s.modifySlot i fun r => { r with selfParks := countUp r.selfParks })
  selfParked : ∀ s i, B false s → (s.slot i).state = .loaded →
    B false (((s.startSelfPark i).setFlag .selfPark).arrive i .parked)
  carrierFault : ∀ s i code, B false s → (s.slot i).state.powered = true → B false (s.enterFault i (.carrierFault code))
  /- timers -/
  holdExpiry : ∀ s i, B false s → B false ((s.modifySlot i fun r => { r with selfParkExpiry := none }).proceed i false)
  deadlineDropped : ∀ s i, B false s → B false (s.modifySlot i SlotRecord.withoutDeadline)
  waitExpired : ∀ s i a, B false s → (s.slot i).active = some a → s.waiting i a = true → B false (s.waitExpired i)
  staggerExpiry : ∀ s, B false s → B false { s with arbiter := { s.arbiter with staggerExpiry := none } }
  sample : ∀ s n node seq x y z, B false s → B false (s.takeSample n node seq x y z)
  silence : ∀ s n, B false s → (s.node n).silenceExpiry.isSome = true → B false (s.silence n)
  classClears : ∀ s c, B false s → (s.cls c).active = true → Set4.isEmpty (s.cls c).holders = true → B false (s.clear c)
  classWaits : ∀ s c, B false s → (s.cls c).active = true → Set4.isEmpty (s.cls c).holders = false →
    B false (s.modifyClass c fun r => { r with expiry := none })

namespace EventsKeep

variable {B P : Bool → State → Prop} {s : State}

/-! ### Refusals and the frame of a management request (R137, R185) -/

theorem refused (K : EventsKeep B P) (a : AnswerFrame) (h : B true s) : P false (s.answer a) :=
  K.answer s a (K.body _ _ h)

theorem concluded (K : EventsKeep B P) {b : Bool} (before : State) (h : P b s) : P b (concludeEvent before s) :=
  (K.conclusion b).concludeEvent before h

theorem ended (K : EventsKeep B P) {b : Bool} (before : State) (h : B b s) : P b (concludeEvent before s) :=
  K.concluded before (K.body _ _ h)

theorem withRoom (K : EventsKeep B P) {take : State → State} (h : B false s) (taken : B true s → P false (take s)) :
    P false (s.withRoom take) := by
  rcases s.withRoom_cases take with ⟨_, e⟩ | ⟨room, e⟩
  · rw [e]; exact K.body _ _ h
  · rw [e]; exact taken (K.room s h room)

theorem manage (K : EventsKeep B P) {kind : Nat} {tag : Byte} {payload : List Byte} {take : State → State}
    (h : B false s) (taken : B true s → P false (take s)) : P false (s.manage kind tag payload take) := by
  refine K.withRoom h fun ready => ?_
  split
  · exact K.refused _ ready
  · exact taken ready

theorem indexed (K : EventsKeep B P) {kind n : Nat} {tag b : Byte} {take : Fin n → State} (h : B true s)
    (taken : ∀ i, P false (take i)) : P false (s.indexed kind tag n b take) := by
  rcases s.indexed_cases kind tag n b take with ⟨_, e⟩ | ⟨_, e⟩
  · rw [e]; exact taken _
  · rw [e]; exact K.refused _ h

/-- A table write keeps what its owning block keeps (R188). -/
theorem tableWrite (K : EventsKeep B P) {t : Table} {tag index : Byte} {entry : List Byte} {write : State → Written}
    (h : B false s) (stored : ∀ v, B true s → write s = .stored v → P true v) :
    P false (s.tableWrite t tag index entry write) := by
  refine K.manage h fun ready => ?_
  split
  · split
    · exact K.refused _ ready
    · rename_i v e; exact K.answer v _ (stored v ready e)
  · exact K.refused _ ready

/-! ### Frames (R123, R142) -/

theorem takePlain (K : EventsKeep B P) (i : SlotId) (f : FrameBody) (a : Action) (h : B true s)
    (present : (s.slot i).present = true) : P false (s.takePlain i f a) := by
  unfold State.takePlain
  split
  · exact K.refused _ h
  · split
    · exact K.refused _ h
    · rename_i free; exact K.body _ _ (K.plain s i f h present (by simpa using free))

theorem takeGoverned (K : EventsKeep B P) (i : SlotId) (f : FrameBody) (a : Action) (h : B true s)
    (present : (s.slot i).present = true) : P false (s.takeGoverned i f a) := by
  unfold State.takeGoverned
  split
  · exact K.refused _ h
  · rename_i ok; exact K.body _ _ (K.accept s i f a h present ok)

theorem takeSlotFrame (K : EventsKeep B P) (i : SlotId) (f : FrameBody) (h : B true s) : P false (s.takeSlotFrame i f) := by
  unfold State.takeSlotFrame
  dsimp only
  split
  · exact K.refused _ h
  · split
    · exact K.refused _ h
    · rename_i seated
      have present : (s.slot i).present = true := by simpa using seated
      split
      · exact K.refused _ h
      · exact K.takePlain i f _ h present
      · exact K.takePlain i f _ h present
      all_goals exact K.takeGoverned i f _ h present

theorem slotFrameEvent (K : EventsKeep B P) (i : SlotId) (f : FrameBody) (h : B false s) :
    P false (s.slotFrameEvent i f) :=
  K.withRoom h fun ready => K.concluded s (K.takeSlotFrame i f ready)

theorem takeGroupFrame (K : EventsKeep B P) (d : GroupDest) (f : FrameBody) (h : B true s) :
    P false (s.takeGroupFrame d f) := by
  unfold State.takeGroupFrame
  dsimp only
  split
  · exact K.refused _ h
  · split
    · exact K.refused _ h
    · split
      · exact K.refused _ h
      · rename_i g free
        exact K.body _ _ (K.openGroup s g d f _ h (by simpa using List.find?_some free))

theorem groupFrameEvent (K : EventsKeep B P) (d : GroupDest) (f : FrameBody) (h : B false s) :
    P false (s.withRoom fun t => concludeEvent t (t.takeGroupFrame d f)) :=
  K.withRoom h fun ready => K.concluded s (K.takeGroupFrame d f ready)

/-! ### The transmitter and RESTART (R136, R180, R181) -/

theorem executeRestart (K : EventsKeep B P) (tag : Byte) (h : P true s.restartRecords.sendQueries) :
    P false (s.executeRestart tag) := by
  unfold State.executeRestart State.done
  exact K.answer _ _ ((K.conclusion true).overCeilingTest h)

theorem restartIfIdle (K : EventsKeep B P) (h : B false s) : P false s.restartIfIdle := by
  unfold State.restartIfIdle
  split
  · split
    · exact K.body _ _ h
    · rename_i idle
      exact K.executeRestart _ (K.restart s s.trunk h (by simpa using idle) List.prefix_rfl)
  · exact K.body _ _ h

theorem requestRestart (K : EventsKeep B P) (tag : Byte) (h : B false s) : P false (s.requestRestart tag) := by
  unfold State.requestRestart State.restartIfIdle
  dsimp only
  split
  · rename_i busy; exact K.body _ _ (K.restartPending s tag h busy)
  · rename_i idle
    exact K.executeRestart tag (K.restart s _ h (by simpa using idle) List.prefix_rfl)

/-- A frame whose end executes a RESTART has left the trunk port alone changed. -/
theorem headSent_eq (u : State) : u.headSent = { u with trunk := u.headSent.trunk } := by
  unfold State.headSent
  split <;> rfl

theorem startTransmission_eq (u : State) : u.startTransmission = { u with trunk := u.startTransmission.trunk } := by
  unfold State.startTransmission
  split <;> rfl

theorem headSent_transmitted (u : State) : u.trunk.transmitted <+: u.headSent.trunk.transmitted := by
  unfold State.headSent
  split
  · exact List.prefix_rfl
  · exact List.prefix_append _ _

/-- The end of a frame: the next one is begun, or the RESTART that waited is executed (R136, R180). -/
theorem answerSentEvent (K : EventsKeep B P) {t : State} (h : B false s) (e : exec .answerSent s = .next t)
    (sent : s.startTransmission.trunk.transmitting = true → s.trunk.restartPending = none →
      P false (s.startTransmission.headSent.sendSymbols.refreshFlow).startTransmission)
    (restarted : ∀ x : TrunkPort, s.trunk.transmitted <+: x.transmitted →
      P true ({ s with trunk := x } : State).restartRecords.sendQueries) : P false t := by
  have restarts : s.startTransmission.headSent.trunk.restartPending = s.trunk.restartPending := by
    unfold State.headSent
    split <;> simp
  change execAnswerSent s = .next t at e
  unfold execAnswerSent at e
  dsimp only at e
  split at e
  case isFalse => cases e; exact K.body _ _ h
  case isTrue sends =>
    rw [restarts] at e
    cases waits : s.trunk.restartPending with
    | none => rw [waits] at e; cases e; exact sent sends waits
    | some tag =>
      rw [waits] at e
      have executed : s.startTransmission.headSent.executeRestart tag = t := Host.Outcome.next.inj e
      have form : s.startTransmission.headSent = { s with trunk := s.startTransmission.headSent.trunk } := by
        rw [headSent_eq, startTransmission_eq]
      have kept := restarted _ (s.startTransmission_transmitted.trans (headSent_transmitted _))
      rw [← form] at kept
      exact executed ▸ K.executeRestart tag kept

/-! ### Table writes (R188) -/

section
variable {v : State} {entry : List Byte}

theorem writeKindMap (K : EventsKeep B P) {i : Fin 16} (h : B true s) (e : s.writeKindMap i entry = .stored v) :
    P true v := by
  unfold State.writeKindMap at e
  split at e
  · cases e
  · split at e
    · cases e
    · cases e; exact K.body _ _ (K.kindMap s _ h)

theorem writePriorityMap (K : EventsKeep B P) {i : Nat} (h : B true s) (e : s.writePriorityMap i entry = .stored v) :
    P true v := by
  unfold State.writePriorityMap at e
  split at e
  · split at e
    · cases e; exact K.body _ _ (K.priorityMap s _ s.arbiter.groupQueue s.arbiter.groupByPriority h)
    · split at e
      · cases e
      · cases e; exact K.body _ _ (K.priorityMap s s.arbiter.priorityMap _ _ h)
  · cases e

theorem writeProfile (K : EventsKeep B P) {k : Fin 8} (h : B true s) (e : s.writeProfile k entry = .stored v) :
    P true v := by
  unfold State.writeProfile at e
  split at e
  · cases e
  · rename_i p read
    split at e
    · cases e
    · cases e; exact K.ended s (K.profile s k p entry h read)

theorem writeSlot (K : EventsKeep B P) {i : SlotId} (h : B true s) (e : s.writeSlot i entry = .stored v) :
    P true v := by
  unfold State.writeSlot at e
  split at e
  · cases e
  · split at e
    · rename_i rest; cases e; exact K.ended s (K.slotEntry s i _ _ _ h rest)
    · cases e

theorem writeCeilings (K : EventsKeep B P) (h : B true s) (e : s.writeCeilings entry = .stored v) : P true v := by
  unfold State.writeCeilings at e
  split at e
  · cases e
  · rename_i m b read
    cases e
    have stored := K.body _ _ (K.ceilings s m b entry h read)
    refine (K.conclusion true).testIfChanged s ?_
    split
    · exact stored
    · exact (K.conclusion true).look stored

theorem writeStagger (K : EventsKeep B P) (h : B true s) (e : s.writeStagger entry = .stored v) : P true v := by
  unfold State.writeStagger at e
  split at e
  · cases e
  · rename_i n read
    cases e
    refine K.body _ _ (K.stagger s n h ?_)
    unfold staggerEntry at read
    split at read
    · cases read; exact Nat.min_le_right _ _
    · cases read

theorem writeNode (K : EventsKeep B P) {n : NodeId} (h : B true s) (e : s.writeNode n entry = .stored v) : P true v := by
  unfold State.writeNode at e
  split at e
  · cases e
  · split at e
    · cases e
    · rename_i c read; cases e; exact K.ended s (K.configureNode s n c entry h read)

theorem writeRule (K : EventsKeep B P) {k : Fin 16} (h : B true s) (e : s.writeRule k entry = .stored v) : P true v := by
  unfold State.writeRule at e
  split at e
  · cases e
  · rename_i r read; cases e; exact K.body _ _ (K.rule s k r entry h read)

theorem writeClass (K : EventsKeep B P) {c : ClassId} (h : B true s) (e : s.writeClass c entry = .stored v) :
    P true v := by
  unfold State.writeClass at e
  split at e
  · cases e
  · rename_i zones unload freeze hold read
    split at e
    · cases e
    · cases e
      split
      · rename_i active; exact K.ended s (K.classUpdated s c _ _ _ _ entry h read active)
      · rename_i idle; exact K.body _ _ (K.classStored s c _ _ _ _ entry h read (by simpa using idle))

theorem writeTiming (K : EventsKeep B P) (h : B true s) (e : s.writeTiming entry = .stored v) : P true v := by
  unfold State.writeTiming at e
  split at e
  · cases e
  · rename_i m read; cases e; exact K.body _ _ (K.timing s m entry h read)

end

/-- Every table write keeps what is kept (R188). -/
theorem runTableWrite (K : EventsKeep B P) (tb : Table) {tag index : Byte} {entry : List Byte} {t : State} (h : B false s)
    (e : runTableWrite tb tag index entry s = .next t) : P false t := by
  cases tb <;> cases e <;> refine K.tableWrite h fun v ready w => ?_
  case kindMap => split at w; exacts [K.writeKindMap ready w, nomatch w]
  case priorityMap => exact K.writePriorityMap ready w
  case drawProfiles => split at w; exacts [K.writeProfile ready w, nomatch w]
  case slotConfiguration => split at w; exacts [K.writeSlot ready w, nomatch w]
  case ceilings => exact K.writeCeilings ready w
  case stagger => exact K.writeStagger ready w
  case nodeConfiguration => split at w; exacts [K.writeNode ready w, nomatch w]
  case motionRules => split at w; exacts [K.writeRule ready w, nomatch w]
  case classes => split at w; exacts [K.writeClass ready w, nomatch w]
  case timing => exact K.writeTiming ready w

/-! ### The other management requests (R187 to R197) -/

section
variable {t : State} {tag : Byte} {payload : List Byte}

theorem tableRead (K : EventsKeep B P) (h : B false s) (e : execTableRead tag payload s = .next t) : P false t := by
  cases e
  refine K.manage h fun ready => ?_
  (repeat' split) <;> exact K.refused _ ready

theorem slotRead (K : EventsKeep B P) (h : B false s) (e : execSlotRead tag payload s = .next t) : P false t := by
  cases e
  refine K.manage h fun ready => ?_
  split
  · exact K.indexed ready fun i => K.refused _ ready
  · exact K.refused _ ready

theorem nodeRead (K : EventsKeep B P) (h : B false s) (e : execNodeRead tag payload s = .next t) : P false t := by
  cases e
  refine K.manage h fun ready => ?_
  split
  · exact K.indexed ready fun i => K.refused _ ready
  · exact K.refused _ ready

theorem statusRead (K : EventsKeep B P) (h : B false s) (e : execStatusRead tag payload s = .next t) : P false t := by
  cases e
  refine K.manage h fun ready => ?_
  split <;> exact K.refused _ ready

theorem setModeRun (K : EventsKeep B P) (h : B false s) (e : execSetModeRun tag s = .next t) : P false t := by
  cases e
  refine K.manage h fun ready => ?_
  split
  · exact K.refused _ ready
  · rename_i mode
    exact K.answer _ _ ((K.conclusion true).testIfChanged s ((K.conclusion true).look (K.body _ _ (K.enterRun s ready mode))))

theorem setModeConfig (K : EventsKeep B P) (h : B false s) (e : execSetModeConfig tag s = .next t) : P false t := by
  cases e
  refine K.manage h fun ready => ?_
  split
  · exact K.refused _ ready
  · split
    · rename_i quiet; exact K.refused _ (K.enterConfig s ready quiet)
    · exact K.refused _ ready

theorem clearFaultEvent (K : EventsKeep B P) (h : B false s) (e : execClearFault tag payload s = .next t) : P false t := by
  cases e
  refine K.manage h fun ready => ?_
  split
  · exact K.indexed ready fun i => K.answer _ _ (K.ended s (K.clearFault s i ready))
  · exact K.refused _ ready

theorem withdrawEvent (K : EventsKeep B P) (h : B false s) (e : execWithdraw tag payload s = .next t) : P false t := by
  cases e
  refine K.manage h fun ready => ?_
  split
  · exact K.indexed ready fun i => K.answer _ _ (K.ended s (K.withdraw s i ready))
  · exact K.refused _ ready

theorem restoreEvent (K : EventsKeep B P) (h : B false s) (e : execRestore tag payload s = .next t) : P false t := by
  cases e
  refine K.manage h fun ready => ?_
  split
  · exact K.indexed ready fun i => K.answer _ _ (K.ended s (K.restore s i ready))
  · exact K.refused _ ready

theorem ackEvents (K : EventsKeep B P) (h : B false s) (e : execAckEvents tag payload s = .next t) : P false t := by
  cases e
  refine K.manage h fun ready => ?_
  split
  · exact K.refused _ (K.setEvents s _ _ ready)
  · exact K.refused _ ready

theorem setEnables (K : EventsKeep B P) (h : B false s) (e : execSetEnables tag payload s = .next t) : P false t := by
  cases e
  refine K.manage h fun ready => ?_
  split
  · exact K.refused _ (K.setEvents s _ _ ready)
  · exact K.refused _ ready

theorem restartEvent (K : EventsKeep B P) (h : B false s) (e : execRestart tag payload s = .next t) : P false t := by
  unfold execRestart at e
  split at e <;> cases e
  · exact K.withRoom h fun ready => K.refused _ ready
  · exact K.requestRestart tag h

/-- A management frame, by its kind (R185). -/
theorem runManagement (K : EventsKeep B P) {kind : Byte} (h : B false s)
    (e : runManagement kind tag payload s = .next t) : P false t := by
  have refused : ∀ {u}, refuseManagement kind tag s = .next u → P false u := by
    intro u e
    cases e
    exact K.withRoom h fun ready => K.refused _ ready
  unfold Machine.runManagement at e
  split at e
  · exact K.tableRead h e
  · split at e
    · exact K.runTableWrite _ h e
    · exact refused e
  · exact K.slotRead h e
  · exact K.nodeRead h e
  · exact K.statusRead h e
  · split at e
    · exact K.setModeConfig h e
    · exact K.setModeRun h e
    · exact refused e
  · exact K.clearFaultEvent h e
  · exact K.withdrawEvent h e
  · exact K.restoreEvent h e
  · exact K.ackEvents h e
  · exact K.setEnables h e
  · exact K.restartEvent h e
  · exact refused e

/-- A whole trunk frame (R120). -/
theorem wholeFrame (K : EventsKeep B P) {f : TrunkFrame} (h : B false s) (e : execMalformedFrame f s = .next t) :
    P false t := by
  unfold execMalformedFrame at e
  split at e
  · cases e; exact K.withRoom h fun ready => K.refused _ ready
  · split at e
    · cases e; exact K.slotFrameEvent _ _ h
    · split at e
      · cases e; exact K.groupFrameEvent _ _ h
      · split at e
        · cases e; exact K.groupFrameEvent _ _ h
        · exact K.runManagement h e

end

/-! ### Lines, lanes and timers -/

section
variable {t : State}

theorem supplyLineEvent (K : EventsKeep B P) {level : Level} (h : B false s)
    (e : execSupplySourceLineChange level s = .next t) : P false t := by
  unfold execSupplySourceLineChange at e
  split at e <;> cases e
  · exact K.body _ _ h
  · exact K.body _ _ (K.supplyLine s level _ h)

theorem sourceEvent (K : EventsKeep B P) (h : B false s) (e : execSourceDebounceExpiry s = .next t) : P false t := by
  unfold execSourceDebounceExpiry at e
  split at e <;> cases e
  · exact (K.conclusion false).overCeilingTest ((K.conclusion false).look (K.body _ _ (K.source s h)))
  · exact K.body _ _ h

theorem presenceInputEvent (K : EventsKeep B P) {i : SlotId} {level : Level} (h : B false s)
    (e : execPresenceInputChange i level s = .next t) : P false t := by
  unfold execPresenceInputChange at e
  split at e <;> cases e
  · exact K.body _ _ h
  · exact K.body _ _ (K.presenceInput s i level h)

theorem isSome_of_reached {now : Nat} {expiry : Option Nat} (h : reached now expiry = true) : expiry.isSome = true := by
  cases expiry with
  | none => cases h
  | some e => rfl

theorem presenceEvent (K : EventsKeep B P) {i : SlotId} (h : B false s)
    (e : execPresenceDebounceExpiry i s = .next t) : P false t := by
  unfold execPresenceDebounceExpiry at e
  split at e
  · rename_i due
    cases e
    refine K.ended s ?_
    split
    · rename_i low; exact K.presenceGained s i h (isSome_of_reached due) low
    · rename_i high; exact K.presenceLost s i h (isSome_of_reached due) (by simpa using high)
  · cases e; exact K.body _ _ h

theorem completionEvent (K : EventsKeep B P) {i : SlotId} {tag : Byte} {o : CompletionOutcome} {payload : List Byte}
    (h : B false s) (e : execCompletion i tag o payload s = .next t) : P false t := by
  unfold execCompletion at e
  split at e <;> cases e
  · exact K.ended s (K.completion s i tag o payload h)
  · exact K.body _ _ h

theorem selfParkedEvent (K : EventsKeep B P) {i : SlotId} (h : B false s) (e : execSelfParked i s = .next t) :
    P false t := by
  unfold execSelfParked at e
  dsimp only at e
  have counted := K.selfParkCounted s i h
  split at e
  · rename_i loaded
    cases e
    exact K.ended s (K.selfParked _ i counted (by simpa using loaded))
  · cases e; exact K.body _ _ counted

theorem carrierFaultEvent (K : EventsKeep B P) {i : SlotId} {code : Byte} (h : B false s)
    (e : execCarrierFault i code s = .next t) : P false t := by
  unfold execCarrierFault at e
  split at e
  · rename_i on; cases e; exact K.ended s (K.carrierFault s i code h on)
  · cases e; exact K.body _ _ h

theorem holdExpiryEvent (K : EventsKeep B P) {i : SlotId} (h : B false s) (e : execSelfParkHoldExpiry i s = .next t) :
    P false t := by
  unfold execSelfParkHoldExpiry at e
  split at e <;> cases e
  · exact K.ended s (K.holdExpiry s i h)
  · exact K.body _ _ h

theorem waitDeadlineEvent (K : EventsKeep B P) {i : SlotId} (h : B false s) (e : execWaitDeadline i s = .next t) :
    P false t := by
  unfold execWaitDeadline at e
  split at e
  · cases e; exact K.body _ _ h
  · rename_i a active
    split at e
    · split at e
      · rename_i waits; cases e; exact K.ended s (K.waitExpired s i a h active waits)
      · cases e; exact K.body _ _ (K.deadlineDropped s i h)
    · cases e; exact K.body _ _ h

theorem staggerEvent (K : EventsKeep B P) (h : B false s) (e : execStaggerTimerExpiry s = .next t) : P false t := by
  unfold execStaggerTimerExpiry at e
  split at e <;> cases e
  · exact (K.conclusion false).testIfChanged s ((K.conclusion false).look (K.body _ _ (K.staggerExpiry s h)))
  · exact K.body _ _ h

theorem silenceEvent (K : EventsKeep B P) {n : NodeId} (h : B false s) (e : execSilenceTimerExpiry n s = .next t) :
    P false t := by
  unfold execSilenceTimerExpiry at e
  split at e
  · rename_i due; cases e; exact K.ended s (K.silence s n h (isSome_of_reached due))
  · cases e; exact K.body _ _ h

theorem classEvent (K : EventsKeep B P) {c : ClassId} (h : B false s) (e : execClassExpiry c s = .next t) :
    P false t := by
  unfold execClassExpiry at e
  split at e
  · rename_i due
    have active : (s.cls c).active = true := (Bool.and_eq_true _ _ ▸ due).1
    split at e
    · rename_i empty; cases e; exact K.ended s (K.classClears s c h active empty)
    · rename_i held; cases e; exact K.body _ _ (K.classWaits s c h active (by simpa using held))
  · cases e; exact K.body _ _ h

end

/-- What every event keeps, every command but a power-on reset keeps. -/
theorem exec (K : EventsKeep B P) {c : Instr} {t : State} (h : B false s) (e : exec c s = .next t)
    (on : c ≠ .powerOnReset) (sent : c = .answerSent → P false t) : P false t := by
  cases c
  case powerOnReset => exact absurd rfl on
  case slotRequest i f => cases e; exact K.slotFrameEvent i f h
  case plainFrame i f => cases e; exact K.slotFrameEvent i f h
  case blockedSlotFrame i f => cases e; exact K.slotFrameEvent i f h
  case groupFrame d f => cases e; exact K.groupFrameEvent d f h
  case answerSent => exact sent rfl
  case tableRead => exact K.tableRead h e
  case kindMapWrite => exact K.runTableWrite .kindMap h e
  case priorityMapWrite => exact K.runTableWrite .priorityMap h e
  case drawProfileWrite => exact K.runTableWrite .drawProfiles h e
  case slotConfigurationWrite => exact K.runTableWrite .slotConfiguration h e
  case ceilingsWrite => exact K.runTableWrite .ceilings h e
  case staggerWrite => exact K.runTableWrite .stagger h e
  case nodeConfigurationWrite => exact K.runTableWrite .nodeConfiguration h e
  case motionRuleWrite => exact K.runTableWrite .motionRules h e
  case classWrite => exact K.runTableWrite .classes h e
  case timingWrite => exact K.runTableWrite .timing h e
  case slotRead => exact K.slotRead h e
  case nodeRead => exact K.nodeRead h e
  case statusRead => exact K.statusRead h e
  case setModeRun => exact K.setModeRun h e
  case setModeConfig => exact K.setModeConfig h e
  case clearFault => exact K.clearFaultEvent h e
  case withdraw => exact K.withdrawEvent h e
  case restore => exact K.restoreEvent h e
  case ackEvents => exact K.ackEvents h e
  case setEnables => exact K.setEnables h e
  case restart => exact K.restartEvent h e
  case restartExecution => cases e; exact K.restartIfIdle h
  case supplySourceLineChange => exact K.supplyLineEvent h e
  case sourceDebounceExpiry => exact K.sourceEvent h e
  case presenceInputChange => exact K.presenceInputEvent h e
  case presenceDebounceExpiry => exact K.presenceEvent h e
  case completion => exact K.completionEvent h e
  case selfParked => exact K.selfParkedEvent h e
  case carrierFault => exact K.carrierFaultEvent h e
  case opDeadlineExpiry i tag => cases e; exact K.ended s (K.deadline s i tag h)
  case selfParkHoldExpiry => exact K.holdExpiryEvent h e
  case waitDeadline => exact K.waitDeadlineEvent h e
  case staggerTimerExpiry => exact K.staggerEvent h e
  case sample n node seq x y z => cases e; exact K.ended s (K.sample s n node seq _ _ _ h)
  case silenceTimerExpiry => exact K.silenceEvent h e
  case classExpiry => exact K.classEvent h e
  case malformedFrame => exact K.wholeFrame h e
  case unknownManagementKind => cases e; exact K.withRoom h fun ready => K.refused _ ready

/-- What holds after a power-on reset and is kept by the queue, by a tick and by every event is kept by every step. -/
theorem step (K : EventsKeep B P) {t : State} (queue : ∀ u q, B false u → B false { u with pending := q })
    (tick : ∀ u q, B false u → P false {({ u with now := u.now + 1 } : State).startTransmission with pending := q })
    (sent : ∀ u t, B false u → Machine.exec .answerSent u = .next t → P false t)
    (powerOn : ∀ inputs line q, P false { State.powerOn inputs line with pending := q })
    (h : B false s) (e : step s = .next t) : P false t := by
  unfold Machine.step at e
  split at e
  · cases e; exact tick s _ h
  · rename_i c rest _
    by_cases on : c = .powerOnReset
    · subst on; cases e; exact powerOn _ _ _
    · exact K.exec (queue s rest h) e on fun is => sent _ t (queue s rest h) (is ▸ e)

end EventsKeep

end Sys2Proof.Machine
end

section
/-! PROOFS. The hold unit and the motion front end: what every event leaves of their records, for what is said of them
alone. -/

namespace Sys2Proof.Machine

/-! ### A RESTART's records -/

section
variable (s : State)

/-- The QUERYs of a RESTART reach lanes alone (R181). -/
theorem State.sendQueries_eq : s.sendQueries = { s with lanes := s.sendQueries.lanes } := by
  unfold State.sendQueries
  refine State.forSlots_induct (P := fun t => t = { s with lanes := t.lanes }) _ rfl ?_
  intro i _ t h
  split
  · rw [h]; simp [State.ask, State.modifyLane]
  · exact h

@[simp] theorem State.sendQueries_fields : s.sendQueries.now = s.now ∧ s.sendQueries.trunk = s.trunk ∧
    s.sendQueries.kindMap = s.kindMap ∧ s.sendQueries.slots = s.slots ∧ s.sendQueries.profiles = s.profiles ∧
    s.sendQueries.arbiter = s.arbiter ∧ s.sendQueries.nodes = s.nodes ∧ s.sendQueries.rules = s.rules ∧
    s.sendQueries.classes = s.classes ∧ s.sendQueries.zones = s.zones ∧ s.sendQueries.groups = s.groups ∧
    s.sendQueries.supply = s.supply ∧ s.sendQueries.mgmt = s.mgmt ∧ s.sendQueries.pending = s.pending := by
  rw [s.sendQueries_eq]; simp

end

/-! ### What is said of nodes, rules, classes and zones -/

/-- What of the hold unit and the motion front end alone is kept by the events that write them. -/
structure SensorsKeep (P : State → Prop) : Prop where
  congr : ∀ s t : State, P s → t.nodes = s.nodes → t.rules = s.rules → t.classes = s.classes → t.zones = s.zones → P t
  defaults : ∀ (s : State) (time : Nat), P { s with
    nodes := Vector.replicate 4 (defaultNode time), rules := defaultRules, classes := defaultClasses, zones := defaultZones }
  configureNode : ∀ s n c entry, P s → nodeEntry entry = some c → P (s.configureNode n c)
  rule : ∀ s (k : Fin 16) r entry, P s → ruleEntry entry = some r → P { s with rules := s.rules.set k.val r k.isLt }
  classStored : ∀ s c zones unload freeze hold entry, P s →
    classEntry entry = some (zones, unload, freeze, hold) → (s.cls c).active = false →
    P (s.modifyClass c fun r => { r with zones := zones, unload := unload, freeze := freeze, holdTime := hold })
  classUpdated : ∀ s c zones unload freeze hold entry, P s →
    classEntry entry = some (zones, unload, freeze, hold) → (s.cls c).active = true →
    P ((s.modifyClass c fun r =>
      { r with zones := zones, unload := unload, freeze := freeze, holdTime := hold }).updateZones
        (Set4.union (s.cls c).zones zones) false)
  sample : ∀ s n node seq x y z, P s → P (s.takeSample n node seq x y z)
  silence : ∀ s n, P s → (s.node n).silenceExpiry.isSome = true → P (s.silence n)
  classClears : ∀ s c, P s → (s.cls c).active = true → Set4.isEmpty (s.cls c).holders = true → P (s.clear c)
  classWaits : ∀ s c, P s → (s.cls c).active = true → Set4.isEmpty (s.cls c).holders = false →
    P (s.modifyClass c fun r => { r with expiry := none })

section
variable {P : State → Prop}

theorem SensorsKeep.conclusion (K : SensorsKeep P) : ConclusionKeeps P where
  grant u i h _ _ _ _ := K.congr u _ h (by simp) (by simp) (by simp) (by simp)
  timer u h := K.congr u _ h rfl rfl rfl rfl
  mark u i h := K.congr u _ h (by simp) (by simp) (by simp) (by simp)
  condition u b h := K.congr u _ h rfl rfl rfl rfl
  flag u h := K.congr u _ h (by simp) (by simp) (by simp) (by simp)

theorem SensorsKeep.enterRun (K : SensorsKeep P) {s : State} (h : P s) :
    P ((s.setMode .run).forSlots allSlots fun i t => if (t.slot i).state = .stopped then t.proceed i false else t) := by
  refine State.forSlots_induct _ (K.congr s _ h rfl rfl rfl rfl) ?_
  intro i _ t ht
  split
  · exact K.congr t _ ht (by simp) (by simp) (by simp) (by simp)
  · exact ht

theorem SensorsKeep.events (K : SensorsKeep P) : EventsKeep (fun _ => P) (fun _ => P) := by
  have same : ∀ {s t : State}, P s → t.nodes = s.nodes → t.rules = s.rules → t.classes = s.classes →
      t.zones = s.zones → P t := fun {s t} => K.congr s t
  refine {
    room := fun s h _ => h
    body := fun _ s h => h
    answer := fun s a h => same h ?_ ?_ ?_ ?_
    conclusion := fun _ => K.conclusion
    plain := fun s i f h _ _ => same h ?_ ?_ ?_ ?_
    accept := fun s i f a h _ _ => same h ?_ ?_ ?_ ?_
    openGroup := fun s g d f a h _ => same h ?_ ?_ ?_ ?_
    restartPending := fun s tag h _ => same h ?_ ?_ ?_ ?_
    restart := fun s x _ _ _ => K.congr _ _ (K.defaults s s.now) ?_ ?_ ?_ ?_
    kindMap := fun s m h => same h ?_ ?_ ?_ ?_
    priorityMap := fun s m q y h => same h ?_ ?_ ?_ ?_
    profile := fun s k p entry h _ => same h ?_ ?_ ?_ ?_
    slotEntry := fun s i zone profile shed h _ => same h ?_ ?_ ?_ ?_
    ceilings := fun s m b entry h _ => same h ?_ ?_ ?_ ?_
    stagger := fun s n h _ => same h ?_ ?_ ?_ ?_
    configureNode := K.configureNode
    rule := K.rule
    classStored := K.classStored
    classUpdated := K.classUpdated
    timing := fun s m entry h _ => same h ?_ ?_ ?_ ?_
    enterRun := fun s h _ => K.enterRun h
    enterConfig := fun s h _ => same h ?_ ?_ ?_ ?_
    clearFault := fun s i h => same h ?_ ?_ ?_ ?_
    withdraw := fun s i h => same h ?_ ?_ ?_ ?_
    restore := fun s i h => same h ?_ ?_ ?_ ?_
    setEvents := fun s flags enables h => same h ?_ ?_ ?_ ?_
    supplyLine := fun s level e h => same h ?_ ?_ ?_ ?_
    source := fun s h => same h ?_ ?_ ?_ ?_
    presenceInput := fun s i level h => same h ?_ ?_ ?_ ?_
    presenceGained := fun s i h _ _ => same h ?_ ?_ ?_ ?_
    presenceLost := fun s i h _ _ => same h ?_ ?_ ?_ ?_
    completion := fun s i tag o payload h => same h ?_ ?_ ?_ ?_
    deadline := fun s i tag h => same h ?_ ?_ ?_ ?_
    selfParkCounted := fun s i h => same h ?_ ?_ ?_ ?_
    selfParked := fun s i h _ => same h ?_ ?_ ?_ ?_
    carrierFault := fun s i code h _ => same h ?_ ?_ ?_ ?_
    holdExpiry := fun s i h => same h ?_ ?_ ?_ ?_
    deadlineDropped := fun s i h => same h ?_ ?_ ?_ ?_
    waitExpired := fun s i a h _ _ => same h ?_ ?_ ?_ ?_
    staggerExpiry := fun s h => same h ?_ ?_ ?_ ?_
    sample := K.sample
    silence := K.silence
    classClears := K.classClears
    classWaits := K.classWaits }
  all_goals simp [State.restartRecords]

/-- What of the hold unit and the motion front end alone is kept by their own events, every step keeps. -/
theorem SensorsKeep.step (K : SensorsKeep P) {s t : State} (h : P s) (e : step s = .next t) : P t := by
  refine K.events.step (fun u q hu => K.congr u _ hu rfl rfl rfl rfl) (fun u q hu => ?_) (fun u v hu e => ?_)
    (fun inputs line q => K.congr _ _ (K.defaults State.reset 0) rfl rfl rfl rfl) h e
  · exact K.congr u _ hu (by simp) (by simp) (by simp) (by simp)
  · refine K.events.answerSentEvent hu e (fun _ _ => ?_) (fun x _ => ?_)
    · exact K.congr u _ hu (by simp) (by simp) (by simp) (by simp)
    · exact K.congr _ _ (K.defaults u u.now) (by simp [State.restartRecords]) (by simp [State.restartRecords])
        (by simp [State.restartRecords]) (by simp [State.restartRecords])

end

/-- A rule stored in the rule table. -/
theorem State.rule_stored (s : State) (k j : Fin 16) (r : MotionRule) :
    ({ s with rules := s.rules.set k.val r k.isLt } : State).rule j = if j = k then r else s.rule j := by
  by_cases own : j = k
  · subst own; simp [State.rule]
  · simp [State.rule, Fin.val_inj, own, Ne.symm own]

/-! ### What an entry that is read holds (R189, R200) -/

theorem clampNat_between {lo hi : Nat} (n : Nat) (h : lo ≤ hi) : lo ≤ clampNat lo hi n ∧ clampNat lo hi n ≤ hi := by
  unfold clampNat
  omega

theorem clampInt_between {lo hi : Int} (n : Int) (h : lo ≤ hi) : lo ≤ clampInt lo hi n ∧ clampInt lo hi n ≤ hi := by
  unfold clampInt
  omega

theorem ruleEntry_eq_some {e : List Byte} {r : MotionRule} (h : ruleEntry e = some r) :
    ∃ u ns m w p c, r = freshRule u ns m (clampThreshold m w) (clampNat 1 15 p) c := by
  unfold ruleEntry at h
  split at h
  · simp only [Option.bind_eq_bind, Option.bind_eq_some_iff, Option.pure_def, Option.some.injEq] at h
    obtain ⟨u, -, ns, -, m, -, c, -, rfl⟩ := h
    exact ⟨_, _, _, _, _, _, rfl⟩
  · cases h

theorem ruleEntry_counters {e : List Byte} {r : MotionRule} (h : ruleEntry e = some r) (n : NodeId) :
    r.counters[n] = 0 := by
  obtain ⟨u, ns, m, w, p, c, rfl⟩ := ruleEntry_eq_some h
  simp [freshRule]

theorem nodeEntry_eq_some {e : List Byte} {c : NodeConfig} (h : nodeEntry e = some c) :
    ∃ u d g k silence recovery b, c = ⟨u, d, clampNat 500 2000 g, clampNat 1 6 k, clampNat 2 255 silence,
      clampNat 1 15 recovery, b⟩ := by
  unfold nodeEntry at h
  split at h
  · simp only [Option.bind_eq_bind, Option.bind_eq_some_iff, Option.pure_def, Option.some.injEq] at h
    obtain ⟨u, -, d, -, b, -, rfl⟩ := h
    exact ⟨_, _, _, _, _, _, _, rfl⟩
  · cases h

theorem classEntry_holdTime {e : List Byte} {zones : Set4} {unload freeze : Bool} {hold : Nat}
    (h : classEntry e = some (zones, unload, freeze, hold)) : 1 ≤ hold ∧ hold ≤ 6000 := by
  unfold classEntry at h
  split at h
  · simp only [Option.bind_eq_bind, Option.bind_eq_some_iff, Option.pure_def, Option.some.injEq, Prod.mk.injEq] at h
    obtain ⟨-, -, -, -, -, -, -, rfl⟩ := h
    exact clampNat_between _ (by omega)
  · cases h

end Sys2Proof.Machine
end

section
/-! PROOFS. The hold unit's standings and activity, event by event (R100, R104, R113). -/

namespace Sys2Proof.Machine

/-! ### What a sample makes of the rules and the classes (R101, R105) -/

/-- The rule fires at a sample of node `n`: it watches the node, and its counter then stands at its persistence (R102). -/
def MotionRule.fires (r : MotionRule) (n : NodeId) (x : Results) : Bool :=
  r.watches n && decide (r.counterAfter n x = r.persistence)

section
variable (s : State) (n : NodeId) (x : Results)

theorem State.evaluateRule_of_not_watches {k : Fin 16} (h : (s.rule k).watches n = false) : s.evaluateRule n x k = s := by
  simp [State.evaluateRule, h]

/-- The rules after the evaluation by the rules of a list without repetition. -/
theorem foldl_evaluateRule_rule (ks : List (Fin 16)) (once : ks.Nodup) (j : Fin 16) :
    (ks.foldl (fun t k => t.evaluateRule n x k) s).rule j =
      if j ∈ ks ∧ (s.rule j).watches n = true then
        { s.rule j with counters := (s.rule j).counters.set n.val ((s.rule j).counterAfter n x) n.isLt }
      else s.rule j := by
  induction ks generalizing s with
  | nil => simp
  | cons k ks ih =>
    obtain ⟨fresh, once⟩ := List.nodup_cons.1 once
    rw [List.foldl_cons, ih _ once, s.evaluateRule_rule n x k j]
    by_cases first : j = k
    · subst first; simp [fresh]
    · simp [first]

/-- Every rule that watches the node counts, and no rule is else changed (R101). -/
theorem State.evaluateRules_rule (j : Fin 16) :
    (s.evaluateRules n x).rule j =
      if (s.rule j).watches n = true then
        { s.rule j with counters := (s.rule j).counters.set n.val ((s.rule j).counterAfter n x) n.isLt }
      else s.rule j := by
  simp [State.evaluateRules, foldl_evaluateRule_rule s n x _ (List.nodup_finRange 16) j]

/-- One rule's evaluation reaches its class alone, by a firing. -/
theorem State.evaluateRule_cls (k : Fin 16) (c : ClassId) :
    (s.evaluateRule n x k).cls c =
      if (s.rule k).fires n x = true ∧ c = (s.rule k).cls then
        { s.cls c with
          active := true, expiry := some (laterExpiry (s.cls c).expiry (s.now + (s.cls c).holdTime * 10))
          fireCount := countUp (s.cls c).fireCount }
      else s.cls c := by
  cases w : (s.rule k).watches n
  · simp [State.evaluateRule, MotionRule.fires, w]
  · by_cases full : (s.rule k).counterAfter n x = (s.rule k).persistence
    · by_cases own : c = (s.rule k).cls
      · simp [State.evaluateRule, MotionRule.fires, w, full, State.fire_cls, own]
      · simp [State.evaluateRule, MotionRule.fires, w, full, State.fire_cls, own]
    · simp [State.evaluateRule, MotionRule.fires, w, full]

end

/-! ### The standings (R113) -/

/-- Every zone has the standings that the classes give it. -/
def ZonesStand (s : State) : Prop := ∀ z : ZoneId, s.zones[z] = s.zoneStanding z

/-- What a class gives the zones: its effects where it is active. -/
def ClassRecord.gives (r : ClassRecord) (z : ZoneId) : Bool × Bool :=
  (r.active && r.unload && r.zones[z], r.active && r.freeze && r.zones[z])

theorem State.zoneStanding_congr {s t : State} {z : ZoneId} (h : ∀ c, (t.cls c).gives z = (s.cls c).gives z) :
    t.zoneStanding z = s.zoneStanding z := by
  simp only [ClassRecord.gives, Prod.mk.injEq] at h
  simp only [State.zoneStanding, h]

theorem zonesStand_congr {s t : State} (h : ZonesStand s) (zones : t.zones = s.zones)
    (gives : ∀ c z, (t.cls c).gives z = (s.cls c).gives z) : ZonesStand t := by
  intro z
  rw [State.zoneStanding_congr fun c => gives c z, ← h z, zones]

/-- A zone update restores the standings where the classes give the zones not named what they gave. -/
theorem zonesStand_updateZones {s t : State} (h : ZonesStand s) (zs : Set4) (onset : Bool) (zones : t.zones = s.zones)
    (gives : ∀ c z, zs[z] = false → (t.cls c).gives z = (s.cls c).gives z) : ZonesStand (t.updateZones zs onset) := by
  intro z
  rw [State.updateZones_zones, State.recomputeZones_zone,
    show (t.updateZones zs onset).zoneStanding z = t.zoneStanding z from State.zoneStanding_congr (by simp)]
  split
  · rfl
  · rename_i unnamed
    rw [State.zoneStanding_congr fun c => gives c z (by simpa using unnamed), ← h z, zones]

section
variable {s : State}

theorem zonesStand_activate (h : ZonesStand s) (c : ClassId) : ZonesStand (s.activate c) := by
  unfold State.activate State.onset
  split
  · exact h
  · rename_i idle
    refine zonesStand_updateZones h _ _ (by simp) fun d z unnamed => ?_
    by_cases own : d = c
    · subst own; simp at unnamed; simp [ClassRecord.gives, unnamed]
    · simp [own]

theorem zonesStand_fire (h : ZonesStand s) (c : ClassId) : ZonesStand (s.fire c) := by
  refine zonesStand_activate (zonesStand_congr h (by simp) fun d z => ?_) c
  by_cases own : d = c
  · subst own; simp [ClassRecord.gives]
  · simp [own]

theorem zonesStand_joinClass (h : ZonesStand s) (n : NodeId) (c : ClassId) : ZonesStand (s.joinClass n c) := by
  refine zonesStand_activate (zonesStand_congr h (by simp) fun d z => ?_) c
  by_cases own : d = c
  · subst own; simp [ClassRecord.gives]
  · simp [own]

theorem zonesStand_leaveClass (h : ZonesStand s) (n : NodeId) (c : ClassId) : ZonesStand (s.leaveClass n c) := by
  refine zonesStand_congr h (by simp) fun d z => ?_
  unfold State.leaveClass
  by_cases own : d = c
  · subst own
    simp only [State.cls_modifyClass_self]
    split <;> rfl
  · simp [own]

theorem zonesStand_clear (h : ZonesStand s) (c : ClassId) : ZonesStand (s.clear c) := by
  refine zonesStand_updateZones h _ _ (by simp) fun d z unnamed => ?_
  by_cases own : d = c
  · subst own; simp [ClassRecord.gives, unnamed]
  · simp [own]

end

/-! ### Activity (R104) -/

/-- A class is active exactly while it has an expiry or a blind holder. -/
def ClassRecord.Kept (r : ClassRecord) : Prop :=
  r.active = true ↔ r.expiry.isSome = true ∨ ∃ n : NodeId, r.holders[n] = true

theorem holdsKept_iff {s : State} : HoldsKept s ↔ (∀ c, (s.cls c).Kept) ∧ ZonesStand s := by
  have stand : ∀ z : ZoneId, s.zones[z] = s.zoneStanding z ↔
      (s.zones[z].covered = true ↔ ∃ c, (s.cls c).active = true ∧ (s.cls c).unload = true ∧ (s.cls c).zones[z] = true) ∧
      (s.zones[z].frozen = true ↔ ∃ c, (s.cls c).active = true ∧ (s.cls c).freeze = true ∧ (s.cls c).zones[z] = true) := by
    intro z
    rw [show ∀ a b : ZoneStanding, a = b ↔ a.covered = b.covered ∧ a.frozen = b.frozen from
      fun a b => by cases a; cases b; simp]
    exact and_congr (Bool.eq_iff_iff.trans (by simp [State.zoneStanding, and_assoc]))
      (Bool.eq_iff_iff.trans (by simp [State.zoneStanding, and_assoc]))
  refine ⟨fun h => ⟨h.active, fun z => (stand z).2 ⟨h.covered z, h.frozen z⟩⟩, fun ⟨active, zones⟩ => ⟨active, ?_, ?_⟩⟩
  · exact fun z => ((stand z).1 (zones z)).1
  · exact fun z => ((stand z).1 (zones z)).2

theorem exists_holder_set_true (holders : Set4) (n : NodeId) : ∃ m : NodeId, (holders.set n.val true n.isLt)[m] = true :=
  ⟨n, by simp⟩

section
variable {s : State}

theorem classKept_fire (h : ∀ c, (s.cls c).Kept) (c d : ClassId) : ((s.fire c).cls d).Kept := by
  rw [State.fire_cls]
  split
  · simp [ClassRecord.Kept]
  · exact h d

theorem classKept_joinClass (h : ∀ c, (s.cls c).Kept) (n : NodeId) (c d : ClassId) : ((s.joinClass n c).cls d).Kept := by
  rw [State.joinClass_cls]
  split
  · simpa [ClassRecord.Kept] using Or.inr (exists_holder_set_true _ n)
  · exact h d

/-- The last holder that leaves gives the class an expiry; before that another holder remains (R111). -/
theorem classKept_leaveClass (h : ∀ c, (s.cls c).Kept) (n : NodeId) (c d : ClassId) :
    ((s.leaveClass n c).cls d).Kept := by
  unfold State.leaveClass
  by_cases own : d = c
  · subst own
    simp only [State.cls_modifyClass_self]
    have before := h d
    unfold ClassRecord.Kept at before ⊢
    split
    · rename_i last
      have held : (s.cls d).holders[n] = true := (Bool.and_eq_true _ _ ▸ last).1
      simpa using before.2 (.inr ⟨n, held⟩)
    · rename_i stays
      refine before.trans (or_congr_right ⟨fun ⟨m, holds⟩ => ?_, fun ⟨m, holds⟩ => ⟨m, ?_⟩⟩)
      · by_cases own : n = m
        · subst own
          by_contra none
          push Not at none
          exact stays (by simpa [holds, Set4.isEmpty_iff] using none)
        · exact ⟨m, by simpa [Vector.getElem_set, Fin.val_inj, own] using holds⟩
      · rw [Fin.getElem_fin, Vector.getElem_set] at holds
        split at holds
        · cases holds
        · exact holds
  · simpa [own] using h d

theorem classKept_clear (h : ∀ c, (s.cls c).Kept) (c d : ClassId) (empty : Set4.isEmpty (s.cls c).holders = true) :
    ((s.clear c).cls d).Kept := by
  rw [State.clear_cls]
  split
  · simpa [ClassRecord.Kept] using (Set4.isEmpty_iff _).1 empty
  · exact h d

end

/-! ### The events of the hold unit, from its operations -/

/-- What the writes of nodes and counters, a firing, a join, a leave and the flag of a silence keep. -/
structure HoldUnitKeeps (P : State → Prop) : Prop where
  node : ∀ s n f, P s → P (s.modifyNode n f)
  counters : ∀ s k (v : MotionRule → Vector Nat 4), P s → P (s.modifyRule k fun r => { r with counters := v r })
  zero : ∀ s n, P s → P (s.zeroCounters n)
  flag : ∀ s, P s → P (s.setFlag .nodeSilent)
  fire : ∀ s c, P s → P (s.fire c)
  join : ∀ s n c, P s → P (s.joinClass n c)
  leave : ∀ s n c, P s → P (s.leaveClass n c)

namespace HoldUnitKeeps

variable {P : State → Prop} {s : State}

theorem evaluateRules (K : HoldUnitKeeps P) (n : NodeId) (x : Results) (h : P s) : P (s.evaluateRules n x) := by
  unfold State.evaluateRules
  generalize List.finRange 16 = ks
  induction ks generalizing s with
  | nil => exact h
  | cons k ks ih =>
    refine ih ?_
    unfold State.evaluateRule
    dsimp only
    split
    · split
      · exact K.fire _ _ (K.counters s k _ h)
      · exact K.counters s k _ h
    · exact h

theorem leaveBlind (K : HoldUnitKeeps P) (n : NodeId) (c : Option ClassId) (h : P s) : P (s.leaveBlind n c) := by
  cases c with
  | none => exact h
  | some c => exact K.leave s n c h

theorem joinBlind (K : HoldUnitKeeps P) (n : NodeId) (c : Option ClassId) (h : P s) : P (s.joinBlind n c) := by
  cases c with
  | none => exact h
  | some c => exact K.join s n c h

theorem acceptSample (K : HoldUnitKeeps P) (n : NodeId) (seq : Byte) (gap : Bool) (x y z : Int) (h : P s) :
    P (s.acceptSample n seq gap x y z) := by
  unfold State.acceptSample
  dsimp only
  have evaluated := K.evaluateRules n (computeSample (s.node n).config (s.node n).v x y z) (K.node s n
    (fun r => (r.accepted s.now seq gap).withResults (computeSample (s.node n).config (s.node n).v x y z)) h)
  split
  · exact K.leaveBlind n _ evaluated
  · exact evaluated

theorem takeSample (K : HoldUnitKeeps P) (n : NodeId) (node seq : Byte) (x y z : Int) (h : P s) :
    P (s.takeSample n node seq x y z) := by
  unfold State.takeSample
  split
  · exact h
  · split
    · exact h
    · exact K.acceptSample n seq _ x y z h
    · exact K.acceptSample n seq _ x y z h

theorem silence (K : HoldUnitKeeps P) (n : NodeId) (h : P s) : P (s.silence n) := by
  unfold State.silence
  dsimp only
  have silenced := K.flag _ (K.zero _ n (K.node s n (fun r => r.silenced s.now) h))
  split
  · exact K.joinBlind n _ silenced
  · exact silenced

theorem configureNode (K : HoldUnitKeeps P) (n : NodeId) (c : NodeConfig) (h : P s) : P (s.configureNode n c) := by
  unfold State.configureNode
  dsimp only
  have stored := K.node s n (fun r => r.configured c) h
  split
  · split
    · exact K.leaveBlind n _ (K.zero _ n (K.node _ n _ stored))
    · exact K.zero _ n (K.node _ n _ stored)
  · exact K.joinBlind n _ (K.node _ n _ stored)
  · split
    · exact K.joinBlind n _ (K.leaveBlind n _ stored)
    · exact stored

end HoldUnitKeeps

theorem holdsKept_unit : HoldUnitKeeps HoldsKept where
  node s n f h := holdsKept_iff.2 ⟨by simpa using (holdsKept_iff.1 h).1, zonesStand_congr (holdsKept_iff.1 h).2 rfl (by simp)⟩
  counters s k v h := holdsKept_iff.2
    ⟨by simpa using (holdsKept_iff.1 h).1, zonesStand_congr (holdsKept_iff.1 h).2 rfl (by simp)⟩
  zero s n h := holdsKept_iff.2 ⟨by simpa using (holdsKept_iff.1 h).1, zonesStand_congr (holdsKept_iff.1 h).2 rfl (by simp)⟩
  flag s h := holdsKept_iff.2
    ⟨by simpa using (holdsKept_iff.1 h).1, zonesStand_congr (holdsKept_iff.1 h).2 (by simp) (by simp)⟩
  fire s c h := holdsKept_iff.2 ⟨classKept_fire (holdsKept_iff.1 h).1 c, zonesStand_fire (holdsKept_iff.1 h).2 c⟩
  join s n c h := holdsKept_iff.2
    ⟨classKept_joinClass (holdsKept_iff.1 h).1 n c, zonesStand_joinClass (holdsKept_iff.1 h).2 n c⟩
  leave s n c h := holdsKept_iff.2
    ⟨classKept_leaveClass (holdsKept_iff.1 h).1 n c, zonesStand_leaveClass (holdsKept_iff.1 h).2 n c⟩

theorem classKept_of_configured {s : State} (h : ∀ c, (s.cls c).Kept) (c d : ClassId) (zones : Set4) (unload freeze : Bool)
    (hold : Nat) : ((s.modifyClass c fun r =>
      { r with zones := zones, unload := unload, freeze := freeze, holdTime := hold }).cls d).Kept := by
  by_cases own : d = c
  · subst own; simpa [ClassRecord.Kept] using h d
  · simpa [own] using h d

theorem holdsKept_congr {s t : State} (h : HoldsKept s) (classes : t.classes = s.classes) (zones : t.zones = s.zones) :
    HoldsKept t := by
  have cls : ∀ c, t.cls c = s.cls c := fun c => by unfold State.cls; rw [classes]
  rw [holdsKept_iff] at h ⊢
  exact ⟨fun c => cls c ▸ h.1 c, zonesStand_congr h.2 zones fun c z => by rw [cls]⟩

theorem holdsKept_reset : HoldsKept State.reset := by
  rw [holdsKept_iff]
  exact ⟨by unfold ClassRecord.Kept; decide, by unfold ZonesStand; decide⟩

theorem holdsKept_sensors : SensorsKeep HoldsKept where
  congr s t h nodes rules classes zones := holdsKept_congr h classes zones
  defaults s time := holdsKept_congr holdsKept_reset rfl rfl
  configureNode s n c entry h _ := holdsKept_unit.configureNode n c h
  rule s k r entry h _ := holdsKept_iff.2
    ⟨(holdsKept_iff.1 h).1, zonesStand_congr (holdsKept_iff.1 h).2 rfl fun _ _ => rfl⟩
  classStored s c zones unload freeze hold entry h _ idle := by
    rw [holdsKept_iff] at h ⊢
    refine ⟨fun d => classKept_of_configured h.1 c d .., zonesStand_congr h.2 rfl fun d z => ?_⟩
    by_cases own : d = c
    · subst own; simp [ClassRecord.gives, idle]
    · simp [own]
  classUpdated s c zones unload freeze hold entry h _ _ := by
    rw [holdsKept_iff] at h ⊢
    refine ⟨fun d => ?_, zonesStand_updateZones h.2 _ _ rfl fun d z unnamed => ?_⟩
    · simpa using classKept_of_configured h.1 c d zones unload freeze hold
    · by_cases own : d = c
      · subst own
        have both : (s.cls d).zones[z] = false ∧ zones[z] = false := by simpa [Set4.union] using unnamed
        simp [ClassRecord.gives, both]
      · simp [own]
  sample s n node seq x y z h := holdsKept_unit.takeSample n node seq x y z h
  silence s n h _ := holdsKept_unit.silence n h
  classClears s c h _ empty := holdsKept_iff.2
    ⟨fun d => classKept_clear (holdsKept_iff.1 h).1 c d empty, zonesStand_clear (holdsKept_iff.1 h).2 c⟩
  classWaits s c h active held := by
    rw [holdsKept_iff] at h ⊢
    have blind : ∃ n : NodeId, (s.cls c).holders[n] = true := by
      by_contra none
      push Not at none
      simp [(Set4.isEmpty_iff (s.cls c).holders).2 (by simpa using none)] at held
    refine ⟨fun d => ?_, zonesStand_congr h.2 rfl fun d z => ?_⟩
    · by_cases own : d = c
      · subst own; simpa [ClassRecord.Kept, active] using blind
      · simpa [own] using h.1 d
    · by_cases own : d = c
      · subst own; simp [ClassRecord.gives]
      · simp [own]

/-! ### Counters (R100) -/

theorem countersKept_congr {s t : State} (h : CountersKept s) (rules : t.rules = s.rules) : CountersKept t := by
  intro k n
  rw [show t.rule k = s.rule k by unfold State.rule; rw [rules]]
  exact h k n

theorem countersKept_reset : CountersKept State.reset := by unfold CountersKept; decide

theorem countersKept_zero {s : State} (h : CountersKept s) (n : NodeId) : CountersKept (s.zeroCounters n) := by
  intro k m
  rw [State.zeroCounters_rule]
  by_cases own : n.val = m.val
  · simp [own]
  · simpa [Vector.getElem_set, own, MotionRule.watches] using h k m

theorem countersKept_evaluateRules {s : State} (h : CountersKept s) (n : NodeId) (x : Results) :
    CountersKept (s.evaluateRules n x) := by
  intro k m
  rw [State.evaluateRules_rule]
  split
  · rename_i watched
    by_cases own : n = m
    · subst own
      exact ⟨by simpa using (s.rule k).counterAfter_le n x,
        fun off => absurd watched (by simpa [MotionRule.watches] using off)⟩
    · simpa [Vector.getElem_set, Fin.val_inj, own, MotionRule.watches] using h k m
  · exact h k m

/-- The counters after a sample are those of its evaluation. -/
theorem State.acceptSample_rules (s : State) (n : NodeId) (seq : Byte) (gap : Bool) (x y z : Int) :
    (s.acceptSample n seq gap x y z).rules =
      ((s.modifyNode n fun r => (r.accepted s.now seq gap).withResults
        (computeSample (s.node n).config (s.node n).v x y z)).evaluateRules n
          (computeSample (s.node n).config (s.node n).v x y z)).rules := by
  unfold State.acceptSample
  dsimp only
  split <;> simp

theorem takeSample_cases (s : State) (n : NodeId) (node seq : Byte) (x y z : Int) :
    s.takeSample n node seq x y z = s ∨ ∃ gap, s.takeSample n node seq x y z = s.acceptSample n seq gap x y z := by
  unfold State.takeSample
  split
  · exact .inl rfl
  · split
    · exact .inl rfl
    · exact .inr ⟨_, rfl⟩
    · exact .inr ⟨_, rfl⟩

theorem countersKept_takeSample {s : State} (h : CountersKept s) (n : NodeId) (node seq : Byte) (x y z : Int) :
    CountersKept (s.takeSample n node seq x y z) := by
  rcases takeSample_cases s n node seq x y z with e | ⟨gap, e⟩ <;> rw [e]
  · exact h
  · have stored : ∀ f, CountersKept (s.modifyNode n f) := fun f => countersKept_congr h (by simp)
    exact countersKept_congr (countersKept_evaluateRules (stored _) n _) (s.acceptSample_rules n seq gap x y z)

theorem countersKept_sensors : SensorsKeep CountersKept where
  congr s t h _ rules _ _ := countersKept_congr h rules
  defaults s time := countersKept_congr countersKept_reset rfl
  configureNode s n c entry h _ := by
    have zeroed := countersKept_zero h n
    unfold State.configureNode
    dsimp only
    split
    · split
      · exact countersKept_congr zeroed (by simp [State.zeroCounters])
      · exact countersKept_congr zeroed rfl
    · exact countersKept_congr h (by simp)
    · split
      · exact countersKept_congr h (by simp)
      · exact countersKept_congr h rfl
  rule s k r entry h e := by
    intro j n
    rw [State.rule_stored]
    split
    · rw [ruleEntry_counters e n]; simp
    · exact h j n
  classStored s c zones unload freeze hold entry h _ _ := countersKept_congr h rfl
  classUpdated s c zones unload freeze hold entry h _ _ := countersKept_congr h (by simp)
  sample s n node seq x y z h := countersKept_takeSample h n node seq x y z
  silence s n h _ := by
    have zeroed := countersKept_zero h n
    unfold State.silence
    dsimp only
    split
    · exact countersKept_congr zeroed (by simp [State.zeroCounters])
    · exact countersKept_congr zeroed (by simp [State.zeroCounters])
  classClears s c h _ _ := countersKept_congr h (by simp)
  classWaits s c h _ _ := countersKept_congr h rfl

/-- Settles O53: the classes and the standings are kept operation by operation, the counters by the evaluation of a
sample and its end. -/
theorem stepKeepsHolds : Obligations.StepKeepsHolds :=
  fun _ _ counters holds e => ⟨countersKept_sensors.step counters e, holdsKept_sensors.step holds e⟩

end Sys2Proof.Machine
end

section
/-! PROOFS. The node records, their computed values and the blind holders (R71, R84, R89, R90, R93). -/

namespace Sys2Proof.Machine

/-! ### One node record -/

/-- What holds of a node's record alone: its supervision fields by its status, and its values in their ranges. -/
structure NodeRecord.Kept (r : NodeRecord) : Prop where
  enabled : r.status = .off ↔ r.config.enabled = false
  timer : r.silenceExpiry.isSome = true ↔ r.status = .live ∨ r.status = .recovering
  progress : r.progress ≤ 15 ∧ (r.status ≠ .recovering → r.progress = 0)
  recoveryCount : 1 ≤ r.config.recoveryCount ∧ r.config.recoveryCount ≤ 15
  sequence : r.status = .silent ∨ r.status = .off → r.lastSequence = none
  reference : 500 ≤ r.config.g ∧ r.config.g ≤ 2000
  level : r.v ≤ 27500
  lastM : ∀ m ∈ r.lastM, m ≤ 28000
  lastD : ∀ d ∈ r.lastD, d ≤ 27500
  lastT : ∀ t ∈ r.lastT, -256 ≤ t ∧ t ≤ 256

/-- Node `n` is a blind holder of exactly its blind class, and that exactly while it is blind (R93). -/
def HoldersKept (s : State) : Prop :=
  ∀ (n : NodeId) (c : ClassId), (s.cls c).holders[n] = true ↔
    (s.node n).status.blind = true ∧ (s.node n).config.blindClass = some c

theorem nodesKept_iff {s : State} :
    NodesKept s ∧ ValuesKept s ↔ (∀ n, (s.node n).Kept) ∧ HoldersKept s := by
  refine ⟨fun ⟨nodes, values⟩ => ⟨fun n => ?_, fun n => (nodes n).holder⟩, fun ⟨records, holders⟩ => ⟨fun n => ?_, fun n => ?_⟩⟩
  · obtain ⟨low, high, level, m, d, t⟩ := values n
    obtain ⟨enabled, timer, -, progress, recovery, sequence⟩ := nodes n
    exact ⟨enabled, timer, progress, recovery, sequence, ⟨low, high⟩, level, m, d, t⟩
  · obtain ⟨enabled, timer, progress, recovery, sequence, -, -, -, -, -⟩ := records n
    exact ⟨enabled, timer, holders n, progress, recovery, sequence⟩
  · obtain ⟨-, -, -, -, -, ⟨low, high⟩, level, m, d, t⟩ := records n
    exact ⟨low, high, level, m, d, t⟩

section
variable {r : NodeRecord}

/-- The four results over kept settings lie in their ranges (R71, R75 to R80). -/
theorem computeSample_ranges (h : r.Kept) (x y z : Int) :
    (computeSample r.config r.v x y z).m ≤ 28000 ∧ (computeSample r.config r.v x y z).d ≤ 27500 ∧
      (computeSample r.config r.v x y z).v ≤ 27500 ∧
      -256 ≤ (computeSample r.config r.v x y z).t ∧ (computeSample r.config r.v x y z).t ≤ 256 := by
  have m := magnitude_le (clampAxis_natAbs_le x) (clampAxis_natAbs_le y) (clampAxis_natAbs_le z)
  have d := deviation_le_of_ranges m h.reference.1 h.reference.2
  have v := (vibration_between r.v (deviation (magnitude (clampAxis x).natAbs (clampAxis y).natAbs (clampAxis z).natAbs)
    r.config.g) r.config.k).2
  exact ⟨m, d, v.trans (max_le h.level d), tiltRatio_bounds _ _⟩

theorem NodeRecord.Kept.withResults (h : r.Kept) {x : Results} (m : x.m ≤ 28000) (d : x.d ≤ 27500) (v : x.v ≤ 27500)
    (t : -256 ≤ x.t ∧ x.t ≤ 256) : (r.withResults x).Kept :=
  ⟨h.enabled, h.timer, h.progress, h.recoveryCount, h.sequence, h.reference, v, by simpa [NodeRecord.withResults] using m,
    by simpa [NodeRecord.withResults] using d, by simpa [NodeRecord.withResults] using t⟩

/-- The record of a node that is not OFF after the supervision of an accepted sample (R87 to R89). -/
theorem NodeRecord.accepted_eq (now : Nat) (seq : Byte) (gap : Bool) (on : r.status ≠ .off) :
    r.accepted now seq gap =
      { r with
        lastSequence := some seq
        lapsed := none
        gapCount := if gap then countUp r.gapCount else r.gapCount
        silenceExpiry := some (now + r.config.silenceLimit)
        status := if trustedAfter r gap then .live else .recovering
        progress := if r.status = .live then r.progress else if trustedAfter r gap then 0 else progressAfter r gap } := by
  cases status : r.status with
  | off => exact absurd status on
  | live => simp [NodeRecord.accepted, NodeRecord.advance, NodeRecord.recovered, trustedAfter, status]
  | silent =>
    by_cases proved : r.config.recoveryCount ≤ 1 <;>
      simp [NodeRecord.accepted, NodeRecord.advance, NodeRecord.recovered, trustedAfter, progressAfter, status, proved]
  | recovering =>
    by_cases ready : r.config.recoveryCount ≤ r.progress
    · have proved : r.config.recoveryCount ≤ r.progress + 1 := by omega
      have unbroken : ¬r.progress < r.config.recoveryCount := by omega
      simp [NodeRecord.accepted, NodeRecord.advance, NodeRecord.recovered, trustedAfter, progressAfter, status, ready,
        proved, unbroken]
    · have broken : r.progress < r.config.recoveryCount := by omega
      cases gap <;>
        simp [NodeRecord.accepted, NodeRecord.advance, NodeRecord.recovered, trustedAfter, progressAfter, status, ready,
          broken] <;> split <;> simp_all

theorem NodeRecord.Kept.accepted (h : r.Kept) (now : Nat) (seq : Byte) (gap : Bool) (on : r.status ≠ .off) :
    (r.accepted now seq gap).Kept := by
  obtain ⟨enabled, timer, progress, recovery, sequence, reference, level, m, d, t⟩ := h
  have enabled : r.config.enabled = true := by simpa using mt enabled.2 on
  rw [NodeRecord.accepted_eq now seq gap on]
  refine ⟨?_, ?_, ?_, recovery, ?_, reference, level, m, d, t⟩
  · simp only [enabled]; split <;> simp
  · dsimp only; split <;> simp
  · dsimp only
    split
    · rename_i live; simp [live, progress.2]
    · split
      · simp
      · rename_i unproved
        have below : progressAfter r gap < r.config.recoveryCount := by
          simp only [trustedAfter, Bool.or_eq_true, decide_eq_true_eq] at unproved; omega
        exact ⟨by omega, by simp⟩
  · dsimp only; split <;> simp

theorem NodeRecord.Kept.silenced (h : r.Kept) (now : Nat) (on : r.status ≠ .off) : (r.silenced now).Kept := by
  have enabled : r.config.enabled = true := by simpa using mt h.enabled.2 on
  exact ⟨by simp [NodeRecord.silenced, enabled], by simp [NodeRecord.silenced], by simp [NodeRecord.silenced],
    h.recoveryCount, by simp [NodeRecord.silenced], h.reference, by simp [NodeRecord.silenced], h.lastM, h.lastD, h.lastT⟩

end

/-- The settings read from an entry lie in their ranges (R69, R84). -/
theorem nodeEntry_ranges {e : List Byte} {c : NodeConfig} (h : nodeEntry e = some c) :
    (500 ≤ c.g ∧ c.g ≤ 2000) ∧ (1 ≤ c.k ∧ c.k ≤ 6) ∧ (2 ≤ c.silenceLimit ∧ c.silenceLimit ≤ 255) ∧
      (1 ≤ c.recoveryCount ∧ c.recoveryCount ≤ 15) := by
  obtain ⟨u, d, g, k, silence, recovery, b, rfl⟩ := nodeEntry_eq_some h
  exact ⟨clampNat_between g (by omega), clampNat_between k (by omega), clampNat_between silence (by omega),
    clampNat_between recovery (by omega)⟩

section
variable {r : NodeRecord} {c : NodeConfig} {e : List Byte}

theorem NodeRecord.Kept.disabled (h : r.Kept) (read : nodeEntry e = some c) (off : c.enabled = false) :
    (r.configured c).disabled.Kept := by
  obtain ⟨g, -, -, recovery⟩ := nodeEntry_ranges read
  exact ⟨by simp [NodeRecord.disabled, NodeRecord.configured, off], by simp [NodeRecord.disabled],
    by simp [NodeRecord.disabled], recovery, by simp [NodeRecord.disabled], g, by simp [NodeRecord.disabled], h.lastM,
    h.lastD, h.lastT⟩

theorem NodeRecord.configured_v_le (r : NodeRecord) (c : NodeConfig) : (r.configured c).v ≤ r.v := by
  unfold NodeRecord.configured
  dsimp only
  split <;> omega

theorem NodeRecord.Kept.enabledAt (h : r.Kept) (now : Nat) (read : nodeEntry e = some c) (on : c.enabled = true) :
    ((r.configured c).enabledAt now).Kept := by
  obtain ⟨g, -, -, recovery⟩ := nodeEntry_ranges read
  exact ⟨by simp [NodeRecord.enabledAt, NodeRecord.configured, on], by simp [NodeRecord.enabledAt],
    by simp [NodeRecord.enabledAt], recovery, by simp [NodeRecord.enabledAt], g,
    (r.configured_v_le c).trans h.level, h.lastM, h.lastD, h.lastT⟩

theorem NodeRecord.Kept.configured (h : r.Kept) (read : nodeEntry e = some c) (same : c.enabled = r.config.enabled) :
    (r.configured c).Kept := by
  obtain ⟨g, -, -, recovery⟩ := nodeEntry_ranges read
  exact ⟨by simpa [NodeRecord.configured, same] using h.enabled, h.timer, h.progress, recovery, h.sequence, g,
    (r.configured_v_le c).trans h.level, h.lastM, h.lastD, h.lastT⟩

end

/-! ### The blind holders (R93, R110, R111) -/

section
variable (s : State) (n : NodeId)

@[simp] theorem State.leaveBlind_holders (b : Option ClassId) (c : ClassId) (m : NodeId) :
    ((s.leaveBlind n b).cls c).holders[m.val] = ((s.cls c).holders[m.val] && !decide (m = n ∧ b = some c)) := by
  cases b with
  | none => simp [State.leaveBlind]
  | some d =>
    by_cases own : c = d
    · subst own
      by_cases self : m = n
      · subst self; simp [State.leaveBlind, State.leaveClass_holders]
      · simp [State.leaveBlind, State.leaveClass_holders, Fin.val_inj, self, Ne.symm self]
    · simp [State.leaveBlind, State.leaveClass_holders, own, Ne.symm own]

@[simp] theorem State.joinBlind_holders (b : Option ClassId) (c : ClassId) (m : NodeId) :
    ((s.joinBlind n b).cls c).holders[m.val] = ((s.cls c).holders[m.val] || decide (m = n ∧ b = some c)) := by
  cases b with
  | none => simp [State.joinBlind]
  | some d =>
    by_cases own : c = d
    · subst own
      by_cases self : m = n
      · subst self; simp [State.joinBlind, State.joinClass_cls]
      · simp [State.joinBlind, State.joinClass_cls, Fin.val_inj, self, Ne.symm self]
    · simp [State.joinBlind, State.joinClass_cls, own, Ne.symm own]

@[simp] theorem State.evaluateRules_holders (x : Results) (c : ClassId) :
    ((s.evaluateRules n x).cls c).holders = (s.cls c).holders := by
  unfold State.evaluateRules
  generalize List.finRange 16 = ks
  induction ks generalizing s with
  | nil => rfl
  | cons k ks ih =>
    rw [List.foldl_cons, ih, State.evaluateRule_cls]
    split <;> rfl

end

/-- The blind holders of a state in which node `n`'s record has come to be `r`, all other nodes as they were. -/
theorem holdersKept_of_node {s t : State} {n : NodeId} {r : NodeRecord} (h : HoldersKept s) (own : t.node n = r)
    (others : ∀ m, m ≠ n → t.node m = s.node m)
    (holders : ∀ c, (t.cls c).holders[n] = true ↔ r.status.blind = true ∧ r.config.blindClass = some c)
    (elsewhere : ∀ c (m : NodeId), m ≠ n → (t.cls c).holders[m] = (s.cls c).holders[m]) : HoldersKept t := by
  intro m c
  by_cases self : m = n
  · subst self; rw [own]; exact holders c
  · rw [elsewhere c m self, others m self]; exact h m c

section
variable {s : State}

theorem nodeRecords_of_node {t : State} {n : NodeId} {r : NodeRecord} (h : ∀ m, (s.node m).Kept) (own : t.node n = r)
    (others : ∀ m, m ≠ n → t.node m = s.node m) (kept : r.Kept) : ∀ m, (t.node m).Kept := by
  intro m
  by_cases self : m = n
  · subst self; rwa [own]
  · rw [others m self]; exact h m

/-- The records of the nodes are kept, and the blind holders are theirs. -/
def SensorsKept (s : State) : Prop := (∀ n, (s.node n).Kept) ∧ HoldersKept s

theorem sensorsKept_of_node {t : State} {n : NodeId} {r : NodeRecord} (h : SensorsKept s) (own : t.node n = r)
    (others : ∀ m, m ≠ n → t.node m = s.node m) (kept : r.Kept)
    (holders : ∀ c, (t.cls c).holders[n] = true ↔ r.status.blind = true ∧ r.config.blindClass = some c)
    (elsewhere : ∀ c (m : NodeId), m ≠ n → (t.cls c).holders[m] = (s.cls c).holders[m]) : SensorsKept t :=
  ⟨nodeRecords_of_node h.1 own others kept, holdersKept_of_node h.2 own others holders elsewhere⟩

/-- The node's record after an accepted sample; the other nodes are not touched. -/
theorem State.acceptSample_node (s : State) (n m : NodeId) (seq : Byte) (gap : Bool) (x y z : Int) :
    (s.acceptSample n seq gap x y z).node m =
      if m = n then ((s.node n).accepted s.now seq gap).withResults (computeSample (s.node n).config (s.node n).v x y z)
      else s.node m := by
  unfold State.acceptSample
  dsimp only
  split <;> simp [State.node_modifyNode]

/-- A node that comes to be trusted leaves its blind class; no other holder changes (R93). -/
theorem State.acceptSample_holders (s : State) (n m : NodeId) (seq : Byte) (gap : Bool) (x y z : Int) (c : ClassId) :
    ((s.acceptSample n seq gap x y z).cls c).holders[m.val] =
      ((s.cls c).holders[m.val] && !(decide (m = n ∧ (s.node n).config.blindClass = some c) &&
        ((s.node n).status.blind && !((s.node n).accepted s.now seq gap).status.blind))) := by
  unfold State.acceptSample
  dsimp only
  split <;> rename_i leaves
  · simp [NodeRecord.withResults] at leaves; simp [leaves]
  · simp [NodeRecord.withResults] at leaves
    by_cases blind : (s.node n).status.blind = true
    · simp [leaves blind]
    · simp [blind]

/-- No accepted sample makes a node blind. -/
theorem NodeRecord.blind_of_accepted {r : NodeRecord} {now : Nat} {seq : Byte} {gap : Bool} (on : r.status ≠ .off)
    (h : (r.accepted now seq gap).status.blind = true) : r.status.blind = true := by
  rw [NodeRecord.accepted_eq now seq gap on] at h
  cases status : r.status with
  | off => exact absurd status on
  | live => simp [trustedAfter, status, NodeStatus.blind] at h
  | silent => rfl
  | recovering => rfl

theorem NodeRecord.accepted_config {r : NodeRecord} {now : Nat} {seq : Byte} {gap : Bool} (on : r.status ≠ .off) :
    (r.accepted now seq gap).config = r.config := by
  rw [NodeRecord.accepted_eq now seq gap on]

theorem sensorsKept_acceptSample (h : SensorsKept s) (n : NodeId) (seq : Byte) (gap : Bool) (x y z : Int)
    (on : (s.node n).status ≠ .off) : SensorsKept (s.acceptSample n seq gap x y z) := by
  obtain ⟨m, d, v, t⟩ := computeSample_ranges (h.1 n) x y z
  refine sensorsKept_of_node (n := n) h rfl (fun j other => by simp [State.acceptSample_node, other]) ?_ (fun c => ?_)
    fun c j other => by simp [State.acceptSample_holders, other]
  · simpa [State.acceptSample_node] using ((h.1 n).accepted s.now seq gap on).withResults m d v t
  · have before := h.2 n c
    have turns := NodeRecord.blind_of_accepted (now := s.now) (seq := seq) (gap := gap) on
    have config := NodeRecord.accepted_config (now := s.now) (seq := seq) (gap := gap) on
    simp only [Fin.getElem_fin] at before
    simp only [Fin.getElem_fin, State.acceptSample_holders, State.acceptSample_node, if_true, NodeRecord.withResults, config,
      Bool.and_eq_true, before]
    cases blind : ((s.node n).accepted s.now seq gap).status.blind
    · simp; tauto
    · simp [turns blind]

/-- The node's record at the expiry of its silence timer; the other nodes are not touched (R91). -/
theorem State.silence_node (s : State) (n m : NodeId) :
    (s.silence n).node m = if m = n then (s.node n).silenced s.now else s.node m := by
  unfold State.silence
  dsimp only
  split <;> simp [State.node_modifyNode]

/-- A LIVE node joins its blind class at the expiry; no other holder changes (R93). -/
theorem State.silence_holders (s : State) (n m : NodeId) (c : ClassId) :
    ((s.silence n).cls c).holders[m.val] = ((s.cls c).holders[m.val] ||
      decide (m = n ∧ (s.node n).status = .live ∧ (s.node n).config.blindClass = some c)) := by
  unfold State.silence
  dsimp only
  split <;> rename_i live <;> simp [live]

theorem sensorsKept_silence (h : SensorsKept s) (n : NodeId) (runs : (s.node n).silenceExpiry.isSome = true) :
    SensorsKept (s.silence n) := by
  have status := (h.1 n).timer.1 runs
  have on : (s.node n).status ≠ .off := by rcases status with e | e <;> simp [e]
  refine sensorsKept_of_node (n := n) h (by rw [State.silence_node, if_pos rfl])
    (fun j other => by rw [State.silence_node, if_neg other]) ((h.1 n).silenced s.now on) (fun c => ?_)
    fun c j other => by simp [State.silence_holders, other]
  have before := h.2 n c
  rw [Fin.getElem_fin] at before ⊢
  rw [State.silence_holders, Bool.or_eq_true, before]
  rcases status with e | e <;> simp [e, NodeRecord.silenced, NodeStatus.blind]

theorem sensorsKept_configureNode (h : SensorsKept s) (n : NodeId) {c : NodeConfig} {e : List Byte}
    (read : nodeEntry e = some c) : SensorsKept (s.configureNode n c) := by
  have kept := h.1 n
  have off := kept.enabled
  have before := fun d => h.2 n d
  simp only [Fin.getElem_fin] at before
  unfold State.configureNode
  dsimp only
  split
  · rename_i was is
    refine sensorsKept_of_node (n := n) (r := ((s.node n).configured c).disabled) h ?_ (fun j other => ?_)
      (kept.disabled read is) (fun d => ?_) fun d j other => ?_
    · split <;> simp
    · split <;> simp [other]
    · have free : ((s.node n).configured c).disabled.status.blind = false := rfl
      split <;> rename_i blind <;> simp [before, blind, free]
    · split <;> simp [other]
  · rename_i was is
    have status : (s.node n).status = .off := off.2 was
    refine sensorsKept_of_node (n := n) (r := ((s.node n).configured c).enabledAt s.now) h (by simp)
      (fun j other => by simp [other]) (kept.enabledAt s.now read is) (fun d => ?_) fun d j other => by simp [other]
    simp [before, status, NodeRecord.enabledAt, NodeRecord.configured, NodeStatus.blind]
  · rename_i changed turned
    have same : c.enabled = (s.node n).config.enabled := by
      cases was : (s.node n).config.enabled <;> cases is : c.enabled <;> simp_all
    refine sensorsKept_of_node (n := n) (r := (s.node n).configured c) h ?_ (fun j other => ?_)
      (kept.configured read same) (fun d => ?_) fun d j other => ?_
    · split <;> simp
    · split <;> simp [other]
    · split <;> rename_i moves
      · simp only [Bool.and_eq_true, decide_eq_true_eq] at moves
        obtain ⟨blind, other⟩ := moves
        simp [before, blind, NodeRecord.configured]
      · have stays : (s.node n).status.blind = true → (s.node n).config.blindClass = c.blindClass := by
          simpa using moves
        simpa [before, NodeRecord.configured] using fun blind => by rw [stays blind]
    · split <;> simp [other]

end

theorem sensorsKept_congr {s t : State} (h : SensorsKept s) (nodes : t.nodes = s.nodes)
    (holders : ∀ c, (t.cls c).holders = (s.cls c).holders) : SensorsKept t := by
  have node : ∀ n, t.node n = s.node n := fun n => by unfold State.node; rw [nodes]
  exact ⟨fun n => node n ▸ h.1 n, fun n c => by rw [holders, node]; exact h.2 n c⟩

theorem sensorsKept_defaults (s : State) (time : Nat) : SensorsKept { s with
    nodes := Vector.replicate 4 (defaultNode time), rules := defaultRules, classes := defaultClasses
    zones := defaultZones } := by
  have holders : ∀ (n : NodeId) (c : ClassId), defaultClasses[c].holders[n] = true ↔ some (0 : ClassId) = some c := by
    decide
  have node : ∀ n : NodeId, (Vector.replicate 4 (defaultNode time))[n] = defaultNode time := by simp
  refine ⟨fun n => ?_, fun n c => ?_⟩
  · simp only [State.node, node]
    exact ⟨by simp [defaultNode, defaultNodeConfig], by simp [defaultNode], by simp [defaultNode],
      by simp [defaultNode, defaultNodeConfig], by simp [defaultNode], by simp [defaultNode, defaultNodeConfig],
      by simp [defaultNode], by simp [defaultNode], by simp [defaultNode], by simp [defaultNode]⟩
  · simp only [State.node, State.cls, node, holders]
    simp [defaultNode, defaultNodeConfig, NodeStatus.blind]

theorem sensorsKept_sensors : SensorsKeep SensorsKept where
  congr s t h nodes _ classes _ := sensorsKept_congr h nodes fun c => by unfold State.cls; rw [classes]
  defaults := sensorsKept_defaults
  configureNode s n c entry h read := sensorsKept_configureNode h n read
  rule s k r entry h _ := h
  classStored s c zones unload freeze hold entry h _ _ := sensorsKept_congr h rfl fun d => by
    by_cases own : d = c
    · subst own; simp
    · simp [own]
  classUpdated s c zones unload freeze hold entry h _ _ := sensorsKept_congr h (by simp) fun d => by
    by_cases own : d = c
    · subst own; simp
    · simp [own]
  sample s n node seq x y z h := by
    unfold State.takeSample
    split
    · exact h
    · rename_i taken
      have on : (s.node n).status ≠ .off := by tauto
      split
      · exact h
      · exact sensorsKept_acceptSample h n seq _ x y z on
      · exact sensorsKept_acceptSample h n seq _ x y z on
  silence s n h runs := sensorsKept_silence h n runs
  classClears s c h _ _ := sensorsKept_congr h (by simp) fun d => by
    rw [State.clear_cls]
    split
    · rename_i own; rw [own]
    · rfl
  classWaits s c h _ _ := sensorsKept_congr h rfl fun d => by
    by_cases own : d = c
    · subst own; simp
    · simp [own]

/-- Settles O52: each event that writes a node's record restores its blind holders before it ends. -/
theorem stepKeepsNodes : Obligations.StepKeepsNodes :=
  fun _ _ nodes values e => nodesKept_iff.2 (sensorsKept_sensors.step (nodesKept_iff.1 ⟨nodes, values⟩) e)

end Sys2Proof.Machine
end

section
/-! PROOFS. How the outcome of an awaited op moves its slot (R17 to R20, R23), and ATTN and the ranges of the tables
(R189, R197). -/

namespace Sys2Proof.Machine

/-! ### The outcome of an op (R17 to R20, R23) -/

/-- What the slot controller makes of an outcome of `op`, by the state of the slot. -/
inductive OutcomeTaken (s : State) (i : SlotId) (op : GovernedOp) : State → Prop
  | unnamed : (s.slot i).state.waitsOn ≠ some op → OutcomeTaken s i op s
  | failed (cause : FaultCause) : (s.slot i).state.waitsOn = some op → OutcomeTaken s i op (s.enterFault i cause)
  | spun : (s.slot i).state = .spinningUp → op = .spin → OutcomeTaken s i op (s.arrive i .parked)
  | loaded : (s.slot i).state = .loading → op = .load → OutcomeTaken s i op (s.arrive i .loaded)
  | unloaded : (s.slot i).state = .unloading → op = .unload → OutcomeTaken s i op (s.arrive i .parked)
  | stopped : (s.slot i).state = .spinningDown → op = .stop → OutcomeTaken s i op (s.stopDone i)
  | reported (st : SlotState) (t : Target) : (s.slot i).state = .probing → op = .query → st.asTarget = some t →
      OutcomeTaken s i op (s.probeReported i st t)

theorem reportedState_asTarget {b : Option Byte} {st : SlotState} {t : Target} (h : reportedState b = some (st, t)) :
    st.asTarget = some t := by
  unfold reportedState at h
  split at h
  · split at h <;> cases h <;> rfl
  · cases h

/-- An op's end other than DONE enters FAULT. -/
theorem settleOp_taken {s : State} {i : SlotId} {op : GovernedOp} (waits : (s.slot i).state.waitsOn = some op)
    (o : OpOutcome) (timeout : FaultCause) (failed : Byte → FaultCause) {done : State} (taken : OutcomeTaken s i op done) :
    OutcomeTaken s i op (s.settleOp i o timeout failed done) := by
  cases o with
  | done => exact taken
  | timeout => exact .failed _ waits
  | failed c => exact .failed _ waits
  | aborted => exact .failed _ waits

theorem takeOutcome_taken (s : State) (i : SlotId) (op : GovernedOp) (o : OpOutcome) (report : Option Byte) :
    OutcomeTaken s i op (s.takeOutcome i op o report) := by
  unfold State.takeOutcome
  split
  case h_1 st => exact settleOp_taken (by rw [st]; rfl) _ _ _ (.spun st rfl)
  case h_2 st => exact settleOp_taken (by rw [st]; rfl) _ _ _ (.loaded st rfl)
  case h_3 st => exact settleOp_taken (by rw [st]; rfl) _ _ _ (.unloaded st rfl)
  case h_4 st => exact settleOp_taken (by rw [st]; rfl) _ _ _ (.stopped st rfl)
  case h_5 st =>
    refine settleOp_taken (by rw [st]; rfl) _ _ _ ?_
    unfold State.probeDone
    split
    · rename_i rest target reported; exact .reported rest target st rfl (reportedState_asTarget reported)
    · exact .failed _ (by rw [st]; rfl)
  case h_6 spin load unload stop query =>
    refine .unnamed fun waits => ?_
    cases st : (s.slot i).state <;> rw [st] at waits <;> cases waits
    exacts [spin st rfl, load st rfl, unload st rfl, stop st rfl, query st rfl]

/-! ### ATTN (R197) -/

theorem attention_iff (flags enables : EventFlags) :
    attention flags enables = true ↔ ∃ f : Flag, flags.get f = true ∧ enables.get f = true := by
  refine ⟨fun h => ?_, fun ⟨f, set, enabled⟩ => ?_⟩
  · simp only [attention, Bool.or_eq_true, Bool.and_eq_true] at h
    rcases h with ((((h | h) | h) | h) | h) | h
    exacts [⟨.holdChange, h⟩, ⟨.slotFault, h⟩, ⟨.nodeSilent, h⟩, ⟨.overCeiling, h⟩, ⟨.selfPark, h⟩, ⟨.presenceChange, h⟩]
  · cases f <;> simp_all [attention, EventFlags.get]

theorem attnKept_of_eq {s : State} (h : s.mgmt.attn = attention s.mgmt.flags s.mgmt.enables) : AttnKept s := by
  unfold AttnKept
  rw [h]
  exact attention_iff _ _

theorem attnKept_setEvents (s : State) (flags enables : EventFlags) : AttnKept (s.setEvents flags enables) :=
  attnKept_of_eq rfl

theorem attnKept_setFlag (s : State) (f : Flag) : AttnKept (s.setFlag f) := attnKept_setEvents _ _ _

theorem attnKept_congr {s t : State} (h : AttnKept s) (mgmt : t.mgmt = s.mgmt) : AttnKept t := by
  unfold AttnKept
  rw [mgmt]
  exact h

/-- An entry to FAULT reaches the management unit by its flag alone (R26). -/
theorem State.enterFault_mgmt (s : State) (i : SlotId) (cause : FaultCause) :
    (s.enterFault i cause).mgmt = (s.setFlag .slotFault).mgmt := by
  simp [State.enterFault, State.setFlag, State.setEvents]

theorem attnKept_enterFault (s : State) (i : SlotId) (cause : FaultCause) : AttnKept (s.enterFault i cause) :=
  attnKept_congr (attnKept_setFlag s .slotFault) (s.enterFault_mgmt i cause)

theorem attnKept_takeOutcome {s : State} (h : AttnKept s) (i : SlotId) (op : GovernedOp) (o : OpOutcome)
    (report : Option Byte) : AttnKept (s.takeOutcome i op o report) := by
  have taken := takeOutcome_taken s i op o report
  generalize s.takeOutcome i op o report = t at taken ⊢
  cases taken with
  | failed cause _ => exact attnKept_enterFault s i cause
  | _ => exact attnKept_congr h (by simp)

theorem attnKept_settleGoverned {s : State} (h : AttnKept s) (i : SlotId) (g : GovernedRecord) (o : OpOutcome)
    (report : Option Byte) : AttnKept (s.settleGoverned i g o report) := by
  unfold State.settleGoverned
  split
  · exact attnKept_takeOutcome (attnKept_congr h (by simp)) i g.op o report
  · exact attnKept_congr h (by simp)
  · exact attnKept_congr h (by simp)

theorem attnKept_settlePreempting {s : State} (h : AttnKept s) (i : SlotId) (p : PreemptingRecord) (o : OpOutcome)
    (report : Option Byte) : AttnKept (s.settlePreempting i p o report) :=
  attnKept_takeOutcome (attnKept_congr h (by simp)) i p.op o report

theorem attnKept_takeCompletion {s : State} (h : AttnKept s) (i : SlotId) (tag : Byte) (o : CompletionOutcome)
    (payload : List Byte) : AttnKept (s.takeCompletion i tag o payload) := by
  unfold State.takeCompletion
  split
  · exact attnKept_settleGoverned h ..
  · exact attnKept_settlePreempting h ..
  · exact attnKept_congr h (by simp)
  · exact attnKept_congr h (by simp)

theorem attnKept_takeDeadline {s : State} (h : AttnKept s) (i : SlotId) (tag : Byte) : AttnKept (s.takeDeadline i tag) := by
  unfold State.takeDeadline
  split
  · split
    · exact attnKept_settleGoverned (attnKept_congr h (by simp)) ..
    · exact h
  · rename_i p _
    split
    · exact attnKept_congr (attnKept_settlePreempting h i p .timeout none) (by simp)
    · exact h
  · split
    · exact attnKept_congr h (by simp)
    · exact h
  · exact h

/-- An onset reaches the management unit by its flag alone (R106). -/
theorem State.onset_mgmt (s : State) (c : ClassId) : (s.onset c).mgmt = (s.setFlag .holdChange).mgmt := by
  simp [State.onset]

theorem attnKept_activate {s : State} (h : AttnKept s) (c : ClassId) : AttnKept (s.activate c) := by
  unfold State.activate
  split
  · exact h
  · exact attnKept_congr (attnKept_setFlag _ .holdChange) (State.onset_mgmt _ c)

theorem attnKept_unit : HoldUnitKeeps AttnKept where
  node s n f h := attnKept_congr h (by simp)
  counters s k v h := attnKept_congr h (by simp)
  zero s n h := attnKept_congr h (by simp)
  flag s h := attnKept_setFlag s _
  fire s c h := attnKept_activate (attnKept_congr h (by simp)) c
  join s n c h := attnKept_activate (attnKept_congr h (by simp)) c
  leave s n c h := attnKept_congr h (by simp)

theorem attnKept_conclusion : ConclusionKeeps AttnKept where
  grant u i h _ _ _ _ := attnKept_congr h (by simp)
  timer u h := attnKept_congr h rfl
  mark u i h := attnKept_congr h (by simp)
  condition u b h := attnKept_congr h rfl
  flag u h := attnKept_setFlag u _

theorem attnKept_enterRun {s : State} (h : AttnKept s) : AttnKept ((s.setMode .run).forSlots allSlots fun i t =>
    if (t.slot i).state = .stopped then t.proceed i false else t) := by
  refine State.forSlots_induct _ h fun i _ t ht => ?_
  split
  · exact attnKept_congr ht (by simp)
  · exact ht

/-- What is said of ATTN and its flags alone is kept by every event, which writes them through the flags. -/
theorem attnKept_events : EventsKeep (fun _ => AttnKept) (fun _ => AttnKept) := by
  have same : ∀ {s t : State}, AttnKept s → t.mgmt = s.mgmt → AttnKept t := attnKept_congr
  refine {
    room := fun s h _ => h
    body := fun _ s h => h
    answer := fun s a h => same h ?_
    conclusion := fun _ => attnKept_conclusion
    plain := fun s i f h _ _ => same h ?_
    accept := fun s i f a h _ _ => same h ?_
    openGroup := fun s g d f a h _ => same h ?_
    restartPending := fun s tag h _ => same h ?_
    restart := fun s x _ _ _ => attnKept_of_eq (by simp [State.restartRecords]; rfl)
    kindMap := fun s m h => same h ?_
    priorityMap := fun s m q y h => same h ?_
    profile := fun s k p entry h _ => same h ?_
    slotEntry := fun s i zone profile shed h _ => same h ?_
    ceilings := fun s m b entry h _ => same h ?_
    stagger := fun s n h _ => same h ?_
    configureNode := fun s n c entry h _ => attnKept_unit.configureNode n c h
    rule := fun s k r entry h _ => same h ?_
    classStored := fun s c zones unload freeze hold entry h _ _ => same h ?_
    classUpdated := fun s c zones unload freeze hold entry h _ _ => same h ?_
    timing := fun s m entry h _ => h
    enterRun := fun s h _ => attnKept_enterRun h
    enterConfig := fun s h _ => h
    clearFault := fun s i h => same h ?_
    withdraw := fun s i h => same h ?_
    restore := fun s i h => same h ?_
    setEvents := fun s flags enables h => attnKept_setEvents s flags enables
    supplyLine := fun s level e h => same h ?_
    source := fun s h => same h ?_
    presenceInput := fun s i level h => same h ?_
    presenceGained := fun s i h _ _ => same (attnKept_setFlag s .presenceChange)
      (by simp [State.setFlag, State.setEvents])
    presenceLost := fun s i h _ _ => same (attnKept_setFlag s .presenceChange)
      (by simp [State.setFlag, State.setEvents])
    completion := fun s i tag o payload h => attnKept_takeCompletion h i tag o payload
    deadline := fun s i tag h => attnKept_takeDeadline h i tag
    selfParkCounted := fun s i h => same h ?_
    selfParked := fun s i h _ => same (attnKept_setFlag s .selfPark)
      (by simp [State.setFlag, State.setEvents])
    carrierFault := fun s i code h _ => attnKept_enterFault s i _
    holdExpiry := fun s i h => same h ?_
    deadlineDropped := fun s i h => same h ?_
    waitExpired := fun s i a h _ _ => same h ?_
    staggerExpiry := fun s h => same h ?_
    sample := fun s n node seq x y z h => attnKept_unit.takeSample n node seq x y z h
    silence := fun s n h _ => attnKept_unit.silence n h
    classClears := fun s c h _ _ => same (attnKept_setFlag s .holdChange)
      (by simp [State.clear, State.setFlag, State.setEvents])
    classWaits := fun s c h _ _ => same h ?_ }
  all_goals simp

theorem attnKept_step {s t : State} (h : AttnKept s) (e : step s = .next t) : AttnKept t := by
  refine attnKept_events.step (fun u q hu => hu) (fun u q hu => attnKept_congr hu (by simp)) (fun u v hu e => ?_)
    (fun inputs line q => attnKept_of_eq rfl) h e
  refine attnKept_events.answerSentEvent hu e (fun _ _ => attnKept_congr hu (by simp)) (fun x _ => ?_)
  exact attnKept_of_eq (by simp [State.restartRecords]; rfl)

/-! ### The ranges of the tables (R54, R69, R84, R98, R103, R186) -/

/-- The ranges of the node, rule and class tables, which the hold unit and the motion front end hold. -/
structure SensorTablesKept (s : State) : Prop where
  nodes : ∀ n, (500 ≤ (s.node n).config.g ∧ (s.node n).config.g ≤ 2000)
    ∧ (1 ≤ (s.node n).config.k ∧ (s.node n).config.k ≤ 6)
    ∧ (2 ≤ (s.node n).config.silenceLimit ∧ (s.node n).config.silenceLimit ≤ 255)
    ∧ (1 ≤ (s.node n).config.recoveryCount ∧ (s.node n).config.recoveryCount ≤ 15)
  rules : ∀ k, (1 ≤ (s.rule k).persistence ∧ (s.rule k).persistence ≤ 15)
    ∧ (if (s.rule k).metric = .tilt then -256 ≤ (s.rule k).threshold ∧ (s.rule k).threshold ≤ 256
       else 0 ≤ (s.rule k).threshold ∧ (s.rule k).threshold ≤ 28000)
  classes : ∀ c, 1 ≤ (s.cls c).holdTime ∧ (s.cls c).holdTime ≤ 6000

/-- The ranges of the other numeric tables. -/
structure UnitTablesKept (s : State) : Prop where
  profiles : ∀ k : Fin 8, s.profiles[k].spinUpDraw ≤ 60 ∧ s.profiles[k].runningDraw ≤ 60
    ∧ (1 ≤ s.profiles[k].spinUpDeadline ∧ s.profiles[k].spinUpDeadline ≤ 255)
    ∧ (1 ≤ s.profiles[k].spinDownDeadline ∧ s.profiles[k].spinDownDeadline ≤ 255)
    ∧ (1 ≤ s.profiles[k].loadDeadline ∧ s.profiles[k].loadDeadline ≤ 255)
    ∧ (1 ≤ s.profiles[k].unloadDeadline ∧ s.profiles[k].unloadDeadline ≤ 255)
  ceilings : s.arbiter.mainsCeiling ≤ 600 ∧ s.arbiter.batteryCeiling ≤ 600
  stagger : s.arbiter.staggerInterval ≤ 255
  timing : s.mgmt.timing.selfParkHold ≤ 255
    ∧ (1 ≤ s.mgmt.timing.presenceDebounce ∧ s.mgmt.timing.presenceDebounce ≤ 50)
    ∧ (1 ≤ s.mgmt.timing.plainDeadline ∧ s.mgmt.timing.plainDeadline ≤ 255)

theorem tablesKept_iff {s : State} : TablesKept s ↔ SensorTablesKept s ∧ UnitTablesKept s :=
  ⟨fun ⟨p, c, g, n, r, k, t⟩ => ⟨⟨n, r, k⟩, ⟨p, c, g, t⟩⟩, fun ⟨⟨n, r, k⟩, ⟨p, c, g, t⟩⟩ => ⟨p, c, g, n, r, k, t⟩⟩

theorem sensorTablesKept_congr {s t : State} (h : SensorTablesKept s) (nodes : ∀ n, (t.node n).config = (s.node n).config)
    (rules : ∀ k, t.rule k = { s.rule k with counters := (t.rule k).counters })
    (classes : ∀ c, (t.cls c).holdTime = (s.cls c).holdTime) : SensorTablesKept t :=
  ⟨fun n => by rw [nodes]; exact h.nodes n, fun k => by rw [rules]; exact h.rules k,
    fun c => by rw [classes]; exact h.classes c⟩

section
variable (s : State)

@[simp] theorem State.activate_holdTime (c d : ClassId) : ((s.activate c).cls d).holdTime = (s.cls d).holdTime := by
  rw [State.activate_cls]
  split
  · rename_i own; rw [own]
  · rfl

@[simp] theorem State.leaveBlind_holdTime (n : NodeId) (b : Option ClassId) (d : ClassId) :
    ((s.leaveBlind n b).cls d).holdTime = (s.cls d).holdTime := by
  cases b with
  | none => rfl
  | some c =>
    by_cases own : d = c
    · subst own
      simp only [State.leaveBlind, State.leaveClass, State.cls_modifyClass_self]
      split <;> rfl
    · simp [State.leaveBlind, State.leaveClass, own]

@[simp] theorem State.joinBlind_holdTime (n : NodeId) (b : Option ClassId) (d : ClassId) :
    ((s.joinBlind n b).cls d).holdTime = (s.cls d).holdTime := by
  cases b with
  | none => rfl
  | some c =>
    rw [State.joinBlind, State.joinClass_cls]
    split
    · rename_i own; rw [own]
    · rfl

@[simp] theorem State.evaluateRules_holdTime (n : NodeId) (x : Results) (d : ClassId) :
    ((s.evaluateRules n x).cls d).holdTime = (s.cls d).holdTime := by
  unfold State.evaluateRules
  generalize List.finRange 16 = ks
  induction ks generalizing s with
  | nil => rfl
  | cons k ks ih =>
    rw [List.foldl_cons, ih, State.evaluateRule_cls]
    split <;> rfl

@[simp] theorem State.takeSample_holdTime (n : NodeId) (node seq : Byte) (x y z : Int) (d : ClassId) :
    ((s.takeSample n node seq x y z).cls d).holdTime = (s.cls d).holdTime := by
  rcases takeSample_cases s n node seq x y z with e | ⟨gap, e⟩ <;> rw [e]
  unfold State.acceptSample
  dsimp only
  split <;> simp

@[simp] theorem State.silence_holdTime (n : NodeId) (d : ClassId) :
    ((s.silence n).cls d).holdTime = (s.cls d).holdTime := by
  unfold State.silence
  dsimp only
  split <;> simp

@[simp] theorem State.configureNode_holdTime (n : NodeId) (c : NodeConfig) (d : ClassId) :
    ((s.configureNode n c).cls d).holdTime = (s.cls d).holdTime := by
  unfold State.configureNode
  dsimp only
  split
  · split <;> simp
  · simp
  · split <;> simp

@[simp] theorem State.clear_holdTime (c d : ClassId) : ((s.clear c).cls d).holdTime = (s.cls d).holdTime := by
  rw [State.clear_cls]
  split
  · rename_i own; rw [own]
  · rfl

/-- A sample writes counters alone of the rules (R101). -/
theorem State.takeSample_rule (n : NodeId) (node seq : Byte) (x y z : Int) (k : Fin 16) :
    (s.takeSample n node seq x y z).rule k =
      { s.rule k with counters := ((s.takeSample n node seq x y z).rule k).counters } := by
  rcases takeSample_cases s n node seq x y z with e | ⟨gap, e⟩ <;> rw [e]
  have rules : ∀ u v : State, u.rules = v.rules → u.rule k = v.rule k := fun u v h => by unfold State.rule; rw [h]
  rw [rules _ _ (s.acceptSample_rules n seq gap x y z), State.evaluateRules_rule]
  split <;> simp

theorem State.silence_rule (n : NodeId) (k : Fin 16) : (s.silence n).rule k = (s.zeroCounters n).rule k := by
  unfold State.silence
  dsimp only
  split <;> simp [State.zeroCounters_rule]

theorem State.configureNode_rule (n : NodeId) (c : NodeConfig) (k : Fin 16) :
    (s.configureNode n c).rule k =
      if (s.node n).config.enabled = true ∧ c.enabled = false then (s.zeroCounters n).rule k else s.rule k := by
  unfold State.configureNode
  dsimp only
  split
  · rename_i was is; split <;> simp [was, is, State.zeroCounters_rule]
  · rename_i was is; simp [was]
  · rename_i other _
    have stays : ¬((s.node n).config.enabled = true ∧ c.enabled = false) := fun ⟨was, is⟩ => other was is
    rw [if_neg stays]
    split <;> simp

theorem State.configureNode_config (n m : NodeId) (c : NodeConfig) :
    ((s.configureNode n c).node m).config = if m = n then c else (s.node m).config := by
  by_cases own : m = n
  · subst own
    unfold State.configureNode
    dsimp only
    split
    · split <;> simp [NodeRecord.disabled, NodeRecord.configured]
    · simp [NodeRecord.enabledAt, NodeRecord.configured]
    · split <;> simp [NodeRecord.configured]
  · unfold State.configureNode
    dsimp only
    split
    · split <;> simp [own]
    · simp [own]
    · split <;> simp [own]

theorem State.takeSample_config (n m : NodeId) (node seq : Byte) (x y z : Int) :
    ((s.takeSample n node seq x y z).node m).config = (s.node m).config := by
  have accepted : ∀ gap, (s.node n).status ≠ .off →
      ((s.acceptSample n seq gap x y z).node m).config = (s.node m).config := by
    intro gap on
    rw [State.acceptSample_node]
    split
    · rename_i own; rw [own]; exact NodeRecord.accepted_config on
    · rfl
  unfold State.takeSample
  split
  · rfl
  · rename_i taken
    split
    · rfl
    · exact accepted _ (by tauto)
    · exact accepted _ (by tauto)

end

theorem ruleEntry_ranges {e : List Byte} {r : MotionRule} (h : ruleEntry e = some r) :
    (1 ≤ r.persistence ∧ r.persistence ≤ 15) ∧
      (if r.metric = .tilt then -256 ≤ r.threshold ∧ r.threshold ≤ 256 else 0 ≤ r.threshold ∧ r.threshold ≤ 28000) := by
  obtain ⟨u, ns, m, w, p, c, rfl⟩ := ruleEntry_eq_some h
  refine ⟨clampNat_between p (by omega), ?_⟩
  cases m <;> exact clampInt_between w (by omega)

theorem sensorTablesKept_reset : SensorTablesKept State.reset := ⟨by decide, by decide, by decide⟩

theorem sensorTablesKept_sensors : SensorsKeep SensorTablesKept where
  congr s t h nodes rules classes _ := sensorTablesKept_congr h (fun n => by simp [State.node, nodes])
    (fun k => by simp [State.rule, rules]) fun c => by simp [State.cls, classes]
  defaults s time := sensorTablesKept_congr sensorTablesKept_reset
    (fun n => by simp [State.node, State.reset, State.powerOn, defaultNode]) (fun k => rfl) fun c => rfl
  configureNode s n c entry h read := by
    refine ⟨fun m => ?_, fun k => ?_, fun d => by simpa using h.classes d⟩
    · rw [State.configureNode_config]
      split
      · exact nodeEntry_ranges read
      · exact h.nodes m
    · rw [State.configureNode_rule, State.zeroCounters_rule]
      split <;> exact h.rules k
  rule s k r entry h read := by
    refine ⟨h.nodes, fun j => ?_, h.classes⟩
    rw [State.rule_stored]
    split
    · exact ruleEntry_ranges read
    · exact h.rules j
  classStored s c zones unload freeze hold entry h read _ := by
    refine ⟨h.nodes, h.rules, fun d => ?_⟩
    by_cases own : d = c
    · subst own; simpa using classEntry_holdTime read
    · simpa [own] using h.classes d
  classUpdated s c zones unload freeze hold entry h read _ := by
    refine ⟨by simpa using h.nodes, by simpa using h.rules, fun d => ?_⟩
    by_cases own : d = c
    · subst own; simpa using classEntry_holdTime read
    · simpa [own] using h.classes d
  sample s n node seq x y z h := sensorTablesKept_congr h (fun m => s.takeSample_config n m node seq x y z)
    (fun k => s.takeSample_rule n node seq x y z k) (by simp)
  silence s n h _ := by
    refine sensorTablesKept_congr h (fun m => ?_) (fun k => by rw [State.silence_rule, State.zeroCounters_rule]) (by simp)
    rw [State.silence_node]
    split
    · rename_i own; rw [own]; rfl
    · rfl
  classClears s c h _ _ := sensorTablesKept_congr h (by simp) (by simp) (by simp)
  classWaits s c h _ _ := sensorTablesKept_congr h (by simp) (by simp) fun d => by
    by_cases own : d = c
    · subst own; simp
    · simp [own]

/-! ### The tables of the other units -/

theorem unitTablesKept_congr {s t : State} (h : UnitTablesKept s) (profiles : t.profiles = s.profiles)
    (mains : t.arbiter.mainsCeiling = s.arbiter.mainsCeiling)
    (battery : t.arbiter.batteryCeiling = s.arbiter.batteryCeiling)
    (stagger : t.arbiter.staggerInterval = s.arbiter.staggerInterval) (timing : t.mgmt.timing = s.mgmt.timing) :
    UnitTablesKept t :=
  ⟨by rw [profiles]; exact h.profiles, by rw [mains, battery]; exact h.ceilings, by rw [stagger]; exact h.stagger,
    by rw [timing]; exact h.timing⟩

theorem unitTablesKept_reset : UnitTablesKept State.reset := ⟨by decide, by decide, by decide, by decide⟩

theorem unitTablesKept_restart (s : State) : UnitTablesKept s.restartRecords.sendQueries :=
  unitTablesKept_congr unitTablesKept_reset (by simp [State.restartRecords]; rfl) (by simp [State.restartRecords]; rfl)
    (by simp [State.restartRecords]; rfl) (by simp [State.restartRecords]; rfl) (by simp [State.restartRecords]; rfl)

theorem unitTablesKept_conclusion : ConclusionKeeps UnitTablesKept where
  grant u i h _ _ _ _ := unitTablesKept_congr h (by simp) (by simp) (by simp) (by simp) (by simp)
  timer u h := unitTablesKept_congr h rfl rfl rfl rfl rfl
  mark u i h := unitTablesKept_congr h (by simp) (by simp) (by simp) (by simp) (by simp)
  condition u b h := unitTablesKept_congr h rfl rfl rfl rfl rfl
  flag u h := unitTablesKept_congr h (by simp) (by simp) (by simp) (by simp) (by simp)

theorem profileEntry_ranges {e : List Byte} {p : DrawProfile} (h : profileEntry e = some p) :
    p.spinUpDraw ≤ 60 ∧ p.runningDraw ≤ 60 ∧ (1 ≤ p.spinUpDeadline ∧ p.spinUpDeadline ≤ 255)
      ∧ (1 ≤ p.spinDownDeadline ∧ p.spinDownDeadline ≤ 255) ∧ (1 ≤ p.loadDeadline ∧ p.loadDeadline ≤ 255)
      ∧ (1 ≤ p.unloadDeadline ∧ p.unloadDeadline ≤ 255) := by
  unfold profileEntry at h
  split at h
  · cases h
    exact ⟨Nat.min_le_right _ _, Nat.min_le_right _ _, clampNat_between _ (by omega), clampNat_between _ (by omega),
      clampNat_between _ (by omega), clampNat_between _ (by omega)⟩
  · cases h

theorem ceilingField_le {kept n : Nat} (h : kept ≤ 600) : ceilingField kept n ≤ 600 := by
  unfold ceilingField
  split
  · exact h
  · exact Nat.min_le_right _ _

theorem unitTablesKept_profile {s : State} (h : UnitTablesKept s) (k : Fin 8) {e : List Byte} {p : DrawProfile}
    (read : profileEntry e = some p) :
    UnitTablesKept (({ s with profiles := s.profiles.set k.val p k.isLt } : State).rederiveProfile k) := by
  refine ⟨fun j => ?_, by simpa using h.ceilings, by simpa using h.stagger, by simpa using h.timing⟩
  have own : (({ s with profiles := s.profiles.set k.val p k.isLt } : State).rederiveProfile k).profiles[j] =
      if k.val = j.val then p else s.profiles[j] := by simp [Vector.getElem_set]
  rw [own]
  split
  · exact profileEntry_ranges read
  · exact h.profiles j

theorem unitTablesKept_enterRun {s : State} (h : UnitTablesKept s) : UnitTablesKept ((s.setMode .run).forSlots allSlots
    fun i t => if (t.slot i).state = .stopped then t.proceed i false else t) := by
  refine State.forSlots_induct _ (unitTablesKept_congr h rfl rfl rfl rfl rfl) fun i _ t ht => ?_
  split
  · exact unitTablesKept_congr ht (by simp) (by simp) (by simp) (by simp) (by simp)
  · exact ht

theorem timingEntry_ranges {e : List Byte} {m : Timing} (h : timingEntry e = some m) : m.selfParkHold ≤ 255
    ∧ (1 ≤ m.presenceDebounce ∧ m.presenceDebounce ≤ 50) ∧ (1 ≤ m.plainDeadline ∧ m.plainDeadline ≤ 255) := by
  unfold timingEntry at h
  split at h
  · rename_i hold _ _
    cases h
    exact ⟨Nat.le_of_lt_succ hold.isLt, clampNat_between _ (by omega), clampNat_between _ (by omega)⟩
  · cases h

theorem ceilingsEntry_le {m b : Nat} {e : List Byte} {m' b' : Nat} (mains : m ≤ 600) (battery : b ≤ 600)
    (h : ceilingsEntry m b e = some (m', b')) : m' ≤ 600 ∧ b' ≤ 600 := by
  unfold ceilingsEntry at h
  split at h
  · cases h; exact ⟨ceilingField_le mains, ceilingField_le battery⟩
  · cases h

theorem unitTablesKept_events : EventsKeep (fun _ => UnitTablesKept) (fun _ => UnitTablesKept) := by
  have same : ∀ {s t : State}, UnitTablesKept s → t.profiles = s.profiles →
      t.arbiter.mainsCeiling = s.arbiter.mainsCeiling → t.arbiter.batteryCeiling = s.arbiter.batteryCeiling →
      t.arbiter.staggerInterval = s.arbiter.staggerInterval → t.mgmt.timing = s.mgmt.timing → UnitTablesKept t :=
    unitTablesKept_congr
  refine {
    room := fun s h _ => h
    body := fun _ s h => h
    answer := fun s a h => same h ?_ ?_ ?_ ?_ ?_
    conclusion := fun _ => unitTablesKept_conclusion
    plain := fun s i f h _ _ => same h ?_ ?_ ?_ ?_ ?_
    accept := fun s i f a h _ _ => same h ?_ ?_ ?_ ?_ ?_
    openGroup := fun s g d f a h _ => same h ?_ ?_ ?_ ?_ ?_
    restartPending := fun s tag h _ => same h ?_ ?_ ?_ ?_ ?_
    restart := fun s x _ _ _ => unitTablesKept_restart _
    kindMap := fun s m h => same h ?_ ?_ ?_ ?_ ?_
    priorityMap := fun s m q y h => same h ?_ ?_ ?_ ?_ ?_
    profile := fun s k p entry h read => unitTablesKept_profile h k read
    slotEntry := fun s i zone profile shed h _ => same h ?_ ?_ ?_ ?_ ?_
    ceilings := fun s m b entry h read => ⟨h.profiles, ceilingsEntry_le h.ceilings.1 h.ceilings.2 read, h.stagger, h.timing⟩
    stagger := fun s n h read => ⟨h.profiles, h.ceilings, read, h.timing⟩
    configureNode := fun s n c entry h _ => same h ?_ ?_ ?_ ?_ ?_
    rule := fun s k r entry h _ => same h ?_ ?_ ?_ ?_ ?_
    classStored := fun s c zones unload freeze hold entry h _ _ => same h ?_ ?_ ?_ ?_ ?_
    classUpdated := fun s c zones unload freeze hold entry h _ _ => same h ?_ ?_ ?_ ?_ ?_
    timing := fun s m entry h read => ⟨h.profiles, h.ceilings, h.stagger, timingEntry_ranges read⟩
    enterRun := fun s h _ => unitTablesKept_enterRun h
    enterConfig := fun s h _ => same h ?_ ?_ ?_ ?_ ?_
    clearFault := fun s i h => same h ?_ ?_ ?_ ?_ ?_
    withdraw := fun s i h => same h ?_ ?_ ?_ ?_ ?_
    restore := fun s i h => same h ?_ ?_ ?_ ?_ ?_
    setEvents := fun s flags enables h => same h ?_ ?_ ?_ ?_ ?_
    supplyLine := fun s level e h => same h ?_ ?_ ?_ ?_ ?_
    source := fun s h => same h ?_ ?_ ?_ ?_ ?_
    presenceInput := fun s i level h => same h ?_ ?_ ?_ ?_ ?_
    presenceGained := fun s i h _ _ => same h ?_ ?_ ?_ ?_ ?_
    presenceLost := fun s i h _ _ => same h ?_ ?_ ?_ ?_ ?_
    completion := fun s i tag o payload h => same h ?_ ?_ ?_ ?_ ?_
    deadline := fun s i tag h => same h ?_ ?_ ?_ ?_ ?_
    selfParkCounted := fun s i h => same h ?_ ?_ ?_ ?_ ?_
    selfParked := fun s i h _ => same h ?_ ?_ ?_ ?_ ?_
    carrierFault := fun s i code h _ => same h ?_ ?_ ?_ ?_ ?_
    holdExpiry := fun s i h => same h ?_ ?_ ?_ ?_ ?_
    deadlineDropped := fun s i h => same h ?_ ?_ ?_ ?_ ?_
    waitExpired := fun s i a h _ _ => same h ?_ ?_ ?_ ?_ ?_
    staggerExpiry := fun s h => same h ?_ ?_ ?_ ?_ ?_
    sample := fun s n node seq x y z h => same h ?_ ?_ ?_ ?_ ?_
    silence := fun s n h _ => same h ?_ ?_ ?_ ?_ ?_
    classClears := fun s c h _ _ => same h ?_ ?_ ?_ ?_ ?_
    classWaits := fun s c h _ _ => same h ?_ ?_ ?_ ?_ ?_ }
  all_goals simp [State.setMode]

theorem unitTablesKept_step {s t : State} (h : UnitTablesKept s) (e : step s = .next t) : UnitTablesKept t := by
  refine unitTablesKept_events.step (fun u q hu => unitTablesKept_congr hu rfl rfl rfl rfl rfl)
    (fun u q hu => unitTablesKept_congr hu (by simp) (by simp) (by simp) (by simp) (by simp)) (fun u v hu e => ?_)
    (fun inputs line q => unitTablesKept_congr unitTablesKept_reset rfl rfl rfl rfl rfl) h e
  refine unitTablesKept_events.answerSentEvent hu e (fun _ _ => ?_) fun x _ => unitTablesKept_restart _
  exact unitTablesKept_congr hu (by simp) (by simp) (by simp) (by simp) (by simp)

/-- Settles O56: ATTN follows the flags at each write of a flag, and each table is written through its clamps. -/
theorem stepKeepsAttnAndTables : Obligations.StepKeepsAttnAndTables := by
  intro s t attn tables e
  rw [tablesKept_iff] at tables ⊢
  exact ⟨attnKept_step attn e, sensorTablesKept_sensors.step tables.1 e, unitTablesKept_step tables.2 e⟩

end Sys2Proof.Machine
end

section
/-! PROOFS. The slots' records and the budget account: what a rule of the states does, and what it keeps (R9, R10, R13
to R20, R29, R37). -/

namespace Sys2Proof.Machine

/-! ### Sums over the slots -/

/-- Where only one term differs, the sum follows it. -/
theorem sum_finRange_of_eq {n : Nat} {f g : Fin n → Nat} (i : Fin n) (h : ∀ j, j ≠ i → f j = g j) :
    ((List.finRange n).map f).sum = ((List.finRange n).map g).sum - g i + f i := by
  have split : ∀ k : Fin n → Nat, ((List.finRange n).map k).sum = k i + ∑ j ∈ Finset.univ.erase i, k j := by
    intro k
    rw [← Fin.sum_univ_def, Finset.add_sum_erase _ _ (Finset.mem_univ i)]
  have rest : ∑ j ∈ Finset.univ.erase i, f j = ∑ j ∈ Finset.univ.erase i, g j :=
    Finset.sum_congr rfl fun j hj => h j (Finset.ne_of_mem_erase hj)
  rw [split f, split g, rest]
  omega

theorem sum_allSlots_of_eq {f g : SlotId → Nat} (i : SlotId) (h : ∀ j, j ≠ i → f j = g j) :
    (allSlots.map f).sum = (allSlots.map g).sum - g i + f i := sum_finRange_of_eq i h

theorem countP_eq_sum {α : Type} (p : α → Bool) (l : List α) :
    l.countP p = (l.map fun a => if p a = true then 1 else 0).sum := by
  induction l with
  | nil => rfl
  | cons a l ih => rw [List.countP_cons, ih, List.map_cons, List.sum_cons, Nat.add_comm]

/-- Where the predicate differs at one place, the count follows it. -/
theorem countP_finRange_of_eq {n : Nat} {p q : Fin n → Bool} (i : Fin n) (h : ∀ j, j ≠ i → p j = q j) :
    (List.finRange n).countP p + (if q i = true then 1 else 0) =
      (List.finRange n).countP q + (if p i = true then 1 else 0) := by
  have counted : (if q i = true then 1 else 0) ≤ (List.finRange n).countP q := by
    split
    · rename_i on; exact List.countP_pos_iff.2 ⟨i, List.mem_finRange i, on⟩
    · exact Nat.zero_le _
  have follows := sum_finRange_of_eq (f := fun j => if p j = true then 1 else 0)
    (g := fun j => if q j = true then 1 else 0) i fun j other => by rw [h j other]
  rw [← countP_eq_sum, ← countP_eq_sum] at follows
  omega

/-! ### Queue entries (R29, R32, R33) -/

section
variable (s : State) (i j : SlotId)

theorem State.entriesOf_dequeue : (s.dequeue i).entriesOf j = if j = i then 0 else s.entriesOf j := by
  have filtered : (s.dequeue i).examined = s.examined.filter fun e => e.slot ≠ i := by
    simp [State.examined, State.dequeue]
  rw [State.entriesOf, filtered, List.countP_filter]
  split
  · rename_i own; subst own; simp
  · rename_i other
    exact List.countP_congr fun e _ => by simp; rintro rfl; exact other

theorem State.entriesOf_enqueue : (s.enqueue i).entriesOf j = s.entriesOf j + if j = i then 1 else 0 := by
  have total : ∀ t : State, t.entriesOf j = ([3, 2, 1, 0].map fun q : Fin 4 =>
      t.arbiter.queues[q].countP fun e => decide (e.slot = j)).sum := by
    intro t
    simp [State.entriesOf, State.examined, List.countP_append]
  have joined : ∀ q : Fin 4, ((s.enqueue i).arbiter.queues[q].countP fun e => decide (e.slot = j)) =
      (s.arbiter.queues[q].countP fun e => decide (e.slot = j)) +
        if q = (s.queueChoice i).1 then (if j = i then 1 else 0) else 0 := by
    intro q
    rw [State.enqueue_queue]
    split
    · simp [List.countP_append, List.countP_cons, eq_comm]
    · rfl
  rw [total, total]
  simp only [List.map_cons, List.map_nil, joined, List.sum_cons, List.sum_nil]
  generalize (s.queueChoice i).1 = q
  fin_cases q <;> simp <;> omega

end

/-! ### The account with one slot left open -/

/-- What holds of a slot's record but for its queue entry. -/
structure SlotRecord.Kept (r : SlotRecord) (p : DrawProfile) : Prop where
  presence : r.present = true ↔ r.state ≠ .empty
  switch : r.powerSwitch = r.state.powered
  reservation : r.reservation = reservationIn p r.drawKept r.state
  debounce : r.debounceExpiry.isSome = true ↔ seated r.input ≠ r.present
  active : r.active.isSome = true → r.state ≠ .empty ∧ r.state ≠ .fault

theorem slotKept_iff {s : State} {i : SlotId} :
    SlotKept s i ↔ (s.slot i).Kept (s.profileOf i) ∧ s.entriesOf i = if (s.slot i).state = .queued then 1 else 0 :=
  ⟨fun ⟨p, w, r, d, q, a⟩ => ⟨⟨p, w, r, d, a⟩, q⟩, fun ⟨⟨p, w, r, d, a⟩, q⟩ => ⟨p, w, r, d, q, a⟩⟩

/-- The account but for what slot `i`'s own record must be. -/
structure AccountBut (s : State) (i : SlotId) : Prop where
  others : ∀ j, j ≠ i → SlotKept s j
  total : s.arbiter.reservationTotal = (allSlots.map fun j => (s.slot j).reservation).sum

theorem accountKept_iff_but {s : State} (i : SlotId) : AccountKept s ↔ AccountBut s i ∧ SlotKept s i := by
  refine ⟨fun ⟨slots, total⟩ => ⟨⟨fun j _ => slots j, total⟩, slots i⟩, fun ⟨⟨others, total⟩, own⟩ => ⟨fun j => ?_, total⟩⟩
  by_cases h : j = i
  · exact h ▸ own
  · exact others j h

section
variable {s t : State} {i : SlotId}

theorem slotKept_congr (h : SlotKept s i) (slot : t.slot i = s.slot i) (profile : t.profileOf i = s.profileOf i)
    (entries : t.entriesOf i = s.entriesOf i) : SlotKept t i := by
  rw [slotKept_iff] at h ⊢
  rwa [slot, profile, entries]

theorem accountBut_congr (h : AccountBut s i) (slots : ∀ j, j ≠ i → t.slot j = s.slot j)
    (profiles : ∀ j, j ≠ i → t.profileOf j = s.profileOf j) (entries : ∀ j, j ≠ i → t.entriesOf j = s.entriesOf j)
    (reservation : (t.slot i).reservation = (s.slot i).reservation)
    (total : t.arbiter.reservationTotal = s.arbiter.reservationTotal) : AccountBut t i := by
  refine ⟨fun j other => slotKept_congr (h.others j other) (slots j other) (profiles j other) (entries j other), ?_⟩
  rw [total, h.total]
  congr 1
  refine List.map_congr_left fun j _ => ?_
  by_cases own : j = i
  · rw [own, reservation]
  · rw [slots j own]

theorem accountKept_congr (h : AccountKept s) (slots : t.slots = s.slots) (profiles : t.profiles = s.profiles)
    (queues : t.arbiter.queues = s.arbiter.queues)
    (total : t.arbiter.reservationTotal = s.arbiter.reservationTotal) : AccountKept t := by
  have slot : ∀ j, t.slot j = s.slot j := fun j => by unfold State.slot; rw [slots]
  refine ⟨fun j => slotKept_congr (h.slots j) (slot j) ?_ ?_, by simpa [slot, total] using h.total⟩
  · simp only [State.profileOf, profiles, slot]
  · unfold State.entriesOf State.examined; rw [queues]

theorem accountBut_modifySlot (h : AccountBut s i) (f : SlotRecord → SlotRecord)
    (reservation : (f (s.slot i)).reservation = (s.slot i).reservation) : AccountBut (s.modifySlot i f) i :=
  accountBut_congr h (fun j other => by simp [other]) (fun j other => by simp [State.profileOf, other])
    (fun j _ => rfl) (by simpa using reservation) rfl

/-! ### Entering a state (R10, R37) -/

theorem accountBut_enterState (h : AccountBut s i) (st : SlotState) : AccountBut (s.enterState i st) i := by
  have slot : ∀ j, j ≠ i → (s.enterState i st).slot j = s.slot j := fun j other => by
    rw [State.enterState_slot, if_neg other]
  have reservation : ((s.enterState i st).slot i).reservation = reservationIn (s.profileOf i) (s.slot i).drawKept st := by
    rw [State.enterState_slot, if_pos rfl]
  refine ⟨fun j other => slotKept_congr (h.others j other) (slot j other) (by simp) (by simp [State.entriesOf]), ?_⟩
  rw [State.enterState_total, h.total,
    sum_allSlots_of_eq (f := fun j => ((s.enterState i st).slot j).reservation) i fun j other => by rw [slot j other],
    reservation]

theorem recordKept_enterState (st : SlotState) (presence : (s.slot i).present = true ↔ st ≠ .empty)
    (debounce : (s.slot i).debounceExpiry.isSome = true ↔ seated (s.slot i).input ≠ (s.slot i).present)
    (active : (s.slot i).active.isSome = true → st ≠ .empty ∧ st ≠ .fault) :
    ((s.enterState i st).slot i).Kept ((s.enterState i st).profileOf i) := by
  rw [State.enterState_slot, if_pos rfl, show (s.enterState i st).profileOf i = s.profileOf i by simp]
  exact ⟨presence, rfl, rfl, debounce, active⟩

end

/-! ### The rule of a slot's state (R13 to R20) -/

/-- What the rule of slot `i`'s state does with its effective target. -/
inductive ProceedStep (s : State) (i : SlotId) (onset : Bool) : State → Prop
  | stays : afterRecompute (decide (s.mgmt.mode = .run)) (s.slot i).state (s.effectiveTarget i) = (s.slot i).state →
      ProceedStep s i onset s
  | raised : (s.slot i).state = .stopped → s.effectiveTarget i ≠ .stopped → s.mgmt.mode = .run →
      ProceedStep s i onset ((s.enterState i .queued).enqueue i)
  | withdrawn : (s.slot i).state = .queued → s.effectiveTarget i = .stopped →
      ProceedStep s i onset ((s.dequeue i).enterState i .stopped)
  | spunDown (kept : DrawKept) : (s.slot i).state = .spinningUp ∧ kept = .spinUp ∨ (s.slot i).state = .parked ∧ kept = .running →
      s.effectiveTarget i = .stopped → ProceedStep s i onset (s.spinDown i kept)
  | loads : (s.slot i).state = .parked → s.effectiveTarget i = .loaded →
      ProceedStep s i onset ((s.enterState i .loading).ask i .load)
  | unloads : (s.slot i).state = .loading ∨ (s.slot i).state = .loaded → s.effectiveTarget i ≠ .loaded →
      ProceedStep s i onset (s.unloadHeads i onset)

theorem proceedStep (s : State) (i : SlotId) (onset : Bool) : ProceedStep s i onset (s.proceed i onset) := by
  have stay : s.proceed i onset = s → ProceedStep s i onset (s.proceed i onset) := by
    intro same
    have after := s.proceed_state i onset
    rw [same] at after ⊢
    exact .stays after.symm
  have unload : (s.slot i).state = .loading ∨ (s.slot i).state = .loaded →
      ProceedStep s i onset (s.proceed i onset) := by
    intro on
    by_cases top : s.effectiveTarget i = .loaded
    · exact stay (by rcases on with st | st <;> simp [State.proceed, st, top])
    · rw [show s.proceed i onset = s.unloadHeads i onset by rcases on with st | st <;> simp [State.proceed, st, top]]
      exact .unloads on top
  cases st : (s.slot i).state with
  | stopped =>
    by_cases up : s.effectiveTarget i ≠ .stopped ∧ s.mgmt.mode = .run
    · rw [show s.proceed i onset = (s.enterState i .queued).enqueue i by simp [State.proceed, st, up]]
      exact .raised st up.1 up.2
    · exact stay (by simp only [State.proceed, st, if_neg up])
  | queued =>
    by_cases down : s.effectiveTarget i = .stopped
    · rw [show s.proceed i onset = (s.dequeue i).enterState i .stopped by simp [State.proceed, st, down]]
      exact .withdrawn st down
    · exact stay (by simp [State.proceed, st, down])
  | spinningUp =>
    by_cases down : s.effectiveTarget i = .stopped
    · rw [show s.proceed i onset = s.spinDown i .spinUp by simp [State.proceed, st, down]]
      exact .spunDown _ (.inl ⟨st, rfl⟩) down
    · exact stay (by simp [State.proceed, st, down])
  | parked =>
    cases target : s.effectiveTarget i with
    | loaded =>
      rw [show s.proceed i onset = (s.enterState i .loading).ask i .load by simp [State.proceed, st, target]]
      exact .loads st target
    | stopped =>
      rw [show s.proceed i onset = s.spinDown i .running by simp [State.proceed, st, target]]
      exact .spunDown _ (.inr ⟨st, rfl⟩) target
    | parked => exact stay (by simp [State.proceed, st, target])
  | loading => exact unload (.inl st)
  | loaded => exact unload (.inr st)
  | empty => exact stay (by simp [State.proceed, st])
  | unloading => exact stay (by simp [State.proceed, st])
  | spinningDown => exact stay (by simp [State.proceed, st])
  | probing => exact stay (by simp [State.proceed, st])
  | fault => exact stay (by simp [State.proceed, st])

/-! ### The account under the rule -/

section
variable {s : State} {i : SlotId}

theorem accountKept_ask (h : AccountKept s) (op : GovernedOp) : AccountKept (s.ask i op) :=
  accountKept_congr h (by simp) (by simp) (by simp) (by simp)

/-- A slot with a carrier and no fault takes another such state, queue entries aside. -/
theorem accountKept_enterState (h : AccountBut s i) (st : SlotState) (presence : (s.slot i).present = true ↔ st ≠ .empty)
    (debounce : (s.slot i).debounceExpiry.isSome = true ↔ seated (s.slot i).input ≠ (s.slot i).present)
    (active : (s.slot i).active.isSome = true → st ≠ .empty ∧ st ≠ .fault)
    (entries : s.entriesOf i = if st = .queued then 1 else 0) : AccountKept (s.enterState i st) := by
  rw [accountKept_iff_but i, slotKept_iff]
  refine ⟨accountBut_enterState h st, recordKept_enterState st presence debounce active, ?_⟩
  have same : (s.enterState i st).entriesOf i = s.entriesOf i := by simp [State.entriesOf]
  rw [same, entries, State.enterState_slot, if_pos rfl]

/-- A slot that stands in a state with a carrier takes another such state. -/
theorem accountKept_moves (h : AccountKept s) (st : SlotState) (from_ : (s.slot i).state ≠ .empty)
    (open_ : (s.slot i).state ≠ .queued) (into : st ≠ .empty ∧ st ≠ .fault ∧ st ≠ .queued) :
    AccountKept (s.enterState i st) := by
  obtain ⟨but, own⟩ := (accountKept_iff_but i).1 h
  refine accountKept_enterState but st ?_ own.debounce (fun _ => ⟨into.1, into.2.1⟩) ?_
  · simp [own.presence, from_, into.1]
  · rw [own.queued, if_neg open_, if_neg into.2.2]

/-- A change of slot `i`'s own record that leaves state, reservation and profile alone. -/
theorem accountKept_modifySlot (h : AccountKept s) (f : SlotRecord → SlotRecord)
    (kept : ∀ p, (s.slot i).Kept p → (f (s.slot i)).Kept p) (state : (f (s.slot i)).state = (s.slot i).state)
    (reservation : (f (s.slot i)).reservation = (s.slot i).reservation)
    (profile : (f (s.slot i)).profile = (s.slot i).profile) : AccountKept (s.modifySlot i f) := by
  obtain ⟨but, own⟩ := (accountKept_iff_but i).1 h
  rw [slotKept_iff] at own
  refine (accountKept_iff_but i).2 ⟨accountBut_modifySlot but f reservation, slotKept_iff.2 ⟨?_, ?_⟩⟩
  · have same : (s.modifySlot i f).profileOf i = s.profileOf i := by simp [State.profileOf, profile]
    rw [same, State.slot_modifySlot_self]
    exact kept _ own.1
  · rw [State.slot_modifySlot_self, state]
    exact own.2

theorem accountKept_unloadHeads (h : AccountKept s) (on : (s.slot i).state = .loading ∨ (s.slot i).state = .loaded)
    (onset : Bool) : AccountKept (s.unloadHeads i onset) := by
  refine accountKept_ask (accountKept_moves (accountKept_modifySlot h _ ?_ rfl rfl rfl) .unloading ?_ ?_ ?_) .unload
  · exact fun p ⟨presence, switch, reservation, debounce, active⟩ => ⟨presence, switch, reservation, debounce, active⟩
  · rcases on with st | st <;> simp [st]
  · rcases on with st | st <;> simp [st]
  · decide

theorem accountKept_spinDown (h : AccountKept s) (kept : DrawKept)
    (on : (s.slot i).state = .spinningUp ∨ (s.slot i).state = .parked) : AccountKept (s.spinDown i kept) := by
  refine accountKept_ask (accountKept_moves (accountKept_modifySlot h _ ?_ rfl rfl rfl) .spinningDown ?_ ?_ ?_) .stop
  · intro p ⟨presence, switch, reservation, debounce, active⟩
    refine ⟨presence, switch, reservation.trans ?_, debounce, active⟩
    rcases on with st | st <;> simp [st, reservationIn]
  · rcases on with st | st <;> simp [st]
  · rcases on with st | st <;> simp [st]
  · decide

theorem accountKept_raised (h : AccountKept s) (st : (s.slot i).state = .stopped) :
    AccountKept ((s.enterState i .queued).enqueue i) := by
  obtain ⟨but, own⟩ := (accountKept_iff_but i).1 h
  have entered := accountBut_enterState but .queued
  refine (accountKept_iff_but i).2 ⟨accountBut_congr entered (by simp) (by simp) (fun j other => ?_) (by simp) (by simp),
    slotKept_iff.2 ⟨?_, ?_⟩⟩
  · rw [State.entriesOf_enqueue, if_neg other, Nat.add_zero]
  · have record := recordKept_enterState (i := i) .queued (by simp [own.presence, st]) own.debounce (by simp)
    simpa using record
  · have none : (s.enterState i .queued).entriesOf i = 0 := by
      simpa [State.entriesOf, st] using own.queued
    rw [State.entriesOf_enqueue, none]
    simp [State.enterState_slot]

theorem accountBut_dequeue (h : AccountBut s i) : AccountBut (s.dequeue i) i :=
  accountBut_congr h (by simp) (by simp) (fun j other => by rw [State.entriesOf_dequeue, if_neg other]) (by simp)
    (by simp)

theorem accountKept_withdrawn (h : AccountKept s) (st : (s.slot i).state = .queued) :
    AccountKept ((s.dequeue i).enterState i .stopped) := by
  obtain ⟨but, own⟩ := (accountKept_iff_but i).1 h
  refine accountKept_enterState (accountBut_dequeue but) .stopped ?_ (by simpa using own.debounce) (by simp) ?_
  · simp [own.presence, st]
  · rw [State.entriesOf_dequeue]; simp

theorem accountKept_proceed (h : AccountKept s) (i : SlotId) (onset : Bool) : AccountKept (s.proceed i onset) := by
  have taken := proceedStep s i onset
  generalize s.proceed i onset = t at taken ⊢
  cases taken with
  | stays _ => exact h
  | raised st _ _ => exact accountKept_raised h st
  | withdrawn st _ => exact accountKept_withdrawn h st
  | spunDown kept on _ => exact accountKept_spinDown h kept (on.imp And.left And.left)
  | loads st _ => exact accountKept_ask (accountKept_moves h .loading (by simp [st]) (by simp [st]) (by decide)) .load
  | unloads on _ => exact accountKept_unloadHeads h on onset

end

end Sys2Proof.Machine
end

section
/-! PROOFS. The budget account over every operation and every event (R9, R10, R29, R37). -/

namespace Sys2Proof.Machine

section
variable {s : State} {i : SlotId}

/-! ### Outcomes, arrivals, FAULT -/

theorem accountBut_giveOutcome (h : AccountBut s i) (code : AnswerCode) : AccountBut (s.giveOutcome i code) i :=
  accountBut_congr h (fun j other => by rw [State.giveOutcome_slot, if_neg other]) (by simp) (by simp [State.entriesOf])
    (by simp [State.giveOutcome_slot]) (by simp)

theorem accountKept_giveOutcome (h : AccountKept s) (i : SlotId) (code : AnswerCode) :
    AccountKept (s.giveOutcome i code) := by
  obtain ⟨but, own⟩ := (accountKept_iff_but i).1 h
  obtain ⟨⟨presence, switch, reservation, debounce, -⟩, entries⟩ := slotKept_iff.1 own
  refine (accountKept_iff_but i).2 ⟨accountBut_giveOutcome but code, slotKept_iff.2 ⟨?_, ?_⟩⟩
  · rw [State.giveOutcome_slot, if_pos rfl, show (s.giveOutcome i code).profileOf i = s.profileOf i by simp]
    exact ⟨presence, switch, reservation, debounce, by simp⟩
  · simpa [State.giveOutcome_slot, State.entriesOf] using entries

theorem accountKept_completeIfReached (h : AccountKept s) (i : SlotId) : AccountKept (s.completeIfReached i) := by
  rcases s.completeIfReached_cases i with ⟨e, _⟩ | ⟨e, _⟩ <;> rw [e]
  · exact h
  · exact accountKept_giveOutcome h i _

/-- The slot arrives in a state with a carrier. -/
theorem accountKept_arrive (h : AccountKept s) (st : SlotState) (from_ : (s.slot i).state ≠ .empty)
    (open_ : (s.slot i).state ≠ .queued) (into : st ≠ .empty ∧ st ≠ .fault ∧ st ≠ .queued) :
    AccountKept (s.arrive i st) :=
  accountKept_proceed (accountKept_completeIfReached (accountKept_moves h st from_ open_ into) i) i false

theorem ne_of_powered {st : SlotState} (on : st.powered = true) : st ≠ .empty ∧ st ≠ .queued := by
  cases st <;> simp [SlotState.powered] at on ⊢

theorem accountKept_enterFault (h : AccountKept s) (on : (s.slot i).state.powered = true) (cause : FaultCause) :
    AccountKept (s.enterFault i cause) := by
  obtain ⟨but, own⟩ := (accountKept_iff_but i).1 h
  obtain ⟨seated, out⟩ := ne_of_powered on
  refine (accountKept_iff_but i).2 ⟨?_, slotKept_iff.2 ⟨?_, ?_⟩⟩
  · have faulted := accountBut_enterState but .fault
    have abandoned : AccountBut ((s.enterState i .fault).modifyLane i LaneRecord.abandonGoverned) i :=
      accountBut_congr faulted (by simp) (by simp) (by simp [State.entriesOf]) (by simp) (by simp)
    have caused := accountBut_modifySlot abandoned (fun r => { r with faultCause := some cause, shedMark := false }) rfl
    refine accountBut_giveOutcome (accountBut_congr caused ?_ ?_ ?_ ?_ ?_) _ <;> simp [State.entriesOf]
  · rw [State.enterFault_slot, if_pos rfl, show (s.enterFault i cause).profileOf i = s.profileOf i by simp]
    exact ⟨by simp [own.presence, seated], rfl, rfl, own.debounce, by simp⟩
  · have same : (s.enterFault i cause).entriesOf i = s.entriesOf i := by simp [State.entriesOf, State.enterFault]
    rw [same, own.queued, State.enterFault_slot, if_pos rfl, if_neg out]
    rfl

theorem powered_of_waitsOn {st : SlotState} {op : GovernedOp} (h : st.waitsOn = some op) : st.powered = true := by
  cases st <;> first | rfl | cases h

theorem accountKept_stopDone (h : AccountKept s) (st : (s.slot i).state = .spinningDown) : AccountKept (s.stopDone i) := by
  obtain ⟨but, own⟩ := (accountKept_iff_but i).1 h
  have down := accountBut_modifySlot but (fun r => { r with drawKept := .running, shedMark := false }) rfl
  refine accountKept_proceed (accountKept_completeIfReached (accountKept_enterState down .stopped ?_ ?_ ?_ ?_) i) i false
  · simp [own.presence, st]
  · simpa using own.debounce
  · simp
  · simpa [State.entriesOf, st] using own.queued

theorem asTarget_ne {st : SlotState} {t : Target} (h : st.asTarget = some t) : st ≠ .empty ∧ st ≠ .fault ∧ st ≠ .queued := by
  cases st <;> simp [SlotState.asTarget] at h ⊢

theorem accountKept_takeOutcome (h : AccountKept s) (i : SlotId) (op : GovernedOp) (o : OpOutcome)
    (report : Option Byte) : AccountKept (s.takeOutcome i op o report) := by
  have taken := takeOutcome_taken s i op o report
  generalize s.takeOutcome i op o report = t at taken ⊢
  cases taken with
  | unnamed _ => exact h
  | failed cause waits => exact accountKept_enterFault h (powered_of_waitsOn waits) cause
  | spun st _ => exact accountKept_arrive h _ (by simp [st]) (by simp [st]) (by decide)
  | loaded st _ => exact accountKept_arrive h _ (by simp [st]) (by simp [st]) (by decide)
  | unloaded st _ => exact accountKept_arrive h _ (by simp [st]) (by simp [st]) (by decide)
  | stopped st _ => exact accountKept_stopDone h st
  | reported rest target st _ named =>
    refine accountKept_arrive (accountKept_modifySlot h _ ?_ ?_ ?_ ?_) rest ?_ ?_ (asTarget_ne named)
    · intro p ⟨presence, switch, reservation, debounce, active⟩
      split <;> exact ⟨presence, switch, reservation, debounce, active⟩
    · split <;> rfl
    · split <;> rfl
    · split <;> rfl
    · rw [State.slot_modifySlot_self]; split <;> simp [st]
    · rw [State.slot_modifySlot_self]; split <;> simp [st]

/-! ### Completions and deadlines -/

theorem accountKept_modifyLane (h : AccountKept s) (i : SlotId) (f : LaneRecord → LaneRecord) :
    AccountKept (s.modifyLane i f) := accountKept_congr h rfl rfl rfl rfl

theorem accountKept_settleGoverned (h : AccountKept s) (i : SlotId) (g : GovernedRecord) (o : OpOutcome)
    (report : Option Byte) : AccountKept (s.settleGoverned i g o report) := by
  unfold State.settleGoverned
  split
  · exact accountKept_takeOutcome (accountKept_modifyLane h i _) i _ _ _
  · exact accountKept_modifyLane h i _
  · exact accountKept_modifyLane h i _

theorem accountKept_settlePreempting (h : AccountKept s) (i : SlotId) (p : PreemptingRecord) (o : OpOutcome)
    (report : Option Byte) : AccountKept (s.settlePreempting i p o report) :=
  accountKept_takeOutcome (accountKept_modifyLane h i _) i _ _ _

theorem accountKept_settlePlain (h : AccountKept s) (i : SlotId) (p : PlainRecord) (o : OpOutcome) (payload : List Byte) :
    AccountKept (s.settlePlain i p o payload) := accountKept_congr h (by simp) (by simp) (by simp) (by simp)

theorem accountKept_takeCompletion (h : AccountKept s) (i : SlotId) (tag : Byte) (o : CompletionOutcome)
    (payload : List Byte) : AccountKept (s.takeCompletion i tag o payload) := by
  unfold State.takeCompletion
  split
  · exact accountKept_settleGoverned h i _ _ _
  · exact accountKept_settlePreempting h i _ _ _
  · exact accountKept_settlePlain h i _ _ _
  · refine accountKept_modifySlot (accountKept_modifyLane h i _) _ ?_ rfl rfl rfl
    exact fun p ⟨presence, switch, reservation, debounce, active⟩ => ⟨presence, switch, reservation, debounce, active⟩

theorem accountKept_takeDeadline (h : AccountKept s) (i : SlotId) (tag : Byte) : AccountKept (s.takeDeadline i tag) := by
  unfold State.takeDeadline
  split
  · split
    · exact accountKept_settleGoverned (accountKept_modifyLane h i _) i _ _ _
    · exact h
  · split
    · exact accountKept_modifyLane (accountKept_settlePreempting h i _ _ _) i _
    · exact h
  · split
    · exact accountKept_settlePlain (accountKept_modifyLane h i _) i _ _ _
    · exact h
  · exact h

/-! ### Grants and shed marks -/

/-- A candidate of the arbiter stands in the queues, so its slot is QUEUED (R29). -/
theorem queued_of_candidate (h : AccountKept s) (c : s.candidate = some i) : (s.slot i).state = .queued := by
  obtain ⟨front, e, back, split, -, -, own⟩ := State.candidate_eq_some s c
  by_contra out
  have none := (h.slots i).queued
  rw [if_neg out, State.entriesOf, List.countP_eq_zero] at none
  exact none e (by rw [split]; simp) (by simpa using own)

theorem accountKept_grant (h : AccountKept s) (st : (s.slot i).state = .queued) : AccountKept (s.grant i) := by
  obtain ⟨but, own⟩ := (accountKept_iff_but i).1 h
  have left : AccountBut ({ s.dequeue i with arbiter := { (s.dequeue i).arbiter with
      lastGrant := some (s.dequeue i).now, staggerExpiry := none } } : State) i :=
    accountBut_congr (accountBut_dequeue but) (fun _ _ => rfl) (fun _ _ => rfl) (fun _ _ => rfl) rfl rfl
  have counted := accountBut_modifySlot left (fun r => { r with spinUps := countUp r.spinUps }) rfl
  refine accountKept_ask (accountKept_enterState counted .spinningUp ?_ ?_ ?_ ?_) .spin
  · simp [own.presence, st]
  · simpa using own.debounce
  · simp
  · exact (State.entriesOf_dequeue s i i).trans (by simp)

theorem accountKept_mark (h : AccountKept s) (i : SlotId) : AccountKept (s.shedMarkSlot i) := by
  refine accountKept_proceed (accountKept_giveOutcome (accountKept_modifySlot h _ ?_ rfl rfl rfl) i _) i false
  exact fun p ⟨presence, switch, reservation, debounce, active⟩ => ⟨presence, switch, reservation, debounce, active⟩

theorem accountKept_conclusion : ConclusionKeeps AccountKept where
  grant u i h _ c _ _ := accountKept_grant h (queued_of_candidate h c)
  timer u h := accountKept_congr h rfl rfl rfl rfl
  mark u i h := accountKept_mark h i
  condition u b h := accountKept_congr h rfl rfl rfl rfl
  flag u h := accountKept_congr h (by simp) (by simp) (by simp) (by simp)

/-! ### The hold unit's reports -/

theorem accountKept_updateZones (h : AccountKept s) (zs : Set4) (onset : Bool) : AccountKept (s.updateZones zs onset) :=
  State.updateZones_induct s zs onset (accountKept_congr h rfl rfl rfl rfl) fun _ i hu => accountKept_proceed hu i onset

end

/-- What slots, lanes, arbiter, trunk port, groups, profiles, zones and mode alone decide is kept by the hold unit's
operations where a zone update keeps it. -/
structure ZonesReportKept (P : State → Prop) : Prop where
  congr : ∀ s t : State, P s → t.slots = s.slots → t.lanes = s.lanes → t.profiles = s.profiles → t.arbiter = s.arbiter →
    t.zones = s.zones → t.trunk = s.trunk → t.groups = s.groups → t.now = s.now → t.mgmt.mode = s.mgmt.mode → P t
  zones : ∀ s zs onset, P s → P (s.updateZones zs onset)

namespace ZonesReportKept

variable {P : State → Prop} {s : State}

theorem modifyClass (K : ZonesReportKept P) (h : P s) (c : ClassId) (f : ClassRecord → ClassRecord) :
    P (s.modifyClass c f) := K.congr s _ h rfl rfl rfl rfl rfl rfl rfl rfl rfl

theorem setFlag (K : ZonesReportKept P) (h : P s) (f : Flag) : P (s.setFlag f) :=
  K.congr s _ h rfl rfl rfl rfl rfl rfl rfl rfl rfl

theorem activate (K : ZonesReportKept P) (h : P s) (c : ClassId) : P (s.activate c) := by
  unfold State.activate
  split
  · exact h
  · exact K.zones _ _ _ (K.setFlag (K.modifyClass h c _) _)

theorem unit (K : ZonesReportKept P) : HoldUnitKeeps P where
  node s n f h := K.congr s _ h rfl rfl rfl rfl rfl rfl rfl rfl rfl
  counters s k v h := K.congr s _ h (by simp) (by simp) (by simp) (by simp) (by simp) (by simp) (by simp) (by simp)
    (by simp)
  zero s n h := K.congr s _ h (by simp) (by simp) (by simp) (by simp) (by simp) (by simp) (by simp) (by simp) (by simp)
  flag s h := K.setFlag h _
  fire s c h := by unfold State.fire; exact K.activate (K.modifyClass h c _) c
  join s n c h := by unfold State.joinClass; exact K.activate (K.modifyClass h c _) c
  leave s n c h := by unfold State.leaveClass; exact K.modifyClass h c _

theorem clear (K : ZonesReportKept P) (h : P s) (c : ClassId) : P (s.clear c) :=
  K.zones _ _ _ (K.setFlag (K.modifyClass h c _) _)

end ZonesReportKept

theorem accountKept_zones : ZonesReportKept AccountKept where
  congr s t h slots _ profiles arbiter _ _ _ _ _ :=
    accountKept_congr h slots profiles (by rw [arbiter]) (by rw [arbiter])
  zones s zs onset h := accountKept_updateZones h zs onset

end Sys2Proof.Machine
end

section
/-! PROOFS. Every step keeps the budget account. -/

namespace Sys2Proof.Machine

/-! ### Folds over slots -/

/-- What each slot's turn gives that slot and another slot's turn leaves it, every slot of the list has at the end. -/
theorem State.forSlots_each {I : State → Prop} {Q : SlotId → State → Prop} {f : SlotId → State → State}
    (step : ∀ i u, I u → I (f i u)) (own : ∀ i u, I u → Q i (f i u))
    (other : ∀ i j u, I u → j ≠ i → Q j u → Q j (f i u)) (is : List SlotId) {t : State} (h : I t) (i : SlotId) (m : i ∈ is) :
    Q i (t.forSlots is f) := by
  have later : ∀ (js : List SlotId) (u : State), I u → Q i u → Q i (u.forSlots js f) := by
    intro js u hu hq
    refine (State.forSlots_induct (P := fun v => I v ∧ Q i v) js ⟨hu, hq⟩ fun j _ v ⟨hv, q⟩ => ⟨step j v hv, ?_⟩).2
    by_cases same : i = j
    · exact same ▸ own i v hv
    · exact other j i v hv same q
  induction is generalizing t with
  | nil => cases m
  | cons a is ih =>
    rcases List.mem_cons.1 m with rfl | m
    · exact later is _ (step _ t h) (own _ t h)
    · exact ih (step a t h) m

/-! ### Requests -/

section
variable {s : State} {i : SlotId}

theorem governedRefusal_eq_none {a : Action} : s.governedRefusal i a = none ↔
    s.mgmt.mode = .run ∧ (s.slot i).inService = true ∧ (s.slot i).state ≠ .fault ∧
      ((s.slot i).shedMark = true → a.target (s.slot i).standing = .stopped) := by
  unfold State.governedRefusal
  dsimp only
  cases mode : s.mgmt.mode
  · simp
  · cases service : (s.slot i).inService
    · simp
    · by_cases fault : (s.slot i).state = .fault
      · simp [fault]
      · simp [fault]

theorem memberRefusal_eq_none {a : Action} : s.memberRefusal i a = none ↔
    (s.slot i).present = true ∧ a ≠ .block ∧ s.governedRefusal i a = none := by
  unfold State.memberRefusal
  cases (s.slot i).present <;> by_cases block : a = .block <;> simp [block]

theorem accountKept_trunk (h : AccountKept s) {t : State} (e : t = { s with trunk := t.trunk }) : AccountKept t := by
  rw [e]
  exact accountKept_congr h rfl rfl rfl rfl

theorem accountKept_accept (h : AccountKept s) (a : ActiveRequest) (present : (s.slot i).present = true)
    (sound : (s.slot i).state ≠ .fault) : AccountKept (s.accept i a) := by
  have taken : AccountKept ((s.giveOutcome i .superseded).reserveFor a.origin) :=
    accountKept_congr (accountKept_giveOutcome h i .superseded) (by simp) (by simp) (by simp) (by simp)
  have seated := (h.slots i).presence.1 present
  have state : (((s.giveOutcome i .superseded).reserveFor a.origin).slot i).state = (s.slot i).state := by
    have same : ((s.giveOutcome i .superseded).reserveFor a.origin).slot i = (s.giveOutcome i .superseded).slot i := by
      unfold State.slot; simp
    rw [same, State.giveOutcome_slot, if_pos rfl]
  refine accountKept_completeIfReached (accountKept_proceed (accountKept_modifySlot taken _ ?_ rfl rfl rfl) i false) i
  intro p ⟨presence, switch, reservation, debounce, _⟩
  exact ⟨presence, switch, reservation, debounce, fun _ => by rw [state]; exact ⟨seated, sound⟩⟩

theorem accountKept_takeMember (h : AccountKept s) (g : GroupId) (r : GroupRecord) (i : SlotId) :
    AccountKept (s.takeMember g r i) := by
  unfold State.takeMember
  split
  · exact accountKept_congr h (by simp) (by simp) (by simp) (by simp)
  · rename_i ok
    obtain ⟨present, -, free⟩ := memberRefusal_eq_none.1 ok
    exact accountKept_accept h _ present (governedRefusal_eq_none.1 free).2.2.1

theorem accountKept_openGroup (h : AccountKept s) (g : GroupId) (r : GroupRecord) : AccountKept (s.openGroup g r) := by
  unfold State.openGroup
  have opened : AccountKept ((s.takeReservation).setGroup g (some r)) :=
    accountKept_congr h (by simp) (by simp) (by simp) (by simp)
  have fanned := State.forSlots_induct r.remaining opened fun i _ u hu => accountKept_takeMember hu g r i
  exact accountKept_congr fanned (by simp) (by simp) (by simp) (by simp)

/-! ### RESTART and a power-on reset -/

theorem accountKept_restart (h : AccountKept s) : AccountKept s.restartRecords.sendQueries := by
  have slot : ∀ j, s.restartRecords.slot j = (s.slot j).restarted j s.now := fun j => by
    simp [State.restartRecords, State.slot]
  have records : AccountKept s.restartRecords := by
    refine ⟨fun j => slotKept_iff.2 ⟨?_, ?_⟩, by simp [State.restartRecords, State.slot]⟩
    · have profile : s.restartRecords.profileOf j = defaultProfile := by
        simp [State.profileOf, State.restartRecords, defaultProfiles]
      rw [slot, profile]
      have kept := h.slots j
      refine ⟨?_, ?_, ?_, ?_, by simp [SlotRecord.restarted, powerOnSlot]⟩
      · cases present : (s.slot j).present <;> cases on : (s.slot j).powerSwitch <;>
          simp [SlotRecord.restarted, SlotRecord.restartState, present, on]
      · cases present : (s.slot j).present
        · have empty : (s.slot j).state = .empty := by
            by_contra out
            simp [kept.presence.2 out] at present
          simp [SlotRecord.restarted, SlotRecord.restartState, present, kept.switch, empty, SlotState.powered]
        · cases on : (s.slot j).powerSwitch <;>
            simp [SlotRecord.restarted, SlotRecord.restartState, present, on, SlotState.powered]
      · cases present : (s.slot j).present <;> cases on : (s.slot j).powerSwitch <;>
          simp [SlotRecord.restarted, SlotRecord.restartState, present, on, powerOnSlot, reservationIn]
      · simp [SlotRecord.restarted, resetDebounce, powerOnSlot]
    · have empty : s.restartRecords.entriesOf j = 0 := by
        simp [State.entriesOf, State.examined, State.restartRecords, defaultArbiter]
      rw [empty, slot]
      cases present : (s.slot j).present <;> cases on : (s.slot j).powerSwitch <;>
        simp [SlotRecord.restarted, SlotRecord.restartState, present, on]
  exact accountKept_congr records (by simp) (by simp) (by simp) (by simp)

theorem accountKept_powerOn (inputs : Vector Level 24) (line : Level) : AccountKept (State.powerOn inputs line) := by
  have slot : ∀ j, (State.powerOn inputs line).slot j = powerOnSlot 0 j inputs[j] := fun j => by
    simp [State.powerOn, State.slot]
  refine ⟨fun j => slotKept_iff.2 ⟨?_, ?_⟩, ?_⟩
  · rw [slot]
    exact ⟨by simp [powerOnSlot], rfl, rfl, by simp [powerOnSlot, resetDebounce], by simp [powerOnSlot]⟩
  · rw [slot]
    simp [State.entriesOf, State.examined, State.powerOn, defaultArbiter, powerOnSlot]
  · have none : ∀ j, ((State.powerOn inputs line).slot j).reservation = 0 := fun j => by rw [slot]; rfl
    simp only [none, List.map_const', List.sum_replicate, smul_zero]
    rfl

/-! ### A draw-profile write (R2, R10) -/

theorem State.rederive_slot (i j : SlotId) : (s.rederive i).slot j =
    if j = i then { s.slot i with
      reservation := reservationIn (s.profileOf i) (s.slot i).drawKept (s.slot i).state } else s.slot j := by
  rw [State.rederive, State.setReservation_slot]

/-- The record of slot `j` in `s` once its reservation is derived again for profile `k`. -/
def State.rederived (s : State) (k : Fin 8) (j : SlotId) : SlotRecord :=
  if (s.slot j).profile = k ∧ (s.slot j).state.powered = true then
    { s.slot j with reservation := reservationIn (s.profileOf j) (s.slot j).drawKept (s.slot j).state }
  else s.slot j

/-- One slot's turn in a derivation for profile `k`. -/
def State.rederiveIn (s : State) (k : Fin 8) (i : SlotId) : State :=
  if (s.slot i).profile = k ∧ (s.slot i).state.powered then s.rederive i else s

theorem State.rederiveIn_slot {t : State} (k : Fin 8) (profiles : t.profiles = s.profiles)
    (slots : ∀ j, t.slot j = s.slot j ∨ t.slot j = s.rederived k j) (i j : SlotId) :
    (t.rederiveIn k i).slot j = if j = i then s.rederived k i else t.slot j := by
  have users : (t.slot i).profile = (s.slot i).profile ∧ (t.slot i).state = (s.slot i).state ∧
      (t.slot i).drawKept = (s.slot i).drawKept ∧
      { t.slot i with reservation := 0 } = { s.slot i with reservation := 0 } := by
    rcases slots i with e | e <;> rw [e]
    · simp
    · unfold State.rederived; split <;> simp
  obtain ⟨profile, state, kept, rest⟩ := users
  unfold State.rederiveIn
  rw [profile, state]
  by_cases uses : (s.slot i).profile = k ∧ (s.slot i).state.powered = true
  · rw [if_pos uses, State.rederive_slot]
    split
    · have same : t.profileOf i = s.profileOf i := by simp only [State.profileOf, profiles, profile]
      rw [State.rederived, if_pos uses, same, kept, state]
      calc { t.slot i with reservation := reservationIn (s.profileOf i) (s.slot i).drawKept (s.slot i).state }
          = { ({ t.slot i with reservation := 0 } : SlotRecord) with
              reservation := reservationIn (s.profileOf i) (s.slot i).drawKept (s.slot i).state } := rfl
        _ = _ := by rw [rest]
    · rfl
  · rw [if_neg uses]
    split
    · rename_i own
      rw [own, State.rederived, if_neg uses]
      rcases slots i with e | e
      · exact e
      · rw [e, State.rederived, if_neg uses]
    · rfl

/-- The slots that use the profile and are powered have their reservations derived again; no other slot is touched. -/
theorem State.rederiveProfile_slot (s : State) (k : Fin 8) (j : SlotId) : (s.rederiveProfile k).slot j = s.rederived k j := by
  refine State.forSlots_each (I := fun t => t.profiles = s.profiles ∧ ∀ j, t.slot j = s.slot j ∨ t.slot j = s.rederived k j)
    (Q := fun j t => t.slot j = s.rederived k j) (f := fun i t => t.rederiveIn k i) ?_ ?_ ?_ allSlots
    ⟨rfl, fun j => .inl rfl⟩ j (List.mem_finRange j)
  · intro i u ⟨profiles, slots⟩
    refine ⟨by unfold State.rederiveIn; split <;> simp [profiles], fun j => ?_⟩
    rw [State.rederiveIn_slot k profiles slots]
    split
    · rename_i own; exact .inr (own ▸ rfl)
    · exact slots j
  · intro i u ⟨profiles, slots⟩
    rw [State.rederiveIn_slot k profiles slots, if_pos rfl]
  · intro i j u ⟨profiles, slots⟩ other q
    rw [State.rederiveIn_slot k profiles slots, if_neg other]
    exact q

/-- A change of a reservation reaches the total by the difference (R37). -/
theorem total_setReservation (h : s.arbiter.reservationTotal = (allSlots.map fun j => (s.slot j).reservation).sum)
    (i : SlotId) (v : Nat) : (s.setReservation i v).arbiter.reservationTotal =
      (allSlots.map fun j => ((s.setReservation i v).slot j).reservation).sum := by
  rw [State.setReservation_total, h, sum_allSlots_of_eq (f := fun j => ((s.setReservation i v).slot j).reservation) i
    fun j other => by rw [State.setReservation_slot, if_neg other]]
  rw [State.setReservation_slot, if_pos rfl]

theorem total_rederiveProfile (h : s.arbiter.reservationTotal = (allSlots.map fun j => (s.slot j).reservation).sum)
    (k : Fin 8) : (s.rederiveProfile k).arbiter.reservationTotal =
      (allSlots.map fun j => ((s.rederiveProfile k).slot j).reservation).sum := by
  unfold State.rederiveProfile
  refine State.forSlots_induct (P := fun t => t.arbiter.reservationTotal =
    (allSlots.map fun j => (t.slot j).reservation).sum) allSlots h fun i _ u hu => ?_
  split
  · exact total_setReservation hu i _
  · exact hu

/-- A derivation reaches the arbiter's total alone. -/
theorem State.rederiveProfile_arbiter (s : State) (k : Fin 8) : (s.rederiveProfile k).arbiter =
    { s.arbiter with reservationTotal := (s.rederiveProfile k).arbiter.reservationTotal } := by
  unfold State.rederiveProfile
  refine State.forSlots_induct (P := fun t => t.arbiter =
    { s.arbiter with reservationTotal := t.arbiter.reservationTotal }) allSlots rfl fun i _ u hu => ?_
  split
  · calc (u.rederive i).arbiter
        = { u.arbiter with reservationTotal := (u.rederive i).arbiter.reservationTotal } := rfl
      _ = _ := by rw [hu]
  · exact hu

theorem reservationIn_of_not_powered {st : SlotState} (off : st.powered = false) (p q : DrawProfile) (kept : DrawKept) :
    reservationIn p kept st = reservationIn q kept st := by
  cases st <;> first | rfl | cases off

theorem accountKept_profile (h : AccountKept s) (k : Fin 8) (p : DrawProfile) :
    AccountKept (({ s with profiles := s.profiles.set k.val p k.isLt } : State).rederiveProfile k) := by
  refine ⟨fun j => slotKept_iff.2 ?_, total_rederiveProfile (by simpa using h.total) k⟩
  obtain ⟨⟨presence, switch, reservation, debounce, active⟩, entries⟩ := slotKept_iff.1 (h.slots j)
  have same : (({ s with profiles := s.profiles.set k.val p k.isLt } : State).rederiveProfile k).entriesOf j =
      s.entriesOf j := by
    unfold State.entriesOf State.examined
    rw [State.rederiveProfile_arbiter]
  rw [same, entries, State.rederiveProfile_slot, show (({ s with profiles := s.profiles.set k.val p k.isLt } :
    State).rederiveProfile k).profileOf j = ({ s with profiles := s.profiles.set k.val p k.isLt } : State).profileOf j by
      simp]
  unfold State.rederived
  split
  · exact ⟨⟨presence, switch, rfl, debounce, active⟩, rfl⟩
  · rename_i unused
    refine ⟨⟨presence, switch, reservation.trans ?_, debounce, active⟩, rfl⟩
    by_cases uses : (s.slot j).profile = k
    · exact reservationIn_of_not_powered (by simpa [uses] using unused) _ _ _
    · have other : ¬k.val = (s.slot j).profile.val := fun e => uses (Fin.ext e.symm)
      simp [State.profileOf, other]

/-! ### Presence (R171 to R174) -/

theorem accountKept_presenceGained (h : AccountKept s) (running : (s.slot i).debounceExpiry.isSome = true)
    (low : seated (s.slot i).input = true) : AccountKept (((s.modifySlot i fun r =>
      { r with present := seated r.input, debounceExpiry := none }).setFlag .presenceChange).presenceGained i) := by
  obtain ⟨but, own⟩ := (accountKept_iff_but i).1 h
  have absent : (s.slot i).present = false := by simpa [low] using own.debounce.1 running
  have empty : (s.slot i).state = .empty := by
    by_contra out
    simp [own.presence.2 out] at absent
  have seen : AccountBut (((s.modifySlot i fun r =>
      { r with present := seated r.input, debounceExpiry := none }).setFlag .presenceChange).modifySlot i fun r =>
        { r with standing := .stopped }) i :=
    accountBut_congr but (fun j other => by simp [other]) (fun j other => by simp [State.profileOf, other])
      (fun j _ => rfl) (by simp) rfl
  refine accountKept_proceed (accountKept_completeIfReached (accountKept_enterState seen .stopped ?_ ?_ ?_ ?_) i) i false
  · simp [low]
  · simp
  · simp
  · simpa [State.entriesOf, empty] using own.queued

/-- The record that presence loss leaves (R174). -/
theorem State.presenceLost_slot (s : State) (i j : SlotId) : (s.presenceLost i).slot j =
    if j = i then { s.slot i with
      active := none, state := .empty, powerSwitch := false, reservation := 0, drawKept := .running, shedMark := false
      selfParkExpiry := none } else s.slot j := by
  unfold State.presenceLost
  by_cases own : j = i
  · subst own; simp [State.enterState_slot, State.giveOutcome_slot, SlotState.powered, reservationIn]
  · simp [State.enterState_slot, State.giveOutcome_slot, own]

/-- Presence loss takes the slot's entry out of the queues. -/
theorem State.presenceLost_entries (s : State) (i j : SlotId) :
    (s.presenceLost i).entriesOf j = if j = i then 0 else s.entriesOf j := by
  have same : (s.presenceLost i).entriesOf j = (((s.laneGone i).giveOutcome i .gone).dequeue i).entriesOf j := by
    simp [State.entriesOf, State.presenceLost]
  rw [same, State.entriesOf_dequeue]
  simp [State.entriesOf]

theorem accountBut_presenceLost (h : AccountBut s i) : AccountBut (s.presenceLost i) i := by
  have gone : AccountBut (s.laneGone i) i :=
    accountBut_congr h (by simp) (by simp) (by simp [State.entriesOf]) (by simp) (by simp)
  have left := accountBut_enterState (accountBut_dequeue (accountBut_giveOutcome gone .gone)) .empty
  unfold State.presenceLost
  exact accountBut_modifySlot left (fun r => { r with drawKept := .running, shedMark := false, selfParkExpiry := none }) rfl

theorem accountKept_presenceLost (h : AccountKept s) (high : seated (s.slot i).input = false) :
    AccountKept (((s.modifySlot i fun r => { r with present := seated r.input, debounceExpiry := none }).setFlag
      .presenceChange).presenceLost i) := by
  obtain ⟨but, own⟩ := (accountKept_iff_but i).1 h
  have seen : AccountBut ((s.modifySlot i fun r =>
      { r with present := seated r.input, debounceExpiry := none }).setFlag .presenceChange) i :=
    accountBut_congr but (fun j other => by simp [other]) (fun j other => by simp [State.profileOf, other])
      (fun j _ => rfl) (by simp) rfl
  refine (accountKept_iff_but i).2 ⟨accountBut_presenceLost seen, slotKept_iff.2 ⟨?_, ?_⟩⟩
  · rw [State.presenceLost_slot, if_pos rfl]
    exact ⟨by simp [high], rfl, rfl, by simp, by simp⟩
  · rw [State.presenceLost_entries, State.presenceLost_slot]; simp

/-! ### Every event -/

theorem accountKept_enterRun (h : AccountKept s) : AccountKept ((s.setMode .run).forSlots allSlots fun i t =>
    if (t.slot i).state = .stopped then t.proceed i false else t) := by
  refine State.forSlots_induct _ (accountKept_congr h rfl rfl rfl rfl) fun i _ t ht => ?_
  split
  · exact accountKept_proceed ht i false
  · exact ht

theorem accountKept_slotEntry (h : AccountKept s) (zone : ZoneId) (profile : Fin 8) (shed : Fin 4)
    (rest : (s.slot i).state.atRest = true) : AccountKept ((s.modifySlot i fun r =>
      { r with zone := zone, profile := profile, shedClass := shed }).proceed i false) := by
  obtain ⟨but, own⟩ := (accountKept_iff_but i).1 h
  obtain ⟨⟨presence, switch, reservation, debounce, active⟩, entries⟩ := slotKept_iff.1 own
  have off : (s.slot i).state.powered = false := by
    cases st : (s.slot i).state <;> rw [st] at rest <;> first | rfl | cases rest
  refine accountKept_proceed ((accountKept_iff_but i).2
    ⟨accountBut_modifySlot but _ rfl, slotKept_iff.2 ⟨?_, by rw [State.slot_modifySlot_self]; exact entries⟩⟩) i false
  rw [State.slot_modifySlot_self]
  exact ⟨presence, switch, reservation.trans (reservationIn_of_not_powered off _ _ _), debounce, active⟩

/-- Fields of a record that say nothing of its account may change. -/
theorem accountKept_modify_other (h : AccountKept s) (i : SlotId) (f : SlotRecord → SlotRecord)
    (same : ∀ r : SlotRecord, (f r).present = r.present ∧ (f r).input = r.input ∧ (f r).debounceExpiry = r.debounceExpiry ∧
      (f r).state = r.state ∧ (f r).powerSwitch = r.powerSwitch ∧ (f r).reservation = r.reservation ∧
      (f r).drawKept = r.drawKept ∧ (f r).profile = r.profile ∧ (f r).active.isSome = r.active.isSome) :
    AccountKept (s.modifySlot i f) := by
  obtain ⟨present, input, expiry, state, power, reserved, kept, profile, request⟩ := same (s.slot i)
  refine accountKept_modifySlot h f (fun p ⟨presence, switch, reservation, debounce, active⟩ => ?_) state reserved profile
  exact ⟨by rw [present, state]; exact presence, by rw [power, state]; exact switch,
    by rw [reserved, kept, state]; exact reservation, by rw [expiry, input, present]; exact debounce,
    by rw [request, state]; exact active⟩

theorem accountKept_clearFault (h : AccountKept s) (i : SlotId) : AccountKept (s.clearFaultOf i) := by
  unfold State.clearFaultOf
  split
  · rename_i fault
    exact accountKept_arrive (accountKept_modify_other h i _ (by simp)) _ (by simp [fault]) (by simp [fault]) (by decide)
  · exact h

theorem accountKept_withdraw (h : AccountKept s) (i : SlotId) : AccountKept (s.withdrawSlot i) := by
  unfold State.withdrawSlot
  split
  · exact accountKept_proceed (accountKept_giveOutcome (accountKept_modify_other h i _ (by simp)) i _) i false
  · exact h

theorem accountKept_restore (h : AccountKept s) (i : SlotId) : AccountKept (s.restoreSlot i) := by
  unfold State.restoreSlot
  split
  · exact h
  · exact accountKept_proceed (accountKept_modify_other h i _ (by simp)) i false

theorem accountKept_presenceInput (h : AccountKept s) (i : SlotId) (level : Level) : AccountKept (s.modifySlot i fun r =>
    { r with input := level, debounceExpiry := debounceAfter s (seated level != r.present) }) := by
  refine accountKept_modifySlot h _ (fun p ⟨presence, switch, reservation, _, active⟩ => ?_) rfl rfl rfl
  refine ⟨presence, switch, reservation, ?_, active⟩
  simp [debounceAfter]

theorem accountKept_selfParked (h : AccountKept s) (st : (s.slot i).state = .loaded) :
    AccountKept (((s.startSelfPark i).setFlag .selfPark).arrive i .parked) := by
  have started : AccountKept (s.startSelfPark i) ∧ ((s.startSelfPark i).slot i).state = .loaded := by
    unfold State.startSelfPark
    split
    · exact ⟨accountKept_modify_other h i _ (by simp), by simpa using st⟩
    · exact ⟨h, st⟩
  have flagged : AccountKept ((s.startSelfPark i).setFlag .selfPark) := accountKept_congr started.1 rfl rfl rfl rfl
  exact accountKept_arrive flagged _ (by simp [started.2]) (by simp [started.2]) (by decide)

theorem accountKept_events : EventsKeep (fun _ => AccountKept) (fun _ => AccountKept) := by
  have same : ∀ {s t : State}, AccountKept s → t.slots = s.slots → t.profiles = s.profiles →
      t.arbiter.queues = s.arbiter.queues → t.arbiter.reservationTotal = s.arbiter.reservationTotal → AccountKept t :=
    accountKept_congr
  refine {
    room := fun s h _ => h
    body := fun _ s h => h
    answer := fun s a h => same h ?_ ?_ ?_ ?_
    conclusion := fun _ => accountKept_conclusion
    plain := fun s i f h _ _ => same h ?_ ?_ ?_ ?_
    accept := fun s i f a h present ok => accountKept_accept h _ present (governedRefusal_eq_none.1 ok).2.2.1
    openGroup := fun s g d f a h _ => accountKept_openGroup h g _
    restartPending := fun s tag h _ => same h ?_ ?_ ?_ ?_
    restart := fun s x h _ _ => accountKept_restart (accountKept_congr h rfl rfl rfl rfl)
    kindMap := fun s m h => same h ?_ ?_ ?_ ?_
    priorityMap := fun s m q y h => same h ?_ ?_ ?_ ?_
    profile := fun s k p entry h _ => accountKept_profile h k p
    slotEntry := fun s i zone profile shed h rest => accountKept_slotEntry h zone profile shed rest
    ceilings := fun s m b entry h _ => same h ?_ ?_ ?_ ?_
    stagger := fun s n h _ => same h ?_ ?_ ?_ ?_
    configureNode := fun s n c entry h _ => accountKept_zones.unit.configureNode n c h
    rule := fun s k r entry h _ => same h ?_ ?_ ?_ ?_
    classStored := fun s c zones unload freeze hold entry h _ _ => same h ?_ ?_ ?_ ?_
    classUpdated := fun s c zones unload freeze hold entry h _ _ =>
      accountKept_updateZones (accountKept_zones.modifyClass h c _) _ _
    timing := fun s m entry h _ => same h ?_ ?_ ?_ ?_
    enterRun := fun s h _ => accountKept_enterRun h
    enterConfig := fun s h _ => same h ?_ ?_ ?_ ?_
    clearFault := fun s i h => accountKept_clearFault h i
    withdraw := fun s i h => accountKept_withdraw h i
    restore := fun s i h => accountKept_restore h i
    setEvents := fun s flags enables h => same h ?_ ?_ ?_ ?_
    supplyLine := fun s level e h => same h ?_ ?_ ?_ ?_
    source := fun s h => same h ?_ ?_ ?_ ?_
    presenceInput := fun s i level h => accountKept_presenceInput h i level
    presenceGained := fun s i h running low => accountKept_presenceGained h running low
    presenceLost := fun s i h _ high => accountKept_presenceLost h high
    completion := fun s i tag o payload h => accountKept_takeCompletion h i tag o payload
    deadline := fun s i tag h => accountKept_takeDeadline h i tag
    selfParkCounted := fun s i h => accountKept_modify_other h i _ (by simp)
    selfParked := fun s i h st => accountKept_selfParked h st
    carrierFault := fun s i code h on => accountKept_enterFault h on _
    holdExpiry := fun s i h => accountKept_proceed (accountKept_modify_other h i _ (by simp)) i false
    deadlineDropped := fun s i h => accountKept_modify_other h i _ (by simp [SlotRecord.withoutDeadline])
    waitExpired := fun s i a h _ _ =>
      accountKept_proceed (accountKept_modify_other (accountKept_giveOutcome h i _) i _ (by simp)) i false
    staggerExpiry := fun s h => same h ?_ ?_ ?_ ?_
    sample := fun s n node seq x y z h => accountKept_zones.unit.takeSample n node seq x y z h
    silence := fun s n h _ => accountKept_zones.unit.silence n h
    classClears := fun s c h _ _ => accountKept_zones.clear h c
    classWaits := fun s c h _ _ => same h ?_ ?_ ?_ ?_ }
  all_goals simp

theorem accountKept_step {t : State} (h : AccountKept s) (e : step s = .next t) : AccountKept t := by
  refine accountKept_events.step (fun u q hu => accountKept_congr hu rfl rfl rfl rfl)
    (fun u q hu => accountKept_congr hu (by simp) (by simp) (by simp) (by simp)) (fun u v hu e => ?_)
    (fun inputs line q => accountKept_congr (accountKept_powerOn inputs line) rfl rfl rfl rfl) h e
  refine accountKept_events.answerSentEvent hu e (fun _ _ => ?_) fun x _ => accountKept_restart ?_
  · exact accountKept_congr hu (by simp) (by simp) (by simp) (by simp)
  · exact accountKept_congr hu rfl rfl rfl rfl

end

end Sys2Proof.Machine
end

section
/-! PROOFS. Heads, waiting slots and resting slots agree with the effective targets after every event (R12, R13, R16, R18,
R25). -/

namespace Sys2Proof.Machine

/-! ### One slot -/

/-- The slot's state agrees with its effective target as the rules of the states leave it: the heads in any case, a
waiting or resting slot where `T` holds. -/
structure Settled (T : Prop) (s : State) (i : SlotId) : Prop where
  heads : (s.slot i).state = .loading ∨ (s.slot i).state = .loaded → s.effectiveTarget i = .loaded
  waits : T → (s.slot i).state = .queued → s.effectiveTarget i ≠ .stopped
  rests : T → s.mgmt.mode = .run → (s.slot i).state = .stopped → s.effectiveTarget i = .stopped

/-- Every slot's state agrees with its effective target. -/
def AllSettled (T : Prop) (s : State) : Prop := ∀ i, Settled T s i

theorem allSettled_iff {T : Prop} {s : State} : AllSettled T s ↔ HeadsAllowed s ∧ (T → TargetsServed s) :=
  ⟨fun h => ⟨fun i => (h i).heads, fun holds i => ⟨(h i).waits holds, (h i).rests holds⟩⟩,
    fun ⟨heads, targets⟩ i => ⟨heads i, fun holds => (targets holds i).1, fun holds => (targets holds i).2⟩⟩

theorem effectiveTarget_congr {s t : State} {i : SlotId} (slot : t.slot i = s.slot i) (covered : t.covered i = s.covered i) :
    t.effectiveTarget i = s.effectiveTarget i := by
  simp only [State.effectiveTarget, slot, covered]

section
variable {T : Prop} {s t : State} {i : SlotId}

theorem settled_congr (h : Settled T s i) (state : (t.slot i).state = (s.slot i).state)
    (target : t.effectiveTarget i = s.effectiveTarget i) (mode : t.mgmt.mode = s.mgmt.mode) : Settled T t i := by
  obtain ⟨heads, waits, rests⟩ := h
  exact ⟨by rwa [state, target], by rwa [state, target], by rwa [state, target, mode]⟩

theorem settled_same (h : Settled T s i) (slot : t.slot i = s.slot i) (covered : t.covered i = s.covered i)
    (mode : t.mgmt.mode = s.mgmt.mode) : Settled T t i :=
  settled_congr h (by rw [slot]) (effectiveTarget_congr slot covered) mode

/-- The rule of any state leaves an agreement. -/
theorem settled_of_afterRecompute {st : SlotState}
    (e : (t.slot i).state = afterRecompute (decide (t.mgmt.mode = .run)) st (t.effectiveTarget i)) : Settled T t i := by
  have agrees : ∀ (run : Bool) (st : SlotState) (tgt : Target), (afterRecompute run st tgt = .loading ∨
      afterRecompute run st tgt = .loaded → tgt = .loaded) ∧ (afterRecompute run st tgt = .queued → tgt ≠ .stopped) ∧
      (run = true → afterRecompute run st tgt = .stopped → tgt = .stopped) := by
    intro run st tgt; cases run <;> cases st <;> cases tgt <;> decide
  obtain ⟨heads, waits, rests⟩ := agrees (decide (t.mgmt.mode = .run)) st (t.effectiveTarget i)
  rw [← e] at heads waits rests
  exact ⟨heads, fun _ => waits, fun _ run => rests (by simp [run])⟩

theorem settled_proceed (T : Prop) (s : State) (i : SlotId) (onset : Bool) : Settled T (s.proceed i onset) i :=
  settled_of_afterRecompute (st := (s.slot i).state) (by simpa using s.proceed_state i onset)

/-- In a state that is neither on the way to the media, nor waiting, nor at rest, there is nothing to agree with. -/
theorem settled_of_state (loading : (t.slot i).state ≠ .loading) (loaded : (t.slot i).state ≠ .loaded)
    (queued : (t.slot i).state ≠ .queued) (stopped : (t.slot i).state ≠ .stopped) : Settled T t i :=
  ⟨fun on => absurd on (by simp [loading, loaded]), fun _ e => absurd e queued, fun _ _ e => absurd e stopped⟩

theorem settled_giveOutcome (h : Settled T s i) (code : AnswerCode) : Settled T (s.giveOutcome i code) i :=
  settled_congr h (by simp [State.giveOutcome_slot])
    (by simp [State.effectiveTarget, State.giveOutcome_slot]) (by simp)

theorem settled_completeIfReached (h : Settled T s i) : Settled T (s.completeIfReached i) i := by
  rcases s.completeIfReached_cases i with ⟨e, _⟩ | ⟨e, _⟩ <;> rw [e]
  · exact h
  · exact settled_giveOutcome h _

/-! ### All slots -/

/-- An operation on one slot that leaves it in agreement keeps the agreement of all. -/
theorem allSettled_of_own (h : AllSettled T s) (i : SlotId) (own : Settled T t i)
    (others : ∀ j, j ≠ i → t.slot j = s.slot j) (covered : ∀ j, t.covered j = s.covered j)
    (mode : t.mgmt.mode = s.mgmt.mode) : AllSettled T t := by
  intro j
  by_cases same : j = i
  · exact same ▸ own
  · exact settled_same (h j) (others j same) (covered j) mode

theorem allSettled_congr (h : AllSettled T s) (slots : t.slots = s.slots) (zones : t.zones = s.zones)
    (mode : t.mgmt.mode = s.mgmt.mode) : AllSettled T t := by
  have slot : ∀ j, t.slot j = s.slot j := fun j => by unfold State.slot; rw [slots]
  exact fun j => settled_same (h j) (slot j) (by simp only [State.covered, State.standingOf, zones, slot]) mode

theorem covered_modifySlot_of_ne {j : SlotId} (f : SlotRecord → SlotRecord) (other : j ≠ i) :
    (s.modifySlot i f).covered j = s.covered j := by
  simp [State.covered, State.standingOf, other]

theorem allSettled_proceed (h : AllSettled T s) (i : SlotId) (onset : Bool) : AllSettled T (s.proceed i onset) :=
  allSettled_of_own h i (settled_proceed T s i onset) (fun _ other => (s.proceed_other other onset).1) (by simp) (by simp)

/-- A record changed before the rule of its state is applied. -/
theorem allSettled_modify_proceed (h : AllSettled T s) (i : SlotId) (f : SlotRecord → SlotRecord) (onset : Bool) :
    AllSettled T ((s.modifySlot i f).proceed i onset) := by
  intro j
  by_cases same : j = i
  · subst same; exact settled_proceed T _ j onset
  · exact settled_same (h j) (by rw [(State.proceed_other _ same onset).1, State.slot_modifySlot_of_ne _ same])
      (by simpa using covered_modifySlot_of_ne f same) (by simp)

/-- A record changed in a field that no rule of the states reads. -/
theorem allSettled_modify (h : AllSettled T s) (i : SlotId) (f : SlotRecord → SlotRecord)
    (same : ∀ r : SlotRecord, (f r).state = r.state ∧ (f r).standing = r.standing ∧ (f r).zone = r.zone ∧
      (f r).selfParkExpiry.isSome = r.selfParkExpiry.isSome ∧ (f r).inService = r.inService ∧
      (f r).shedMark = r.shedMark) : AllSettled T (s.modifySlot i f) := by
  intro j
  by_cases own : j = i
  · subst own
    obtain ⟨state, standing, zone, expiry, service, mark⟩ := same (s.slot j)
    refine settled_congr (h j) (by simpa using state) ?_ rfl
    simp [State.effectiveTarget, State.covered, State.standingOf, standing, zone, expiry, service, mark]
  · exact settled_same (h j) (State.slot_modifySlot_of_ne _ own f) (covered_modifySlot_of_ne f own) rfl

theorem allSettled_giveOutcome (h : AllSettled T s) (i : SlotId) (code : AnswerCode) : AllSettled T (s.giveOutcome i code) :=
  allSettled_of_own h i (settled_giveOutcome (h i) code) (fun j other => by rw [State.giveOutcome_slot, if_neg other])
    (by simp) (by simp)

theorem allSettled_completeIfReached (h : AllSettled T s) (i : SlotId) : AllSettled T (s.completeIfReached i) := by
  rcases s.completeIfReached_cases i with ⟨e, _⟩ | ⟨e, _⟩ <;> rw [e]
  · exact h
  · exact allSettled_giveOutcome h i _

theorem settled_arrive (T : Prop) (s : State) (i : SlotId) (st : SlotState) : Settled T (s.arrive i st) i :=
  settled_proceed T _ i false

theorem allSettled_arrive (h : AllSettled T s) (i : SlotId) (st : SlotState) : AllSettled T (s.arrive i st) :=
  allSettled_of_own h i (settled_arrive T s i st) (fun _ other => (s.arrive_other other st).1) (by simp) (by simp)

/-- A record changed before its slot arrives in a state. -/
theorem allSettled_modify_arrive (h : AllSettled T s) (i : SlotId) (f : SlotRecord → SlotRecord) (st : SlotState) :
    AllSettled T ((s.modifySlot i f).arrive i st) := by
  intro j
  by_cases same : j = i
  · subst same; exact settled_arrive T _ j st
  · exact settled_same (h j) (by rw [(State.arrive_other _ same st).1, State.slot_modifySlot_of_ne _ same])
      (by simpa using covered_modifySlot_of_ne f same) (by simp)

theorem allSettled_enterFault (h : AllSettled T s) (i : SlotId) (cause : FaultCause) :
    AllSettled T (s.enterFault i cause) := by
  refine allSettled_of_own h i (settled_of_state ?_ ?_ ?_ ?_)
    (fun j other => by rw [State.enterFault_slot, if_neg other]) (by simp) (by simp) <;>
  simp [State.enterFault_slot]

theorem allSettled_takeOutcome (h : AllSettled T s) (i : SlotId) (op : GovernedOp) (o : OpOutcome)
    (report : Option Byte) : AllSettled T (s.takeOutcome i op o report) := by
  have taken := takeOutcome_taken s i op o report
  generalize s.takeOutcome i op o report = t at taken ⊢
  cases taken with
  | unnamed _ => exact h
  | failed cause _ => exact allSettled_enterFault h i cause
  | spun _ _ => exact allSettled_arrive h i _
  | loaded _ _ => exact allSettled_arrive h i _
  | unloaded _ _ => exact allSettled_arrive h i _
  | stopped _ _ => exact allSettled_modify_arrive h i _ _
  | reported rest _ _ _ _ => exact allSettled_modify_arrive h i _ _

theorem allSettled_modifyLane (h : AllSettled T s) (i : SlotId) (f : LaneRecord → LaneRecord) :
    AllSettled T (s.modifyLane i f) := allSettled_congr h rfl rfl rfl

theorem allSettled_settleGoverned (h : AllSettled T s) (i : SlotId) (g : GovernedRecord) (o : OpOutcome)
    (report : Option Byte) : AllSettled T (s.settleGoverned i g o report) := by
  unfold State.settleGoverned
  split
  · exact allSettled_takeOutcome (allSettled_modifyLane h i _) i _ _ _
  · exact allSettled_modifyLane h i _
  · exact allSettled_modifyLane h i _

theorem allSettled_settlePreempting (h : AllSettled T s) (i : SlotId) (p : PreemptingRecord) (o : OpOutcome)
    (report : Option Byte) : AllSettled T (s.settlePreempting i p o report) :=
  allSettled_takeOutcome (allSettled_modifyLane h i _) i _ _ _

theorem allSettled_takeCompletion (h : AllSettled T s) (i : SlotId) (tag : Byte) (o : CompletionOutcome)
    (payload : List Byte) : AllSettled T (s.takeCompletion i tag o payload) := by
  unfold State.takeCompletion
  split
  · exact allSettled_settleGoverned h i _ _ _
  · exact allSettled_settlePreempting h i _ _ _
  · exact allSettled_congr h (by simp) (by simp) (by simp)
  · exact allSettled_modify (allSettled_modifyLane h i _) i _ (by simp)

theorem allSettled_takeDeadline (h : AllSettled T s) (i : SlotId) (tag : Byte) : AllSettled T (s.takeDeadline i tag) := by
  unfold State.takeDeadline
  split
  · split
    · exact allSettled_settleGoverned (allSettled_modifyLane h i _) i _ _ _
    · exact h
  · split
    · exact allSettled_modifyLane (allSettled_settlePreempting h i _ _ _) i _
    · exact h
  · split
    · exact allSettled_congr h (by simp) (by simp) (by simp)
    · exact h
  · exact h

theorem allSettled_accept (h : AllSettled T s) (i : SlotId) (a : ActiveRequest) : AllSettled T (s.accept i a) :=
  allSettled_completeIfReached (allSettled_modify_proceed
    (allSettled_congr (allSettled_giveOutcome h i .superseded) (by simp) (by simp) (by simp)) i _ false) i

theorem allSettled_openGroup (h : AllSettled T s) (g : GroupId) (r : GroupRecord) : AllSettled T (s.openGroup g r) := by
  unfold State.openGroup
  have opened : AllSettled T ((s.takeReservation).setGroup g (some r)) := allSettled_congr h (by simp) (by simp) (by simp)
  have fanned := State.forSlots_induct (f := fun i t => t.takeMember g r i) r.remaining opened fun i _ u hu => by
    unfold State.takeMember
    split
    · exact allSettled_congr hu (by simp) (by simp) (by simp)
    · exact allSettled_accept hu i _
  exact allSettled_congr fanned (by simp) (by simp) (by simp)

theorem allSettled_mark (h : AllSettled T s) (i : SlotId) : AllSettled T (s.shedMarkSlot i) := by
  intro j
  by_cases same : j = i
  · subst same; exact settled_proceed T _ j false
  · exact settled_same (h j) (s.shedMarkSlot_other same).1 (by simp) (by simp)

theorem allSettled_conclusion (T : Prop) : ConclusionKeeps (AllSettled T) where
  grant u i h _ _ _ _ := by
    refine allSettled_of_own h i (settled_of_state ?_ ?_ ?_ ?_)
      (fun j other => by rw [State.grant_slot, if_neg other]) (by simp) (by simp) <;>
    simp [State.grant_slot]
  timer u h := allSettled_congr h rfl rfl rfl
  mark u i h := allSettled_mark h i
  condition u b h := allSettled_congr h rfl rfl rfl
  flag u h := allSettled_congr h (by simp) (by simp) (by simp)

/-! ### Zone updates and the entry to RUN -/

/-- A slot whose coverage has changed is reported and takes the rule of its state; the others are as they were. -/
theorem allSettled_updateZones (h : AllSettled T s) (zs : Set4) (onset : Bool) : AllSettled T (s.updateZones zs onset) := by
  intro j
  unfold State.updateZones State.reportCoverage
  refine State.forSlots_each (Q := fun j t => Settled T t j)
    (I := fun t => t.zones = (s.recomputeZones zs).zones ∧ t.mgmt.mode = s.mgmt.mode ∧
      ∀ j, t.slot j = s.slot j ∨ Settled T t j)
    ?step ?own ?other allSlots ⟨rfl, rfl, fun j => .inl rfl⟩ j (List.mem_finRange j)
  case own =>
    intro i u ⟨zones, mode, turns⟩
    split
    · rename_i same
      rcases turns i with e | settled
      · refine settled_same (h i) e ?_ mode
        simp only [State.covered, State.standingOf, e] at same ⊢
        exact same.symm
      · exact settled
    · exact settled_proceed T u i onset
  case other =>
    intro i j u ⟨zones, mode, turns⟩ other q
    split
    · exact q
    · exact settled_same q (u.proceed_other other onset).1 (by simp) (by simp)
  case step =>
    intro i u ⟨zones, mode, turns⟩
    split
    · exact ⟨zones, mode, turns⟩
    · refine ⟨by simpa using zones, by simpa using mode, fun j => ?_⟩
      by_cases same : j = i
      · exact .inr (same ▸ settled_proceed T u i onset)
      · rcases turns j with e | settled
        · exact .inl ((u.proceed_other same onset).1.trans e)
        · exact .inr (settled_same settled (u.proceed_other same onset).1 (by simp) (by simp))

/-- On the entry to RUN the slots in STOPPED take their rule; no other slot's agreement depends on the mode (R25). -/
theorem allSettled_enterRun (h : AllSettled T s) : AllSettled T ((s.setMode .run).forSlots allSlots fun i t =>
    if (t.slot i).state = .stopped then t.proceed i false else t) := by
  intro j
  have start : (s.setMode .run).zones = s.zones ∧
      ∀ j, (s.setMode .run).slot j = s.slot j ∨ Settled T (s.setMode .run) j := ⟨by simp, fun j => .inl (by simp)⟩
  refine State.forSlots_each (Q := fun j t => Settled T t j)
    (I := fun t => t.zones = s.zones ∧ ∀ j, t.slot j = s.slot j ∨ Settled T t j)
    ?step ?own ?other allSlots start j (List.mem_finRange j)
  case own =>
    intro i u ⟨zones, turns⟩
    split
    · exact settled_proceed T u i false
    · rename_i up
      rcases turns i with e | settled
      · have target : u.effectiveTarget i = s.effectiveTarget i :=
          effectiveTarget_congr e (by simp only [State.covered, State.standingOf, zones, e])
        refine ⟨?_, ?_, fun _ _ st => absurd st up⟩
        · rw [target, e]; exact (h i).heads
        · rw [target, e]; exact (h i).waits
      · exact settled
  case other =>
    intro i j u ⟨zones, turns⟩ other q
    split
    · exact settled_same q (u.proceed_other other false).1 (by simp) (by simp)
    · exact q
  case step =>
    intro i u ⟨zones, turns⟩
    split
    · refine ⟨by simpa using zones, fun j => ?_⟩
      by_cases same : j = i
      · exact .inr (same ▸ settled_proceed T u i false)
      · rcases turns j with e | settled
        · exact .inl ((u.proceed_other same false).1.trans e)
        · exact .inr (settled_same settled (u.proceed_other same false).1 (by simp) (by simp))
    · exact ⟨zones, turns⟩

theorem allSettled_zones (T : Prop) : ZonesReportKept (AllSettled T) where
  congr _ _ h slots _ _ _ zones _ _ _ mode := allSettled_congr h slots zones mode
  zones _ zs onset h := allSettled_updateZones h zs onset

theorem allSettled_profile (h : AllSettled T s) (k : Fin 8) (p : DrawProfile) :
    AllSettled T (({ s with profiles := s.profiles.set k.val p k.isLt } : State).rederiveProfile k) := by
  intro j
  have turns : ((({ s with profiles := s.profiles.set k.val p k.isLt } : State).rederiveProfile k).slot j).state =
      (s.slot j).state ∧
      (({ s with profiles := s.profiles.set k.val p k.isLt } : State).rederiveProfile k).effectiveTarget j =
        s.effectiveTarget j := by
    simp only [State.effectiveTarget, State.rederiveProfile_slot, State.rederived]
    split <;> simp
  exact settled_congr (h j) turns.1 turns.2 (by simp)

theorem allSettled_restart (s : State) : AllSettled T s.restartRecords.sendQueries := by
  have slot : ∀ j, s.restartRecords.sendQueries.slot j = (s.slot j).restarted j s.now := fun j => by
    simp [State.slot, State.restartRecords]
  intro j
  have low : s.restartRecords.sendQueries.effectiveTarget j = .stopped := by
    simp only [State.effectiveTarget, slot, SlotRecord.restarted, powerOnSlot]
    rfl
  have state : (s.restartRecords.sendQueries.slot j).state = (s.slot j).restartState := by rw [slot]; rfl
  refine ⟨fun on => ?_, fun _ waits => ?_, fun _ _ _ => low⟩
  · rw [state, SlotRecord.restartState] at on
    split at on <;> [split at on; skip] <;> simp at on
  · rw [state, SlotRecord.restartState] at waits
    split at waits <;> [split at waits; skip] <;> simp at waits

theorem allSettled_powerOn (inputs : Vector Level 24) (line : Level) : AllSettled T (State.powerOn inputs line) := by
  intro j
  have empty : ((State.powerOn inputs line).slot j).state = .empty := by simp [State.powerOn, State.slot, powerOnSlot]
  exact settled_of_state (by simp [empty]) (by simp [empty]) (by simp [empty]) (by simp [empty])

theorem allSettled_presenceGained (h : AllSettled T s) (i : SlotId) (f : SlotRecord → SlotRecord) (flag : Flag) :
    AllSettled T (((s.modifySlot i f).setFlag flag).presenceGained i) := by
  intro j
  by_cases same : j = i
  · subst same; exact settled_arrive T _ j _
  · refine settled_same (h j) ?_ ?_ (by simp)
    · rw [State.presenceGained, (State.arrive_other _ same _).1]; simp [same]
    · simpa using covered_modifySlot_of_ne f same

theorem allSettled_presenceLost (h : AllSettled T s) (i : SlotId) (f : SlotRecord → SlotRecord) (flag : Flag) :
    AllSettled T (((s.modifySlot i f).setFlag flag).presenceLost i) := by
  intro j
  by_cases same : j = i
  · subst same
    refine settled_of_state ?_ ?_ ?_ ?_ <;> rw [State.presenceLost_slot, if_pos rfl] <;> simp
  · exact settled_same (h j) (by rw [State.presenceLost_slot, if_neg same]; simp [same])
      (by simpa using covered_modifySlot_of_ne f same) (by simp)

theorem allSettled_selfParked (h : AllSettled T s) (i : SlotId) :
    AllSettled T (((s.startSelfPark i).setFlag .selfPark).arrive i .parked) := by
  unfold State.startSelfPark
  intro j
  by_cases same : j = i
  · subst same; exact settled_arrive T _ j _
  · refine settled_same (h j) ?_ ?_ ?_
    · rw [(State.arrive_other _ same _).1]; split <;> simp [same]
    · split <;> simp [covered_modifySlot_of_ne _ same]
    · split <;> simp

theorem allSettled_clearFault (h : AllSettled T s) (i : SlotId) : AllSettled T (s.clearFaultOf i) := by
  unfold State.clearFaultOf
  split
  · exact allSettled_modify_arrive h i _ _
  · exact h

theorem allSettled_withdraw (h : AllSettled T s) (i : SlotId) : AllSettled T (s.withdrawSlot i) := by
  unfold State.withdrawSlot
  split
  · intro j
    by_cases same : j = i
    · subst same; exact settled_proceed T _ j _
    · refine settled_same (h j) ?_ ?_ (by simp)
      · rw [(State.proceed_other _ same _).1, State.giveOutcome_slot, if_neg same]; simp [same]
      · simp [covered_modifySlot_of_ne _ same]
  · exact h

theorem allSettled_restore (h : AllSettled T s) (i : SlotId) : AllSettled T (s.restoreSlot i) := by
  unfold State.restoreSlot
  split
  · exact h
  · exact allSettled_modify_proceed h i _ _

/-- What every event leaves of the agreement: the rule of the slot's state is the last thing done with a slot whose
target it has changed. -/
theorem allSettled_events (T : Prop) : EventsKeep (fun _ => AllSettled T) (fun _ => AllSettled T) := by
  have same : ∀ {s t : State}, AllSettled T s → t.slots = s.slots → t.zones = s.zones → t.mgmt.mode = s.mgmt.mode →
      AllSettled T t := allSettled_congr
  refine {
    room := fun s h _ => h
    body := fun _ s h => h
    answer := fun s a h => same h ?_ ?_ ?_
    conclusion := fun _ => allSettled_conclusion T
    plain := fun s i f h _ _ => same h ?_ ?_ ?_
    accept := fun s i f a h _ _ => allSettled_accept h i _
    openGroup := fun s g d f a h _ => allSettled_openGroup h g _
    restartPending := fun s tag h _ => same h ?_ ?_ ?_
    restart := fun s x _ _ _ => allSettled_restart _
    kindMap := fun s m h => same h ?_ ?_ ?_
    priorityMap := fun s m q y h => same h ?_ ?_ ?_
    profile := fun s k p entry h _ => allSettled_profile h k p
    slotEntry := fun s i zone profile shed h _ => allSettled_modify_proceed h i _ false
    ceilings := fun s m b entry h _ => same h ?_ ?_ ?_
    stagger := fun s n h _ => same h ?_ ?_ ?_
    configureNode := fun s n c entry h _ => (allSettled_zones T).unit.configureNode n c h
    rule := fun s k r entry h _ => same h ?_ ?_ ?_
    classStored := fun s c zones unload freeze hold entry h _ _ => same h ?_ ?_ ?_
    classUpdated := fun s c zones unload freeze hold entry h _ _ =>
      allSettled_updateZones ((allSettled_zones T).modifyClass h c _) _ _
    timing := fun s m entry h _ => same h ?_ ?_ ?_
    enterRun := fun s h _ => allSettled_enterRun h
    enterConfig := fun s h _ i => ⟨(h i).heads, (h i).waits, fun _ run => absurd run (by simp)⟩
    clearFault := fun s i h => allSettled_clearFault h i
    withdraw := fun s i h => allSettled_withdraw h i
    restore := fun s i h => allSettled_restore h i
    setEvents := fun s flags enables h => same h ?_ ?_ ?_
    supplyLine := fun s level e h => same h ?_ ?_ ?_
    source := fun s h => same h ?_ ?_ ?_
    presenceInput := fun s i level h => allSettled_modify h i _ (by simp)
    presenceGained := fun s i h _ _ => allSettled_presenceGained h i _ _
    presenceLost := fun s i h _ _ => allSettled_presenceLost h i _ _
    completion := fun s i tag o payload h => allSettled_takeCompletion h i tag o payload
    deadline := fun s i tag h => allSettled_takeDeadline h i tag
    selfParkCounted := fun s i h => allSettled_modify h i _ (by simp)
    selfParked := fun s i h _ => allSettled_selfParked h i
    carrierFault := fun s i code h _ => allSettled_enterFault h i _
    holdExpiry := fun s i h => allSettled_modify_proceed h i _ false
    deadlineDropped := fun s i h => allSettled_modify h i _ (by simp [SlotRecord.withoutDeadline])
    waitExpired := fun s i a h _ _ => allSettled_modify_proceed (allSettled_giveOutcome h i _) i _ false
    staggerExpiry := fun s h => same h ?_ ?_ ?_
    sample := fun s n node seq x y z h => (allSettled_zones T).unit.takeSample n node seq x y z h
    silence := fun s n h _ => (allSettled_zones T).unit.silence n h
    classClears := fun s c h _ _ => (allSettled_zones T).clear h c
    classWaits := fun s c h _ _ => same h ?_ ?_ ?_ }
  all_goals simp

theorem allSettled_step (h : AllSettled T s) (e : step s = .next t) : AllSettled T t := by
  refine (allSettled_events T).step (fun u q hu => allSettled_congr hu rfl rfl rfl)
    (fun u q hu => allSettled_congr hu (by simp) (by simp) (by simp)) (fun u v hu e => ?_)
    (fun inputs line q => allSettled_congr (allSettled_powerOn inputs line) rfl rfl rfl) h e
  exact (allSettled_events T).answerSentEvent hu e (fun _ _ => allSettled_congr hu (by simp) (by simp) (by simp))
    fun x _ => allSettled_restart _

end

/-- Settles O50: the account is kept operation by operation, and each operation that moves an effective target ends with
the rule of its slot's state. -/
theorem stepKeepsAccount : Obligations.StepKeepsAccount := by
  intro s t account heads e
  have kept := allSettled_step (T := TargetsServed s) (allSettled_iff.2 ⟨heads, id⟩) e
  obtain ⟨heads', targets⟩ := allSettled_iff.1 kept
  exact ⟨accountKept_step account e, heads', targets⟩

end Sys2Proof.Machine
end

section
/-! PROOFS. One lane's record: its positions and its tags, under an issue, a settlement and an abandonment (R50 to R53,
R55, R61). -/

namespace Sys2Proof.Machine

/-- What holds of a lane's record alone. -/
structure LaneRecord.Kept (r : LaneRecord) : Prop where
  position : r.position
  distinct : r.outstanding.Nodup
  fresh : ∀ t ∈ r.outstanding, t ∉ r.retired
  retired : r.retired.Nodup ∧ r.retired.length ≤ Config.retiredMax

theorem laneKept_iff {s : State} {i : SlotId} :
    LaneKept s i ↔ (s.lane i).Kept ∧ (s.lane i).awaited = (s.slot i).state.waitsOn :=
  ⟨fun ⟨p, d, f, r, a⟩ => ⟨⟨p, d, f, r⟩, a⟩, fun ⟨⟨p, d, f, r⟩, a⟩ => ⟨p, d, f, r, a⟩⟩

section
variable {r r' : LaneRecord}

/-! ### Tags -/

theorem LaneRecord.Kept.freshTag (h : r.Kept) : r.freshTag ∉ r.retired ∧ r.freshTag ∉ r.outstanding :=
  let ⟨unretired, free, _⟩ := r.freshTag_firstFree h.retired.2
  ⟨unretired, free⟩

/-- A record to which an op with a fresh tag has been added. -/
theorem LaneRecord.Kept.issued (h : r.Kept) (position : r'.position)
    (tags : r'.outstanding.Perm (r.freshTag :: r.outstanding)) (retired : r'.retired = r.retired) : r'.Kept := by
  obtain ⟨unretired, free⟩ := h.freshTag
  refine ⟨position, tags.nodup_iff.2 (List.nodup_cons.2 ⟨free, h.distinct⟩), fun t m => ?_, retired ▸ h.retired⟩
  rw [retired]
  rcases List.mem_cons.1 (tags.subset m) with rfl | m
  · exact unretired
  · exact h.fresh t m

/-- A record from which ops have been taken. -/
theorem LaneRecord.Kept.sub (h : r.Kept) (position : r'.position) (tags : r'.outstanding.Sublist r.outstanding)
    (retired : r'.retired.Sublist r.retired) : r'.Kept :=
  ⟨position, h.distinct.sublist tags, fun t m back => h.fresh t (tags.subset m) (retired.subset back),
    h.retired.1.sublist retired, retired.length_le.trans h.retired.2⟩

/-- A tag of no outstanding op is retired. -/
theorem LaneRecord.Kept.retire (h : r.Kept) {t : Byte} (gone : t ∉ r.outstanding) (new : t ∉ r.retired) :
    LaneRecord.Kept { r with retired := retireTag r.retired t } := by
  obtain ⟨-, length, from_⟩ := retireTag_spec r.retired t h.retired.2
  refine ⟨h.position, h.distinct, fun x m back => ?_, retireTag_nodup h.retired.1 new, length⟩
  rcases from_ x back with rfl | old
  · exact gone m
  · exact h.fresh x m old

theorem foldl_retireTag {tags retired : List Byte} (once : tags.Nodup) (new : ∀ t ∈ tags, t ∉ retired)
    (kept : retired.Nodup ∧ retired.length ≤ Config.retiredMax) :
    ((tags.foldl retireTag retired).Nodup ∧ (tags.foldl retireTag retired).length ≤ Config.retiredMax) ∧
      ∀ x ∈ tags.foldl retireTag retired, x ∈ tags ∨ x ∈ retired := by
  induction tags generalizing retired with
  | nil => exact ⟨kept, fun x m => .inr m⟩
  | cons t tags ih =>
    obtain ⟨fresh, once⟩ := List.nodup_cons.1 once
    obtain ⟨-, length, from_⟩ := retireTag_spec retired t kept.2
    have later : ∀ x ∈ tags, x ∉ retireTag retired t := fun x m back => by
      rcases from_ x back with rfl | old
      · exact fresh m
      · exact new x (List.mem_cons_of_mem _ m) old
    obtain ⟨done, origin⟩ := ih once later ⟨retireTag_nodup kept.1 (new t List.mem_cons_self), length⟩
    refine ⟨done, fun x m => ?_⟩
    rcases origin x m with m | m
    · exact .inl (List.mem_cons_of_mem _ m)
    · rcases from_ x m with rfl | old
      · exact .inl List.mem_cons_self
      · exact .inr old

/-- Outstanding ops whose tags are retired leave the record. -/
theorem LaneRecord.Kept.abandon (h : r.Kept) {tags : List Byte} (position : r'.position)
    (split : (tags ++ r'.outstanding).Perm r.outstanding) (retired : r'.retired = tags.foldl retireTag r.retired) :
    r'.Kept := by
  have once := split.nodup_iff.2 h.distinct
  obtain ⟨left, stays, apart⟩ := List.nodup_append.1 once
  obtain ⟨kept, origin⟩ := foldl_retireTag left (fun t m => h.fresh t (split.subset (List.mem_append_left _ m))) h.retired
  refine ⟨position, stays, fun t m back => ?_, retired ▸ kept⟩
  rw [retired] at back
  rcases origin t back with old | old
  · exact apart t old t m rfl
  · exact h.fresh t (split.subset (List.mem_append_right _ m)) old

/-! ### Issue (R53, R55, R62) -/

theorem position_of_free (h : r.position) (free : r.governed = none) : r.preempting = none ∧ r.held = none := by
  simpa [LaneRecord.position, free] using h

theorem LaneRecord.Kept.issueGoverned (h : r.Kept) (free : r.governed = none) (op : GovernedOp) (now duration : Nat) :
    (r.issueGoverned op now duration).Kept := by
  obtain ⟨single, unheld⟩ := position_of_free h.position free
  refine h.issued ?_ ?_ (by simp [LaneRecord.issueGoverned])
  · simp [LaneRecord.position, LaneRecord.issueGoverned, single, unheld]
  · simp [LaneRecord.outstanding, LaneRecord.issueGoverned, single, free]

theorem LaneRecord.Kept.issuePlain (h : r.Kept) (free : r.plain = none) (tag : Byte) (kind : Fin 16)
    (payload : List Byte) (now duration : Nat) : (r.issuePlain tag kind payload now duration).Kept := by
  refine h.issued ?_ ?_ (by simp [LaneRecord.issuePlain])
  · simpa [LaneRecord.position, LaneRecord.issuePlain] using h.position
  · simpa [LaneRecord.outstanding, LaneRecord.issuePlain, free] using
      (List.perm_append_singleton r.freshTag ((r.governed.map (·.tag)).toList ++ (r.preempting.map (·.tag)).toList))

/-- The op last asked may be followed by `op`: none is awaited, or `op` preempts the one awaited (R53, R55). -/
def LaneRecord.takes (r : LaneRecord) (op : GovernedOp) : Prop :=
  r.awaited = none ∨ ∃ before, r.awaited = some before ∧ preempts before op = true

/-- Where a lane takes an op, it stands in a position of R53 that places it. -/
theorem LaneRecord.Kept.placed (h : r.Kept) {op : GovernedOp} (takes : r.takes op) :
    r.governed = none ∧ r.preempting = none ∧ r.held = none ∨
      (∃ g, r.governed = some g ∧ g.role = .sole ∧ r.preempting = none ∧ r.held = none ∧ preempts g.op op = true) ∨
      ∃ g, r.governed = some g ∧ g.role = .residual ∧ r.preempting = none ∧ ∀ x ∈ r.held, preempts x op = true := by
  have position := h.position
  unfold LaneRecord.position at position
  cases governed : r.governed with
  | none =>
    obtain ⟨single, unheld⟩ := position_of_free h.position governed
    exact .inl ⟨rfl, single, unheld⟩
  | some g =>
    rw [governed] at position
    cases role : g.role with
    | sole =>
      simp only [role] at position
      obtain ⟨single, unheld⟩ := position
      have awaited : r.awaited = some g.op := by simp [LaneRecord.awaited, governed, single, unheld, role]
      rcases takes with none | ⟨before, awaits, follows⟩
      · simp [awaited] at none
      · rw [awaited, Option.some.injEq] at awaits
        exact .inr (.inl ⟨g, rfl, role, single, unheld, awaits ▸ follows⟩)
    | first =>
      simp only [role] at position
      obtain ⟨unheld, p, preempting, pair⟩ := position
      have awaited : r.awaited = some p.op := by simp [LaneRecord.awaited, preempting, unheld]
      rcases takes with none | ⟨before, awaits, follows⟩
      · simp [awaited] at none
      · rw [awaited, Option.some.injEq] at awaits
        subst awaits
        cases go : g.op <;> cases po : p.op <;> simp [preempts, go, po] at pair follows
    | residual =>
      simp only [role] at position
      refine .inr (.inr ⟨g, rfl, role, position.1, fun x held => ?_⟩)
      have awaited : r.awaited = some x := by
        have holds : r.held = some x := held
        simp [LaneRecord.awaited, holds]
      rcases takes with none | ⟨before, awaits, follows⟩
      · simp [awaited] at none
      · rw [awaited, Option.some.injEq] at awaits
        exact awaits ▸ follows

theorem LaneRecord.Kept.ask (h : r.Kept) {op : GovernedOp} (takes : r.takes op) (now duration : Nat) :
    (r.ask op now duration).Kept ∧ (r.ask op now duration).awaited = some op := by
  refine ⟨?_, r.ask_awaited op now duration (h.placed takes)⟩
  rcases h.placed takes with ⟨free, -, -⟩ | ⟨g, governed, role, single, unheld, pair⟩ | ⟨g, governed, role, single, follows⟩
  · rw [r.ask_of_free free]
    exact h.issueGoverned free op now duration
  · rw [r.ask_of_preempts governed role single pair]
    refine h.issued ?_ ?_ (by simp [LaneRecord.issuePreempting])
    · simp [LaneRecord.position, LaneRecord.issuePreempting, unheld, pair]
    · simpa [LaneRecord.outstanding, LaneRecord.issuePreempting, governed, single] using List.Perm.swap _ _ _
  · rw [r.ask_of_residual governed role]
    split
    · refine h.sub ?_ (List.Sublist.refl _) (List.Sublist.refl _)
      have position := h.position
      simp only [LaneRecord.position, governed, role] at position ⊢
      exact position
    · exact h

/-! ### Settlement (R55, R56, R58) -/

theorem LaneRecord.Kept.settleSole (h : r.Kept) {g : GovernedRecord} (governed : r.governed = some g)
    (role : g.role = .sole) : r.settleSole.Kept ∧ r.settleSole.awaited = none := by
  have position := h.position
  simp only [LaneRecord.position, governed, role] at position
  obtain ⟨single, unheld⟩ := position
  refine ⟨h.sub ?_ ?_ (List.Sublist.refl _), ?_⟩
  · simp [LaneRecord.position, LaneRecord.settleSole, single, unheld]
  · simp [LaneRecord.outstanding, LaneRecord.settleSole, governed, single]
  · simp [LaneRecord.awaited, LaneRecord.settleSole, single, unheld]

theorem LaneRecord.Kept.preempted (h : r.Kept) {p : PreemptingRecord} (preempting : r.preempting = some p) :
    ∃ g, r.governed = some g ∧ g.role = .first ∧ r.held = none ∧ preempts g.op p.op = true := by
  have position := h.position
  unfold LaneRecord.position at position
  cases governed : r.governed with
  | none => simp [governed, preempting] at position
  | some g =>
    cases role : g.role <;> simp [governed, role, preempting] at position
    exact ⟨g, rfl, role, position.1, position.2⟩

theorem LaneRecord.Kept.settlePreempting (h : r.Kept) {p : PreemptingRecord} (preempting : r.preempting = some p) :
    r.settlePreempting.Kept ∧ r.settlePreempting.awaited = none := by
  obtain ⟨g, governed, role, unheld, pair⟩ := h.preempted preempting
  refine ⟨h.sub ?_ ?_ (List.Sublist.refl _), ?_⟩
  · cases go : g.op <;> cases po : p.op <;> simp [preempts, go, po] at pair <;>
      simp [LaneRecord.position, LaneRecord.settlePreempting, governed, role, go]
  · simp [LaneRecord.outstanding, LaneRecord.settlePreempting, governed, preempting, role]
  · simp [LaneRecord.awaited, LaneRecord.settlePreempting, unheld, governed, role]

theorem LaneRecord.Kept.settleFirst (h : r.Kept) {g : GovernedRecord} (governed : r.governed = some g)
    (role : g.role = .first) (o : OpOutcome) : (r.settleFirst g o).Kept ∧ (r.settleFirst g o).awaited = r.awaited := by
  have position := h.position
  simp only [LaneRecord.position, governed, role] at position
  obtain ⟨unheld, p, preempting, pair⟩ := position
  refine ⟨h.sub ?_ ?_ (List.Sublist.refl _), ?_⟩
  · simp [LaneRecord.position, LaneRecord.settleFirst, preempting, unheld]
  · simp [LaneRecord.outstanding, LaneRecord.settleFirst, governed, preempting]
  · simp [LaneRecord.awaited, LaneRecord.settleFirst, preempting, unheld]

theorem LaneRecord.Kept.settleResidual (h : r.Kept) {g : GovernedRecord} (governed : r.governed = some g)
    (role : g.role = .residual) (o : OpOutcome) (now : Nat) (duration : GovernedOp → Nat) :
    (r.settleResidual g o now duration).Kept ∧ (r.settleResidual g o now duration).awaited = r.awaited := by
  have position := h.position
  simp only [LaneRecord.position, governed, role] at position
  obtain ⟨single, -⟩ := position
  have settled : LaneRecord.Kept { r with lastPreempted := some ⟨g.op, g.tag, o⟩, governed := none, held := none } := by
    refine h.sub ?_ ?_ (List.Sublist.refl _)
    · simp [LaneRecord.position, single]
    · simp [LaneRecord.outstanding, governed]
  unfold LaneRecord.settleResidual
  dsimp only
  cases held : r.held with
  | none => exact ⟨by simpa [held] using settled, by simp [LaneRecord.awaited, held, single, governed, role]⟩
  | some op =>
    exact ⟨settled.issueGoverned rfl op now (duration op),
      by simp [LaneRecord.awaited, LaneRecord.issueGoverned, single, held]⟩

theorem LaneRecord.Kept.dropPlain (h : r.Kept) : LaneRecord.Kept { r with plain := none } :=
  h.sub h.position (by simp [LaneRecord.outstanding]) (List.Sublist.refl _)

/-! ### Abandonment (R61) -/

theorem LaneRecord.Kept.abandonGoverned (h : r.Kept) : r.abandonGoverned.Kept ∧ r.abandonGoverned.awaited = none := by
  refine ⟨h.abandon (tags := r.governedTags) (by simp [LaneRecord.position]) ?_ rfl, by simp [LaneRecord.awaited]⟩
  simp [LaneRecord.outstanding, LaneRecord.governedTags]

theorem LaneRecord.insertIssued_perm (r : LaneRecord) (a : Nat × Byte) (l : List (Nat × Byte)) :
    (r.insertIssued a l).Perm (a :: l) := by
  induction l with
  | nil => rfl
  | cons b l ih =>
    unfold LaneRecord.insertIssued
    split
    · rfl
    · exact (ih.cons b).trans (List.Perm.swap a b l)

theorem LaneRecord.tagsInIssueOrder_perm (r : LaneRecord) : r.tagsInIssueOrder.Perm r.outstanding := by
  have governed : ((r.governed.map fun g => (g.issued, g.tag)).toList ++
      (r.preempting.map fun p => (p.issued, p.tag)).toList).map (·.2) =
        (r.governed.map (·.tag)).toList ++ (r.preempting.map (·.tag)).toList := by
    cases r.governed <;> cases r.preempting <;> rfl
  unfold LaneRecord.tagsInIssueOrder LaneRecord.outstanding
  rw [← governed]
  cases r.plain with
  | none => simp
  | some p =>
    refine ((r.insertIssued_perm _ _).map _).trans ?_
    simpa [← List.append_assoc] using List.perm_append_comm (l₁ := [p.tag])

theorem LaneRecord.Kept.abandonAll (h : r.Kept) : r.abandonAll.Kept ∧ r.abandonAll.awaited = none := by
  refine ⟨h.abandon (tags := r.tagsInIssueOrder) (by simp [LaneRecord.position]) ?_ rfl, by simp [LaneRecord.awaited]⟩
  simpa [LaneRecord.outstanding] using r.tagsInIssueOrder_perm

theorem LaneRecord.abandonAll_outstanding (r : LaneRecord) : r.abandonAll.outstanding = [] := by
  simp [LaneRecord.outstanding]

end

end Sys2Proof.Machine
end

section
/-! PROOFS. Every step keeps the lanes in their positions (R50 to R53, R55, R61). -/

namespace Sys2Proof.Machine

section
variable {r : LaneRecord}

/-! ### A tag retired at a timeout (R52, R59) -/

theorem LaneRecord.Kept.governedTag_gone (h : r.Kept) {g : GovernedRecord} (governed : r.governed = some g) :
    g.tag ∉ (r.preempting.map (·.tag)).toList ++ (r.plain.map (·.tag)).toList ∧ g.tag ∉ r.retired := by
  refine ⟨?_, h.fresh _ (by simp [LaneRecord.outstanding, governed])⟩
  have distinct := h.distinct
  rw [LaneRecord.outstanding, governed, List.append_assoc] at distinct
  exact (List.nodup_cons.1 distinct).1

theorem LaneRecord.Kept.timeoutSole (h : r.Kept) {g : GovernedRecord} (governed : r.governed = some g)
    (role : g.role = .sole) :
    (LaneRecord.settleSole { r with retired := retireTag r.retired g.tag }).Kept ∧
      (LaneRecord.settleSole { r with retired := retireTag r.retired g.tag }).awaited = none := by
  obtain ⟨settled, awaited⟩ := h.settleSole governed role
  obtain ⟨gone, new⟩ := h.governedTag_gone governed
  exact ⟨settled.retire (t := g.tag) (by simpa [LaneRecord.outstanding, LaneRecord.settleSole] using gone) new, awaited⟩

theorem LaneRecord.Kept.timeoutFirst (h : r.Kept) {g : GovernedRecord} (governed : r.governed = some g)
    (role : g.role = .first) (o : OpOutcome) :
    (LaneRecord.settleFirst { r with retired := retireTag r.retired g.tag } g o).Kept ∧
      (LaneRecord.settleFirst { r with retired := retireTag r.retired g.tag } g o).awaited = r.awaited := by
  obtain ⟨settled, awaited⟩ := h.settleFirst governed role o
  obtain ⟨gone, new⟩ := h.governedTag_gone governed
  refine ⟨settled.retire (t := g.tag) ?_ new, awaited⟩
  simpa [LaneRecord.outstanding, LaneRecord.settleFirst, Option.map_map, Function.comp_def] using gone

theorem LaneRecord.Kept.timeoutResidual (h : r.Kept) {g : GovernedRecord} (governed : r.governed = some g)
    (role : g.role = .residual) (o : OpOutcome) (now : Nat) (duration : GovernedOp → Nat) :
    (LaneRecord.settleResidual { r with retired := retireTag r.retired g.tag } g o now duration).Kept ∧
      (LaneRecord.settleResidual { r with retired := retireTag r.retired g.tag } g o now duration).awaited = r.awaited := by
  have position := h.position
  simp only [LaneRecord.position, governed, role] at position
  obtain ⟨single, -⟩ := position
  obtain ⟨gone, new⟩ := h.governedTag_gone governed
  have dropped : LaneRecord.Kept { r with lastPreempted := some ⟨g.op, g.tag, o⟩, governed := none, held := none } := by
    refine h.sub ?_ ?_ (List.Sublist.refl _)
    · simp [LaneRecord.position, single]
    · simp [LaneRecord.outstanding, governed]
  have settled := dropped.retire (t := g.tag) (by simpa [LaneRecord.outstanding] using gone) new
  unfold LaneRecord.settleResidual
  dsimp only
  cases held : r.held with
  | none => exact ⟨by simpa [held] using settled, by simp [LaneRecord.awaited, held, single, governed, role]⟩
  | some op =>
    exact ⟨settled.issueGoverned rfl op now (duration op),
      by simp [LaneRecord.awaited, LaneRecord.issueGoverned, single, held]⟩

/-- The TIMEOUT of a preempting op abandons the pair and retires its own tag last. -/
theorem LaneRecord.Kept.timeoutPreempting (h : r.Kept) {p : PreemptingRecord} (preempting : r.preempting = some p) :
    LaneRecord.Kept { r.settlePreempting.abandonGoverned with
      retired := retireTag r.settlePreempting.abandonGoverned.retired p.tag } := by
  obtain ⟨g, governed, role, -, -⟩ := h.preempted preempting
  obtain ⟨settled, -⟩ := h.settlePreempting preempting
  have distinct := h.distinct
  simp only [LaneRecord.outstanding, governed, preempting, Option.map_some, Option.toList_some, List.cons_append,
    List.nil_append, List.nodup_cons, List.mem_cons, not_or] at distinct
  obtain ⟨⟨apart, -⟩, alone, -⟩ := distinct
  have left : r.settlePreempting.governedTags = [g.tag] := by
    simp [LaneRecord.governedTags, LaneRecord.settlePreempting, governed, role]
  refine settled.abandonGoverned.1.retire ?_ ?_
  · simpa [LaneRecord.outstanding, LaneRecord.settlePreempting] using alone
  · intro back
    have origin := (retireTag_spec r.retired g.tag h.retired.2).2.2 p.tag
      (by rw [LaneRecord.abandonGoverned, LaneRecord.retireAll, left] at back; exact back)
    rcases origin with e | old
    · exact apart e.symm
    · exact h.fresh p.tag (by simp [LaneRecord.outstanding, preempting]) old

theorem LaneRecord.Kept.timeoutPlain (h : r.Kept) {p : PlainRecord} (plain : r.plain = some p) :
    LaneRecord.Kept { r with retired := retireTag r.retired p.tag, plain := none } := by
  refine h.dropPlain.retire (t := p.tag) ?_ (h.fresh _ (by simp [LaneRecord.outstanding, plain]))
  have distinct := h.distinct
  rw [LaneRecord.outstanding, plain] at distinct
  have apart := (List.nodup_append.1 distinct).2.2
  intro m
  exact apart p.tag (by simpa [LaneRecord.outstanding] using m) p.tag (by simp) rfl

theorem LaneRecord.Kept.forget (h : r.Kept) (t : Byte) : LaneRecord.Kept { r with retired := r.retired.erase t } :=
  h.sub h.position (List.Sublist.refl _) List.erase_sublist

theorem LaneRecord.Kept.restarted (h : r.Kept) : r.restarted.Kept ∧ r.restarted.awaited = none := by
  obtain ⟨kept, awaited⟩ := h.abandonAll
  exact ⟨kept.sub kept.position (List.Sublist.refl _) (List.Sublist.refl _), awaited⟩

theorem powerOnLane_kept : powerOnLane.Kept := ⟨⟨rfl, rfl⟩, by decide, by decide, by decide⟩

end

/-! ### One slot's lane -/

/-- The lane is kept and waits on no governed op, whatever the slot's state. -/
structure LaneFree (s : State) (i : SlotId) : Prop where
  kept : (s.lane i).Kept
  none : (s.lane i).awaited = none

/-- Every lane but `i`'s is kept. -/
def LanesBut (s : State) (i : SlotId) : Prop := ∀ j, j ≠ i → LaneKept s j

section
variable {s t : State} {i : SlotId}

theorem laneKept_congr (h : LaneKept s i) (lane : t.lane i = s.lane i) (state : (t.slot i).state.waitsOn =
    (s.slot i).state.waitsOn) : LaneKept t i := by
  rw [laneKept_iff] at h ⊢
  rwa [lane, state]

theorem LaneFree.rests (h : LaneFree s i) (state : (s.slot i).state.waitsOn = Option.none) : LaneKept s i :=
  laneKept_iff.2 ⟨h.kept, h.none.trans state.symm⟩

theorem laneFree_of_rests (h : LaneKept s i) (state : (s.slot i).state.waitsOn = none) : LaneFree s i :=
  let ⟨kept, awaited⟩ := laneKept_iff.1 h
  ⟨kept, awaited.trans state⟩

/-- An op that the lane takes is asked, and the slot's state waits on it. -/
theorem laneKept_ask {op : GovernedOp} (kept : (s.lane i).Kept) (takes : (s.lane i).takes op)
    (state : (s.slot i).state.waitsOn = some op) : LaneKept (s.ask i op) i := by
  obtain ⟨asked, awaited⟩ := kept.ask takes s.now (opDuration (s.profileOf i) op)
  rw [laneKept_iff, State.ask_lane, if_pos rfl]
  exact ⟨asked, awaited.trans (by simpa using state.symm)⟩

/-- The rule of any state asks only for an op that the lane can take (R53). -/
theorem laneKept_proceed (h : LaneKept s i) (onset : Bool) : LaneKept (s.proceed i onset) i := by
  obtain ⟨kept, awaited⟩ := laneKept_iff.1 h
  have taken := proceedStep s i onset
  generalize s.proceed i onset = t at taken ⊢
  cases taken with
  | stays _ => exact h
  | raised st _ _ => exact laneKept_congr h (by simp) (by simp [State.enterState_slot, st, SlotState.waitsOn])
  | withdrawn st _ => exact laneKept_congr h (by simp) (by simp [State.enterState_slot, st, SlotState.waitsOn])
  | spunDown draw from_ _ =>
    refine laneKept_ask (by simpa using kept) ?_ (by simp [State.enterState_slot, SlotState.waitsOn])
    rcases from_ with ⟨st, _⟩ | ⟨st, _⟩
    · exact .inr ⟨.spin, by simp [awaited, st, SlotState.waitsOn], rfl⟩
    · exact .inl (by simp [awaited, st, SlotState.waitsOn])
  | loads st _ =>
    exact laneKept_ask (by simpa using kept) (.inl (by simp [awaited, st, SlotState.waitsOn]))
      (by simp [State.enterState_slot, SlotState.waitsOn])
  | unloads from_ _ =>
    refine laneKept_ask (by simpa using kept) ?_ (by simp [State.enterState_slot, SlotState.waitsOn])
    rcases from_ with st | st
    · exact .inr ⟨.load, by simp [awaited, st, SlotState.waitsOn], rfl⟩
    · exact .inl (by simp [awaited, st, SlotState.waitsOn])

theorem laneKept_giveOutcome {j : SlotId} (h : LaneKept s j) (i : SlotId) (code : AnswerCode) :
    LaneKept (s.giveOutcome i code) j :=
  laneKept_congr h (by simp) (by rw [State.giveOutcome_slot]; split <;> simp_all)

theorem laneKept_completeIfReached {j : SlotId} (h : LaneKept s j) (i : SlotId) : LaneKept (s.completeIfReached i) j := by
  rcases s.completeIfReached_cases i with ⟨e, _⟩ | ⟨e, _⟩ <;> rw [e]
  · exact h
  · exact laneKept_giveOutcome h i _

theorem laneKept_arrive (h : LaneFree s i) {st : SlotState} (rest : st.waitsOn = none) : LaneKept (s.arrive i st) i := by
  have entered : LaneKept (s.enterState i st) i :=
    LaneFree.rests ⟨by simpa using h.kept, by simpa using h.none⟩ (by simpa [State.enterState_slot] using rest)
  exact laneKept_proceed (laneKept_completeIfReached entered i) false

theorem laneKept_enterFault (h : (s.lane i).Kept) (cause : FaultCause) : LaneKept (s.enterFault i cause) i := by
  obtain ⟨kept, awaited⟩ := h.abandonGoverned
  rw [laneKept_iff, State.enterFault_lane, State.enterFault_slot, if_pos rfl, if_pos rfl]
  exact ⟨kept, awaited⟩

/-! ### All lanes -/

theorem lanesKept_of_own (own : LaneKept t i) (h : LanesBut s i)
    (others : ∀ j, j ≠ i → t.slot j = s.slot j ∧ t.lane j = s.lane j) : LanesKept t := by
  intro j
  by_cases same : j = i
  · exact same ▸ own
  · obtain ⟨slot, lane⟩ := others j same
    exact laneKept_congr (h j same) lane (by rw [slot])

theorem LanesKept.but (h : LanesKept s) (i : SlotId) : LanesBut s i := fun j _ => h j

theorem lanesKept_congr (h : LanesKept s) (lanes : t.lanes = s.lanes) (slots : t.slots = s.slots) : LanesKept t :=
  fun j => laneKept_congr (h j) (by unfold State.lane; rw [lanes]) (by unfold State.slot; rw [slots])

theorem lanesKept_modifySlot (h : LanesKept s) (i : SlotId) (f : SlotRecord → SlotRecord)
    (state : (f (s.slot i)).state = (s.slot i).state) : LanesKept (s.modifySlot i f) := by
  refine lanesKept_of_own (laneKept_congr (h i) (by simp) (by rw [State.slot_modifySlot_self, state])) (h.but i) ?_
  exact fun j other => ⟨State.slot_modifySlot_of_ne _ other f, by simp⟩

theorem lanesKept_proceed (h : LanesKept s) (i : SlotId) (onset : Bool) : LanesKept (s.proceed i onset) :=
  lanesKept_of_own (laneKept_proceed (h i) onset) (h.but i) fun _ other => s.proceed_other other onset

theorem lanesKept_giveOutcome (h : LanesKept s) (i : SlotId) (code : AnswerCode) : LanesKept (s.giveOutcome i code) :=
  fun j => laneKept_giveOutcome (h j) i code

theorem lanesKept_completeIfReached (h : LanesKept s) (i : SlotId) : LanesKept (s.completeIfReached i) :=
  fun j => laneKept_completeIfReached (h j) i

theorem lanesKept_arrive (h : LanesBut s i) (free : LaneFree s i) {st : SlotState} (rest : st.waitsOn = none) :
    LanesKept (s.arrive i st) :=
  lanesKept_of_own (laneKept_arrive free rest) h fun _ other => s.arrive_other other st

theorem lanesKept_enterFault (h : LanesBut s i) (kept : (s.lane i).Kept) (cause : FaultCause) :
    LanesKept (s.enterFault i cause) := by
  refine lanesKept_of_own (laneKept_enterFault kept cause) h fun j other => ?_
  rw [State.enterFault_slot, State.enterFault_lane, if_neg other, if_neg other]
  exact ⟨rfl, rfl⟩

theorem waitsOn_of_asTarget {st : SlotState} {target : Target} (named : st.asTarget = some target) :
    st.waitsOn = none := by
  cases st <;> first | rfl | cases named

/-- The slot takes the end of the op it waits on, which has left the lane. -/
theorem lanesKept_takeOutcome (h : LanesBut s i) (free : LaneFree s i) {op : GovernedOp}
    (waits : (s.slot i).state.waitsOn = some op) (o : OpOutcome) (report : Option Byte) :
    LanesKept (s.takeOutcome i op o report) := by
  have modified : ∀ f : SlotRecord → SlotRecord, LanesBut (s.modifySlot i f) i ∧ LaneFree (s.modifySlot i f) i := by
    intro f
    exact ⟨fun j other => laneKept_congr (h j other) (by simp) (by rw [State.slot_modifySlot_of_ne _ other]),
      ⟨by simpa using free.kept, by simpa using free.none⟩⟩
  have taken := takeOutcome_taken s i op o report
  generalize s.takeOutcome i op o report = t at taken ⊢
  cases taken with
  | unnamed out => exact absurd waits out
  | failed cause _ => exact lanesKept_enterFault h free.kept cause
  | spun _ _ => exact lanesKept_arrive h free rfl
  | loaded _ _ => exact lanesKept_arrive h free rfl
  | unloaded _ _ => exact lanesKept_arrive h free rfl
  | stopped _ _ => exact lanesKept_arrive (modified _).1 (modified _).2 rfl
  | reported rest _ _ _ named => exact lanesKept_arrive (modified _).1 (modified _).2 (waitsOn_of_asTarget named)

/-! ### Completions and deadlines (R56, R58, R59) -/

/-- The record of one lane changes and the slot goes on waiting on the same op. -/
theorem lanesKept_modifyLane (h : LanesKept s) (i : SlotId) (f : LaneRecord → LaneRecord) (kept : (f (s.lane i)).Kept)
    (awaited : (f (s.lane i)).awaited = (s.lane i).awaited) : LanesKept (s.modifyLane i f) := by
  refine lanesKept_of_own (i := i) (laneKept_iff.2 ?_) (h.but i)
    fun j other => ⟨by simp, State.lane_modifyLane_of_ne _ other f⟩
  rw [State.lane_modifyLane_self, awaited, (laneKept_iff.1 (h i)).2]
  exact ⟨kept, by simp⟩

/-- The record of one lane is rid of the op it awaited. -/
theorem lanesBut_modifyLane (h : LanesKept s) (i : SlotId) (f : LaneRecord → LaneRecord) :
    LanesBut (s.modifyLane i f) i := fun j other =>
  laneKept_congr (h j) (State.lane_modifyLane_of_ne _ other f) (by simp)

/-- The end of the op that the lane awaits, its record rid of it. -/
theorem lanesKept_settled (h : LanesKept s) {f : LaneRecord → LaneRecord} {op : GovernedOp}
    (settled : (f (s.lane i)).Kept ∧ (f (s.lane i)).awaited = none) (awaited : (s.lane i).awaited = some op)
    (o : OpOutcome) (report : Option Byte) : LanesKept ((s.modifyLane i f).takeOutcome i op o report) := by
  refine lanesKept_takeOutcome (lanesBut_modifyLane h i f) ⟨?_, ?_⟩ ?_ o report
  · rw [State.lane_modifyLane_self]; exact settled.1
  · rw [State.lane_modifyLane_self]; exact settled.2
  · simpa [(laneKept_iff.1 (h i)).2] using awaited

theorem awaited_of_sole {r : LaneRecord} (h : r.position) {g : GovernedRecord} (governed : r.governed = some g)
    (role : g.role = .sole) : r.awaited = some g.op := by
  simp only [LaneRecord.position, governed, role] at h
  simp [LaneRecord.awaited, governed, h.1, h.2, role]

theorem awaited_of_preempting {r : LaneRecord} (h : r.Kept) {p : PreemptingRecord} (preempting : r.preempting = some p) :
    r.awaited = some p.op := by
  obtain ⟨g, -, -, unheld, -⟩ := h.preempted preempting
  simp [LaneRecord.awaited, preempting, unheld]

theorem lanesKept_takeCompletion (h : LanesKept s) (i : SlotId) (tag : Byte) (o : CompletionOutcome)
    (payload : List Byte) : LanesKept (s.takeCompletion i tag o payload) := by
  obtain ⟨kept, -⟩ := laneKept_iff.1 (h i)
  unfold State.takeCompletion
  rcases (s.lane i).find_cases tag with ⟨g, governed, -, found⟩ | ⟨p, preempting, -, found⟩ | ⟨p, plain, -, found⟩ |
    ⟨-, found⟩ <;> rw [found] <;> dsimp only
  · unfold State.settleGoverned
    cases role : g.role with
    | sole => exact lanesKept_settled h (kept.settleSole governed role) (awaited_of_sole kept.position governed role) _ _
    | first =>
      obtain ⟨settled, same⟩ := kept.settleFirst governed role (opEnd o)
      exact lanesKept_modifyLane h i _ settled same
    | residual =>
      obtain ⟨settled, same⟩ := kept.settleResidual governed role (opEnd o) s.now (opDuration (s.profileOf i))
      exact lanesKept_modifyLane h i _ settled same
  · exact lanesKept_settled h (kept.settlePreempting preempting) (awaited_of_preempting kept preempting) _ _
  · have dropped : LanesKept (s.modifyLane i fun r => { r with plain := none }) :=
      lanesKept_modifyLane h i _ kept.dropPlain rfl
    exact lanesKept_congr dropped (by simp [State.settlePlain]) (by simp [State.settlePlain])
  · exact lanesKept_modifySlot (lanesKept_modifyLane h i _ (kept.forget tag) rfl) i _ rfl

/-- A TIMEOUT of the op that the slot waits on is a failure (R26, R59). -/
theorem takeOutcome_timeout {op : GovernedOp} (waits : (s.slot i).state.waitsOn = some op) (report : Option Byte) :
    s.takeOutcome i op .timeout report = s.enterFault i (timeoutCause op) := by
  cases st : (s.slot i).state <;> rw [st] at waits <;> cases waits <;>
    simp [State.takeOutcome, st, State.settleOp, timeoutCause]

theorem State.modifyLane_modifyLane (s : State) (i : SlotId) (f g : LaneRecord → LaneRecord) :
    (s.modifyLane i f).modifyLane i g = s.modifyLane i fun r => g (f r) := by
  simp [State.modifyLane, State.lane]

theorem lanesKept_timeoutGoverned (h : LanesKept s) {g : GovernedRecord} (governed : (s.lane i).governed = some g) :
    LanesKept ((s.retire i g.tag).settleGoverned i g .timeout none) := by
  obtain ⟨kept, -⟩ := laneKept_iff.1 (h i)
  unfold State.settleGoverned State.retire
  rw [State.modifyLane_modifyLane, State.modifyLane_modifyLane, State.modifyLane_modifyLane]
  cases role : g.role with
  | sole => exact lanesKept_settled h (kept.timeoutSole governed role) (awaited_of_sole kept.position governed role) _ _
  | first =>
    obtain ⟨settled, same⟩ := kept.timeoutFirst governed role .timeout
    exact lanesKept_modifyLane h i _ settled same
  | residual =>
    obtain ⟨settled, same⟩ := kept.timeoutResidual governed role .timeout s.now (opDuration (s.profileOf i))
    simp only [State.modifyLane_now, State.modifyLane_profileOf]
    exact lanesKept_modifyLane h i _ settled same

theorem lanesKept_timeoutPreempting (h : LanesKept s) {p : PreemptingRecord}
    (preempting : (s.lane i).preempting = some p) :
    LanesKept ((s.settlePreempting i p .timeout none).retire i p.tag) := by
  obtain ⟨kept, waits⟩ := laneKept_iff.1 (h i)
  have state : ((s.modifyLane i LaneRecord.settlePreempting).slot i).state.waitsOn = some p.op := by
    simpa [waits] using awaited_of_preempting kept preempting
  rw [State.settlePreempting, takeOutcome_timeout state]
  refine lanesKept_of_own (i := i) (laneKept_iff.2 ?_) (lanesBut_modifyLane h i LaneRecord.settlePreempting) ?_
  · rw [State.retire, State.lane_modifyLane_self, State.enterFault_lane, if_pos rfl, State.lane_modifyLane_self]
    refine ⟨kept.timeoutPreempting preempting, ?_⟩
    simp [State.enterFault_slot, SlotState.waitsOn, LaneRecord.awaited]
  · intro j other
    rw [State.retire, State.lane_modifyLane_of_ne _ other, State.enterFault_lane, if_neg other, State.modifyLane_slot,
      State.enterFault_slot, if_neg other]
    exact ⟨rfl, rfl⟩

theorem lanesKept_takeDeadline (h : LanesKept s) (i : SlotId) (tag : Byte) : LanesKept (s.takeDeadline i tag) := by
  obtain ⟨kept, -⟩ := laneKept_iff.1 (h i)
  unfold State.takeDeadline
  rcases (s.lane i).find_cases tag with ⟨g, governed, rfl, found⟩ | ⟨p, preempting, rfl, found⟩ |
    ⟨p, plain, rfl, found⟩ | ⟨-, found⟩ <;> rw [found] <;> dsimp only
  · split
    · exact lanesKept_timeoutGoverned h governed
    · exact h
  · split
    · exact lanesKept_timeoutPreempting h preempting
    · exact h
  · split
    · have dropped : LanesKept (s.modifyLane i fun r => { r with retired := retireTag r.retired p.tag, plain := none }) :=
        lanesKept_modifyLane h i _ (kept.timeoutPlain plain) rfl
      unfold State.settlePlain State.retire
      rw [State.modifyLane_modifyLane]
      exact lanesKept_congr dropped (by simp) (by simp)
    · exact h
  · exact h

/-! ### Grants, zone updates, requests -/

theorem lanesKept_grant (h : LanesKept s) (st : (s.slot i).state = .queued) : LanesKept (s.grant i) := by
  obtain ⟨kept, waits⟩ := laneKept_iff.1 (h i)
  obtain ⟨asked, awaited⟩ := kept.ask (op := .spin) (.inl (by rw [waits, st]; rfl)) s.now (opDuration (s.profileOf i) .spin)
  refine lanesKept_of_own (i := i) (laneKept_iff.2 ?_) (h.but i) fun j other => ?_
  · rw [State.grant_lane, if_pos rfl, State.grant_slot, if_pos rfl]
    exact ⟨asked, awaited⟩
  · rw [State.grant_slot, State.grant_lane, if_neg other, if_neg other]
    exact ⟨rfl, rfl⟩

theorem lanesKept_mark (h : LanesKept s) (i : SlotId) : LanesKept (s.shedMarkSlot i) :=
  lanesKept_proceed (lanesKept_giveOutcome (lanesKept_modifySlot h i _ rfl) i _) i false

theorem lanesKept_zones : ZonesReportKept LanesKept where
  congr _ _ h slots lanes _ _ _ _ _ _ _ := lanesKept_congr h lanes slots
  zones s zs onset h := State.updateZones_induct s zs onset (lanesKept_congr h rfl rfl) fun _ i hu =>
    lanesKept_proceed hu i onset

theorem lanesKept_accept (h : LanesKept s) (i : SlotId) (a : ActiveRequest) : LanesKept (s.accept i a) := by
  have superseded : LanesKept ((s.giveOutcome i .superseded).reserveFor a.origin) :=
    lanesKept_congr (lanesKept_giveOutcome h i .superseded) (by simp) (by simp)
  exact lanesKept_completeIfReached (lanesKept_proceed (lanesKept_modifySlot superseded i _ rfl) i false) i

theorem lanesKept_openGroup (h : LanesKept s) (g : GroupId) (r : GroupRecord) : LanesKept (s.openGroup g r) := by
  unfold State.openGroup
  have opened : LanesKept ((s.takeReservation).setGroup g (some r)) := lanesKept_congr h (by simp) (by simp)
  have fanned := State.forSlots_induct (f := fun i t => t.takeMember g r i) r.remaining opened fun i _ u hu => by
    unfold State.takeMember
    split
    · exact lanesKept_congr hu (by simp) (by simp)
    · exact lanesKept_accept hu i _
  exact lanesKept_congr fanned (by simp) (by simp)

theorem lanesKept_plain (h : LanesKept s) (free : (s.lane i).plain = none) (tag : Byte) (kind : Fin 16)
    (payload : List Byte) (now duration : Nat) :
    LanesKept ((s.takeReservation).modifyLane i fun r => r.issuePlain tag kind payload now duration) := by
  have reserved : LanesKept s.takeReservation := lanesKept_congr h (by simp) (by simp)
  have kept := (laneKept_iff.1 (reserved i)).1
  refine lanesKept_modifyLane reserved i _ (kept.issuePlain (by simpa using free) tag kind payload now duration) ?_
  simp [LaneRecord.awaited, LaneRecord.issuePlain]

/-! ### RESTART and a power-on reset (R50, R181) -/

/-- What each slot's one turn makes of what holds of it before the turn; the other turns leave it before and after. -/
theorem State.forSlots_once {I : State → Prop} {Pre Post : SlotId → State → Prop} {f : SlotId → State → State}
    (step : ∀ i u, I u → I (f i u)) (own : ∀ i u, I u → Pre i u → Post i (f i u))
    (before : ∀ i j u, I u → j ≠ i → Pre j u → Pre j (f i u)) (after : ∀ i j u, I u → j ≠ i → Post j u → Post j (f i u))
    {is : List SlotId} (once : is.Nodup) {t : State} (h : I t) (start : ∀ j ∈ is, Pre j t) :
    ∀ j ∈ is, Post j (t.forSlots is f) := by
  induction is generalizing t with
  | nil => simp
  | cons i is ih =>
    obtain ⟨first, once⟩ := List.nodup_cons.1 once
    intro j m
    rcases List.mem_cons.1 m with rfl | m
    · exact (State.forSlots_induct (P := fun u => I u ∧ Post j u) is ⟨step j t h, own j t h (start j m)⟩
        fun i m u ⟨hu, q⟩ => ⟨step i u hu, after i j u hu (fun e => first (e ▸ m)) q⟩).2
    · exact ih once (step i t h)
        (fun j m => before i j t h (fun e => first (e ▸ m)) (start j (List.mem_cons_of_mem _ m))) j m

/-- Each slot in PROBING is sent its QUERY once (R181). -/
theorem State.sendQueries_lane (s : State) (j : SlotId) : s.sendQueries.lane j =
    if (s.slot j).state = .probing then (s.lane j).ask .query s.now (opDuration (s.profileOf j) .query)
    else s.lane j := by
  refine State.forSlots_once (I := fun u => u.now = s.now ∧ u.slots = s.slots ∧ u.profiles = s.profiles)
    (Pre := fun j u => u.lane j = s.lane j) (Post := fun j u => u.lane j = if (s.slot j).state = .probing then
      (s.lane j).ask .query s.now (opDuration (s.profileOf j) .query) else s.lane j)
    (f := fun i t => if (t.slot i).state = .probing then t.ask i .query else t) ?_ ?_ ?_ ?_
    (List.nodup_finRange 24) ⟨rfl, rfl, rfl⟩ (fun _ _ => rfl) j (List.mem_finRange j)
  · intro i u ⟨now, slots, profiles⟩
    split <;> simp [now, slots, profiles]
  · intro i u ⟨now, slots, profiles⟩ lane
    have slot : u.slot i = s.slot i := by unfold State.slot; rw [slots]
    have profile : u.profileOf i = s.profileOf i := by simp only [State.profileOf, slot, profiles]
    simp only [slot]
    split
    · rw [State.ask_lane, if_pos rfl, lane, now, profile]
    · exact lane
  · intro i j u _ other lane
    split
    · rw [State.ask_lane, if_neg other]; exact lane
    · exact lane
  · intro i j u _ other lane
    split
    · rw [State.ask_lane, if_neg other]; exact lane
    · exact lane

theorem lanesKept_restart (h : LanesKept s) : LanesKept s.restartRecords.sendQueries := by
  have lane : ∀ j, s.restartRecords.lane j = (s.lane j).restarted := fun j => by
    simp [State.restartRecords, State.lane]
  have slot : ∀ j, (s.restartRecords.slot j).state = (s.slot j).restartState := fun j => by
    simp [State.restartRecords, State.slot, SlotRecord.restarted]
  have start : ∀ j, LaneFree s.restartRecords j := fun j => by
    obtain ⟨kept, awaited⟩ := (laneKept_iff.1 (h j)).1.restarted
    exact ⟨by rwa [lane], by rwa [lane]⟩
  intro j
  rw [laneKept_iff, State.sendQueries_lane, show s.restartRecords.sendQueries.slot j = s.restartRecords.slot j by
    simp [State.slot]]
  split
  · rename_i st
    rw [st]
    exact (start j).kept.ask (.inl (start j).none) _ _
  · rename_i st
    refine ⟨(start j).kept, (start j).none.trans ?_⟩
    rw [slot] at st ⊢
    unfold SlotRecord.restartState at st ⊢
    split at st <;> [split at st; skip] <;> simp_all [SlotState.waitsOn]

theorem lanesKept_powerOn (inputs : Vector Level 24) (line : Level) : LanesKept (State.powerOn inputs line) := by
  intro j
  have lane : (State.powerOn inputs line).lane j = powerOnLane := by simp [State.powerOn, State.lane]
  have slot : (State.powerOn inputs line).slot j = powerOnSlot 0 j inputs[j] := by simp [State.powerOn, State.slot]
  rw [laneKept_iff, lane, slot]
  exact ⟨powerOnLane_kept, rfl⟩

/-! ### Every event -/

/-- The account says which slots wait and which are empty; the lanes then stand as the states give them. -/
def AccountAndLanes (s : State) : Prop := AccountKept s ∧ LanesKept s

/-- A running debounce that will find the input low waits for a carrier in an empty bay (R171). -/
theorem empty_of_debouncing (h : AccountKept s) (running : (s.slot i).debounceExpiry.isSome = true)
    (low : seated (s.slot i).input = true) : (s.slot i).state = .empty := by
  have absent : (s.slot i).present = false := by simpa [low] using (h.slots i).debounce.1 running
  by_contra out
  simp [(h.slots i).presence.2 out] at absent

theorem lanesKept_presenceGained (h : LanesKept s) (rests : (s.slot i).state.waitsOn = none)
    (f : SlotRecord → SlotRecord) (flag : Flag) : LanesKept (((s.modifySlot i f).setFlag flag).presenceGained i) := by
  obtain ⟨kept, none⟩ := laneFree_of_rests (h i) rests
  refine lanesKept_arrive (fun j other => laneKept_congr (h j) (by simp) (by simp [other])) ⟨?_, ?_⟩ rfl
  · simpa using kept
  · simpa using none

theorem State.laneGone_lane (s : State) (i j : SlotId) :
    (s.laneGone i).lane j = if j = i then (s.lane i).abandonAll else s.lane j := by
  unfold State.laneGone
  dsimp only
  split <;> simp [State.lane_modifyLane]

theorem lanesKept_presenceLost (h : LanesKept s) (i : SlotId) (f : SlotRecord → SlotRecord) (flag : Flag) :
    LanesKept (((s.modifySlot i f).setFlag flag).presenceLost i) := by
  obtain ⟨kept, none⟩ := (laneKept_iff.1 (h i)).1.abandonAll
  have lane : ∀ j, (((s.modifySlot i f).setFlag flag).presenceLost i).lane j =
      if j = i then (s.lane i).abandonAll else s.lane j := fun j => by
    simp [State.presenceLost, State.laneGone_lane]
  intro j
  rw [laneKept_iff, lane, State.presenceLost_slot]
  by_cases same : j = i
  · subst same
    simp only [if_true]
    exact ⟨kept, none⟩
  · simpa [same] using laneKept_iff.1 (h j)

theorem lanesKept_selfParked (h : LanesKept s) (st : (s.slot i).state = .loaded) :
    LanesKept (((s.startSelfPark i).setFlag .selfPark).arrive i .parked) := by
  have started : LanesKept (s.startSelfPark i) ∧ ((s.startSelfPark i).slot i).state = .loaded := by
    unfold State.startSelfPark
    split
    · exact ⟨lanesKept_modifySlot h i _ rfl, by simpa using st⟩
    · exact ⟨h, st⟩
  have flagged : LanesKept ((s.startSelfPark i).setFlag .selfPark) := lanesKept_congr started.1 rfl rfl
  exact lanesKept_arrive (flagged.but i) (laneFree_of_rests (flagged i) (by simp [started.2, SlotState.waitsOn])) rfl

/-- A record changed before its slot, which waits on no op, arrives in a state. -/
theorem lanesKept_modify_arrive (h : LanesKept s) (f : SlotRecord → SlotRecord) (rests : (s.slot i).state.waitsOn = none)
    {st : SlotState} (rest : st.waitsOn = none) : LanesKept ((s.modifySlot i f).arrive i st) := by
  obtain ⟨kept, none⟩ := laneFree_of_rests (h i) rests
  refine lanesKept_arrive (fun j other => laneKept_congr (h j) (by simp) (by simp [other])) ⟨?_, ?_⟩ rest
  · simpa using kept
  · simpa using none

theorem lanesKept_clearFault (h : LanesKept s) (i : SlotId) : LanesKept (s.clearFaultOf i) := by
  unfold State.clearFaultOf
  split
  · rename_i fault
    exact lanesKept_modify_arrive h _ (by rw [fault]; rfl) rfl
  · exact h

theorem lanesKept_profile (h : LanesKept s) (k : Fin 8) (p : DrawProfile) :
    LanesKept (({ s with profiles := s.profiles.set k.val p k.isLt } : State).rederiveProfile k) := by
  refine fun j => laneKept_congr (h j) (by simp) ?_
  rw [State.rederiveProfile_slot]
  unfold State.rederived
  split <;> simp

theorem lanesKept_enterRun (h : LanesKept s) : LanesKept ((s.setMode .run).forSlots allSlots fun i t =>
    if (t.slot i).state = .stopped then t.proceed i false else t) := by
  refine State.forSlots_induct _ (lanesKept_congr h rfl rfl) fun i _ t ht => ?_
  split
  · exact lanesKept_proceed ht i false
  · exact ht

theorem lanesKept_withdraw (h : LanesKept s) (i : SlotId) : LanesKept (s.withdrawSlot i) := by
  unfold State.withdrawSlot
  split
  · exact lanesKept_proceed (lanesKept_giveOutcome (lanesKept_modifySlot h i _ rfl) i _) i false
  · exact h

theorem lanesKept_restore (h : LanesKept s) (i : SlotId) : LanesKept (s.restoreSlot i) := by
  unfold State.restoreSlot
  split
  · exact h
  · exact lanesKept_proceed (lanesKept_modifySlot h i _ rfl) i false

theorem lanes_conclusion : ConclusionKeeps AccountAndLanes where
  grant u i h mode c fits passed :=
    ⟨accountKept_conclusion.grant u i h.1 mode c fits passed, lanesKept_grant h.2 (queued_of_candidate h.1 c)⟩
  timer u h := ⟨accountKept_conclusion.timer u h.1, lanesKept_congr h.2 rfl rfl⟩
  mark u i h := ⟨accountKept_conclusion.mark u i h.1, lanesKept_mark h.2 i⟩
  condition u b h := ⟨accountKept_conclusion.condition u b h.1, lanesKept_congr h.2 rfl rfl⟩
  flag u h := ⟨accountKept_conclusion.flag u h.1, lanesKept_congr h.2 (by simp) (by simp)⟩

theorem lanes_events : EventsKeep (fun _ => AccountAndLanes) (fun _ => AccountAndLanes) := by
  have same : ∀ {s t : State}, AccountAndLanes s → AccountKept t → t.lanes = s.lanes → t.slots = s.slots →
      AccountAndLanes t := fun h account lanes slots => ⟨account, lanesKept_congr h.2 lanes slots⟩
  have A := accountKept_events
  refine {
    room := fun s h _ => h
    body := fun _ s h => h
    answer := fun s a h => same h (A.answer s a h.1) ?_ ?_
    conclusion := fun _ => lanes_conclusion
    plain := fun s i f h present free => ⟨A.plain s i f h.1 present free, lanesKept_plain h.2 free _ _ _ _ _⟩
    accept := fun s i f a h present ok => ⟨A.accept s i f a h.1 present ok, lanesKept_accept h.2 i _⟩
    openGroup := fun s g d f a h free => ⟨A.openGroup s g d f a h.1 free, lanesKept_openGroup h.2 g _⟩
    restartPending := fun s tag h busy => same h (A.restartPending s tag h.1 busy) ?_ ?_
    restart := fun s x h idle sent => ⟨A.restart s x h.1 idle sent, lanesKept_restart (lanesKept_congr h.2 rfl rfl)⟩
    kindMap := fun s m h => same h (A.kindMap s m h.1) ?_ ?_
    priorityMap := fun s m q y h => same h (A.priorityMap s m q y h.1) ?_ ?_
    profile := fun s k p entry h e => ⟨A.profile s k p entry h.1 e, lanesKept_profile h.2 k p⟩
    slotEntry := fun s i zone profile shed h rest => ⟨A.slotEntry s i zone profile shed h.1 rest,
      lanesKept_proceed (lanesKept_modifySlot h.2 i _ rfl) i false⟩
    ceilings := fun s m b entry h e => same h (A.ceilings s m b entry h.1 e) ?_ ?_
    stagger := fun s n h e => same h (A.stagger s n h.1 e) ?_ ?_
    configureNode := fun s n c entry h e => ⟨A.configureNode s n c entry h.1 e, lanesKept_zones.unit.configureNode n c h.2⟩
    rule := fun s k r entry h e => same h (A.rule s k r entry h.1 e) ?_ ?_
    classStored := fun s c zones unload freeze hold entry h e off =>
      same h (A.classStored s c zones unload freeze hold entry h.1 e off) ?_ ?_
    classUpdated := fun s c zones unload freeze hold entry h e on =>
      ⟨A.classUpdated s c zones unload freeze hold entry h.1 e on,
        lanesKept_zones.zones _ _ _ (lanesKept_zones.modifyClass h.2 c _)⟩
    timing := fun s m entry h e => same h (A.timing s m entry h.1 e) ?_ ?_
    enterRun := fun s h mode => ⟨A.enterRun s h.1 mode, lanesKept_enterRun h.2⟩
    enterConfig := fun s h quiet => same h (A.enterConfig s h.1 quiet) ?_ ?_
    clearFault := fun s i h => ⟨A.clearFault s i h.1, lanesKept_clearFault h.2 i⟩
    withdraw := fun s i h => ⟨A.withdraw s i h.1, lanesKept_withdraw h.2 i⟩
    restore := fun s i h => ⟨A.restore s i h.1, lanesKept_restore h.2 i⟩
    setEvents := fun s flags enables h => same h (A.setEvents s flags enables h.1) ?_ ?_
    supplyLine := fun s level e h => same h (A.supplyLine s level e h.1) ?_ ?_
    source := fun s h => same h (A.source s h.1) ?_ ?_
    presenceInput := fun s i level h => ⟨A.presenceInput s i level h.1, lanesKept_modifySlot h.2 i _ rfl⟩
    presenceGained := fun s i h running low => ⟨A.presenceGained s i h.1 running low,
      lanesKept_presenceGained h.2 (by rw [empty_of_debouncing h.1 running low]; rfl) _ _⟩
    presenceLost := fun s i h running high => ⟨A.presenceLost s i h.1 running high, lanesKept_presenceLost h.2 i _ _⟩
    completion := fun s i tag o payload h =>
      ⟨A.completion s i tag o payload h.1, lanesKept_takeCompletion h.2 i tag o payload⟩
    deadline := fun s i tag h => ⟨A.deadline s i tag h.1, lanesKept_takeDeadline h.2 i tag⟩
    selfParkCounted := fun s i h => ⟨A.selfParkCounted s i h.1, lanesKept_modifySlot h.2 i _ rfl⟩
    selfParked := fun s i h st => ⟨A.selfParked s i h.1 st, lanesKept_selfParked h.2 st⟩
    carrierFault := fun s i code h on =>
      ⟨A.carrierFault s i code h.1 on, lanesKept_enterFault (h.2.but i) (laneKept_iff.1 (h.2 i)).1 _⟩
    holdExpiry := fun s i h =>
      ⟨A.holdExpiry s i h.1, lanesKept_proceed (lanesKept_modifySlot h.2 i _ rfl) i false⟩
    deadlineDropped := fun s i h => ⟨A.deadlineDropped s i h.1, lanesKept_modifySlot h.2 i _ rfl⟩
    waitExpired := fun s i a h e waits => ⟨A.waitExpired s i a h.1 e waits,
      lanesKept_proceed (lanesKept_modifySlot (lanesKept_giveOutcome h.2 i _) i _ rfl) i false⟩
    staggerExpiry := fun s h => same h (A.staggerExpiry s h.1) ?_ ?_
    sample := fun s n node seq x y z h =>
      ⟨A.sample s n node seq x y z h.1, lanesKept_zones.unit.takeSample n node seq x y z h.2⟩
    silence := fun s n h e => ⟨A.silence s n h.1 e, lanesKept_zones.unit.silence n h.2⟩
    classClears := fun s c h on free => ⟨A.classClears s c h.1 on free, lanesKept_zones.clear h.2 c⟩
    classWaits := fun s c h on held => same h (A.classWaits s c h.1 on held) ?_ ?_ }
  all_goals simp

end

/-- Settles O51, with the account, which says that a granted slot waited and that a carrier is gained in an empty bay. -/
theorem stepKeepsLanes : Obligations.StepKeepsLanes := by
  intro s t account lanes e
  refine (lanes_events.step (fun u q hu => ?_) (fun u q hu => ?_) (fun u v hu e => ?_) (fun inputs line q => ?_)
    ⟨account, lanes⟩ e).2
  · exact ⟨accountKept_congr hu.1 rfl rfl rfl rfl, lanesKept_congr hu.2 rfl rfl⟩
  · exact ⟨accountKept_congr hu.1 (by simp) (by simp) (by simp) (by simp), lanesKept_congr hu.2 (by simp) (by simp)⟩
  · refine lanes_events.answerSentEvent hu e (fun _ _ => ?_) fun x _ => ?_
    · exact ⟨accountKept_congr hu.1 (by simp) (by simp) (by simp) (by simp), lanesKept_congr hu.2 (by simp) (by simp)⟩
    · exact ⟨accountKept_restart (accountKept_congr hu.1 rfl rfl rfl rfl), lanesKept_restart (lanesKept_congr hu.2 rfl rfl)⟩
  · exact ⟨accountKept_congr (accountKept_powerOn inputs line) rfl rfl rfl rfl,
      lanesKept_congr (lanesKept_powerOn inputs line) rfl rfl⟩

end Sys2Proof.Machine
end

section
/-! PROOFS. Requests, plain ops and groups: what every event leaves of what is said of the requests in progress and of their
answers alone (R4, R62, R137, R140). -/

namespace Sys2Proof.Machine

/-- The origin of the slot's active request. -/
def SlotRecord.asker (r : SlotRecord) : Option Origin := r.active.map (·.origin)

/-! ### The operations that leave requests and plain ops alone -/

section
variable (s : State) (i j : SlotId)

@[simp] theorem State.proceed_active (onset : Bool) : ((s.proceed i onset).slot j).active = (s.slot j).active := by
  by_cases same : j = i
  · subst same; rw [(s.proceed_moved j onset).1]
  · rw [(s.proceed_other same onset).1]

@[simp] theorem State.proceed_plain (onset : Bool) : ((s.proceed i onset).lane j).plain = (s.lane j).plain := by
  by_cases same : j = i
  · subst same; rw [(s.proceed_moved j onset).2]
  · rw [(s.proceed_other same onset).2]

@[simp] theorem State.enterState_active (st : SlotState) : ((s.enterState i st).slot j).active = (s.slot j).active := by
  rw [State.enterState_slot]; split <;> simp_all

theorem State.ask_plain (op : GovernedOp) : ((s.ask i op).lane j).plain = (s.lane j).plain := by
  rw [State.ask_lane]
  split
  · rename_i same; rw [same]; exact ((s.lane i).ask_frame op _ _).2.1
  · rfl

@[simp] theorem State.grant_active : ((s.grant i).slot j).active = (s.slot j).active := by
  rw [State.grant_slot]; split <;> simp_all

@[simp] theorem State.grant_plain : ((s.grant i).lane j).plain = (s.lane j).plain := by
  rw [State.grant_lane]
  split
  · rename_i same; rw [same]; exact ((s.lane i).ask_frame .spin _ _).2.1
  · rfl

end

/-- What the requests' origins, the plain ops, the groups and the trunk port alone decide, and what the outcome of a
request keeps. -/
structure RequestsKeep (P : State → Prop) : Prop where
  congr : ∀ s t : State, P s → t.trunk = s.trunk → t.groups = s.groups →
    (∀ j, (t.slot j).asker = (s.slot j).asker) → (∀ j, (t.lane j).plain.isSome = (s.lane j).plain.isSome) → P t
  outcome : ∀ s i code, P s → P (s.giveOutcome i code)
  /-- the plain op of a lane ends and is answered -/
  plainEnds : ∀ s i f a, P s → (s.lane i).plain.isSome = true → (f (s.lane i)).plain = none →
    P ((s.modifyLane i f).answerOwed a)

namespace RequestsKeep

section
variable {P : State → Prop} {s : State} {i : SlotId}

theorem same (K : RequestsKeep P) {t : State} (h : P s) (trunk : t.trunk = s.trunk) (groups : t.groups = s.groups)
    (slots : t.slots = s.slots) (lanes : t.lanes = s.lanes) : P t :=
  K.congr s t h trunk groups (fun j => by unfold State.slot; rw [slots]) fun j => by unfold State.lane; rw [lanes]

theorem modifySlot (K : RequestsKeep P) (h : P s) (i : SlotId) (f : SlotRecord → SlotRecord)
    (asker : (f (s.slot i)).asker = (s.slot i).asker) : P (s.modifySlot i f) := by
  refine K.congr s _ h rfl rfl (fun j => ?_) fun j => by simp
  by_cases same : j = i
  · subst same; rw [State.slot_modifySlot_self, asker]
  · rw [State.slot_modifySlot_of_ne _ same]

theorem modifyLane (K : RequestsKeep P) (h : P s) (i : SlotId) (f : LaneRecord → LaneRecord)
    (plain : (f (s.lane i)).plain = (s.lane i).plain) : P (s.modifyLane i f) := by
  refine K.congr s _ h rfl rfl (fun j => by simp) fun j => ?_
  by_cases same : j = i
  · subst same; rw [State.lane_modifyLane_self, plain]
  · rw [State.lane_modifyLane_of_ne _ same]

theorem proceed (K : RequestsKeep P) (h : P s) (i : SlotId) (onset : Bool) : P (s.proceed i onset) :=
  K.congr s _ h (by simp) (by simp) (fun j => by simp [SlotRecord.asker]) fun j => by simp

theorem enterState (K : RequestsKeep P) (h : P s) (i : SlotId) (st : SlotState) : P (s.enterState i st) :=
  K.congr s _ h (by simp) (by simp) (fun j => by simp [SlotRecord.asker]) fun j => by simp

theorem completeIfReached (K : RequestsKeep P) (h : P s) (i : SlotId) : P (s.completeIfReached i) := by
  rcases s.completeIfReached_cases i with ⟨e, _⟩ | ⟨e, _⟩ <;> rw [e]
  · exact h
  · exact K.outcome s i _ h

theorem arrive (K : RequestsKeep P) (h : P s) (i : SlotId) (st : SlotState) : P (s.arrive i st) :=
  K.proceed (K.completeIfReached (K.enterState h i st) i) i false

theorem enterFault (K : RequestsKeep P) (h : P s) (i : SlotId) (cause : FaultCause) : P (s.enterFault i cause) := by
  refine K.outcome _ i _ (K.same (s := ((s.enterState i .fault).modifyLane i LaneRecord.abandonGoverned).modifySlot i
    fun r => { r with faultCause := some cause, shedMark := false }) ?_ rfl rfl rfl rfl)
  exact K.modifySlot (K.modifyLane (K.enterState h i _) i _ (by simp)) i _ rfl

theorem takeOutcome (K : RequestsKeep P) (h : P s) (i : SlotId) (op : GovernedOp) (o : OpOutcome) (report : Option Byte) :
    P (s.takeOutcome i op o report) := by
  have taken := takeOutcome_taken s i op o report
  generalize s.takeOutcome i op o report = t at taken ⊢
  cases taken with
  | unnamed _ => exact h
  | failed cause _ => exact K.enterFault h i cause
  | spun _ _ => exact K.arrive h i _
  | loaded _ _ => exact K.arrive h i _
  | unloaded _ _ => exact K.arrive h i _
  | stopped _ _ => exact K.arrive (K.modifySlot h i _ rfl) i _
  | reported rest _ _ _ _ => exact K.arrive (K.modifySlot h i _ (by split <;> rfl)) i _

theorem settleResidual_plain (r : LaneRecord) (g : GovernedRecord) (o : OpOutcome) (now : Nat)
    (duration : GovernedOp → Nat) : (r.settleResidual g o now duration).plain = r.plain := by
  unfold LaneRecord.settleResidual
  dsimp only
  split <;> simp [LaneRecord.issueGoverned]

theorem settleGoverned (K : RequestsKeep P) (h : P s) (i : SlotId) (g : GovernedRecord) (o : OpOutcome)
    (report : Option Byte) : P (s.settleGoverned i g o report) := by
  unfold State.settleGoverned
  split
  · exact K.takeOutcome (K.modifyLane h i _ rfl) i _ _ _
  · exact K.modifyLane h i _ rfl
  · exact K.modifyLane h i _ (settleResidual_plain ..)

theorem settlePreempting (K : RequestsKeep P) (h : P s) (i : SlotId) (p : PreemptingRecord) (o : OpOutcome)
    (report : Option Byte) : P (s.settlePreempting i p o report) :=
  K.takeOutcome (K.modifyLane h i _ rfl) i _ _ _

theorem settlePlain (K : RequestsKeep P) (h : P s) {p : PlainRecord} (plain : (s.lane i).plain = some p) (o : OpOutcome)
    (payload : List Byte) : P (s.settlePlain i p o payload) :=
  K.plainEnds s i _ _ h (by simp [plain]) rfl

theorem takeCompletion (K : RequestsKeep P) (h : P s) (i : SlotId) (tag : Byte) (o : CompletionOutcome)
    (payload : List Byte) : P (s.takeCompletion i tag o payload) := by
  unfold State.takeCompletion
  rcases (s.lane i).find_cases tag with ⟨g, -, -, found⟩ | ⟨p, -, -, found⟩ | ⟨p, plain, -, found⟩ | ⟨-, found⟩ <;>
    rw [found]
  · exact K.settleGoverned h i _ _ _
  · exact K.settlePreempting h i _ _ _
  · exact K.settlePlain h plain _ _
  · exact K.modifySlot (K.modifyLane h i _ rfl) i _ rfl

theorem takeDeadline (K : RequestsKeep P) (h : P s) (i : SlotId) (tag : Byte) : P (s.takeDeadline i tag) := by
  have retire : ∀ {u : State}, P u → P (u.retire i tag) := fun hu => K.modifyLane hu i _ rfl
  unfold State.takeDeadline
  rcases (s.lane i).find_cases tag with ⟨g, -, -, found⟩ | ⟨p, -, -, found⟩ | ⟨p, plain, -, found⟩ | ⟨-, found⟩ <;>
    rw [found] <;> dsimp only
  · split
    · exact K.settleGoverned (retire h) i _ _ _
    · exact h
  · split
    · exact retire (K.settlePreempting h i _ _ _)
    · exact h
  · split
    · exact K.settlePlain (retire h) (by simpa [State.retire] using plain) _ _
    · exact h
  · exact h

theorem mark (K : RequestsKeep P) (h : P s) (i : SlotId) : P (s.shedMarkSlot i) :=
  K.proceed (K.outcome _ i _ (K.modifySlot h i _ rfl)) i false

theorem conclusion (K : RequestsKeep P) : ConclusionKeeps P where
  grant u i h _ _ _ _ := K.congr u _ h (by simp) (by simp) (fun j => by simp [SlotRecord.asker]) fun j => by simp
  timer u h := K.same h rfl rfl rfl rfl
  mark u i h := K.mark h i
  condition u b h := K.same h rfl rfl rfl rfl
  flag u h := K.same h rfl rfl rfl rfl

theorem zones (K : RequestsKeep P) : ZonesReportKept P where
  congr _ _ h slots lanes _ _ _ trunk groups _ _ := K.same h trunk groups slots lanes
  zones s zs onset h := State.updateZones_induct s zs onset (K.same h rfl rfl rfl rfl) fun _ i hu => K.proceed hu i onset

theorem laneGone (K : RequestsKeep P) (h : P s) (i : SlotId) : P (s.laneGone i) := by
  unfold State.laneGone
  dsimp only
  cases plain : (s.lane i).plain with
  | none => exact K.modifyLane h i _ (by simp [plain])
  | some p => exact K.plainEnds s i _ _ h (by simp [plain]) (by simp)

theorem presenceGained (K : RequestsKeep P) (h : P s) (i : SlotId) : P (s.presenceGained i) :=
  K.arrive (K.modifySlot h i _ rfl) i _

/-- A debounced presence, before its slot takes the change. -/
theorem presence (K : RequestsKeep P) (h : P s) (i : SlotId) : P ((s.modifySlot i fun r =>
    { r with present := seated r.input, debounceExpiry := none }).setFlag .presenceChange) := by
  have seen := K.modifySlot h i (fun r => { r with present := seated r.input, debounceExpiry := none }) rfl
  exact K.same seen rfl rfl rfl rfl

theorem presenceLost (K : RequestsKeep P) (h : P s) (i : SlotId) : P (s.presenceLost i) := by
  have left : P (((s.laneGone i).giveOutcome i .gone).dequeue i) :=
    K.same (K.outcome _ i _ (K.laneGone h i)) rfl rfl rfl rfl
  unfold State.presenceLost
  exact K.modifySlot (K.enterState left i .empty) i _ rfl

theorem accept (K : RequestsKeep P) {a : ActiveRequest}
    (placed : P (((s.giveOutcome i .superseded).reserveFor a.origin).modifySlot i fun r =>
      { r with active := some a, standing := a.target, lastPriority := some a.priority })) : P (s.accept i a) :=
  K.completeIfReached (K.proceed placed i false) i

theorem enterRun (K : RequestsKeep P) (h : P s) : P ((s.setMode .run).forSlots allSlots fun i t =>
    if (t.slot i).state = .stopped then t.proceed i false else t) := by
  refine State.forSlots_induct _ (K.same h rfl rfl rfl rfl) fun i _ t ht => ?_
  split
  · exact K.proceed ht i false
  · exact ht

theorem clearFault (K : RequestsKeep P) (h : P s) (i : SlotId) : P (s.clearFaultOf i) := by
  unfold State.clearFaultOf
  split
  · exact K.arrive (K.modifySlot h i _ rfl) i _
  · exact h

theorem withdraw (K : RequestsKeep P) (h : P s) (i : SlotId) : P (s.withdrawSlot i) := by
  unfold State.withdrawSlot
  split
  · exact K.proceed (K.outcome _ i _ (K.modifySlot h i _ rfl)) i false
  · exact h

theorem restore (K : RequestsKeep P) (h : P s) (i : SlotId) : P (s.restoreSlot i) := by
  unfold State.restoreSlot
  split
  · exact h
  · exact K.proceed (K.modifySlot h i _ rfl) i false

theorem selfParked (K : RequestsKeep P) (h : P s) (i : SlotId) :
    P (((s.startSelfPark i).setFlag .selfPark).arrive i .parked) := by
  have started : P (s.startSelfPark i) := by
    unfold State.startSelfPark
    split
    · exact K.modifySlot h i _ rfl
    · exact h
  have flagged : P ((s.startSelfPark i).setFlag .selfPark) := K.same started rfl rfl rfl rfl
  exact K.arrive flagged i _

theorem profile (K : RequestsKeep P) (h : P s) (k : Fin 8) (p : DrawProfile) :
    P (({ s with profiles := s.profiles.set k.val p k.isLt } : State).rederiveProfile k) := by
  refine K.congr s _ h (by simp) (by simp) (fun j => ?_) fun j => by simp
  rw [State.rederiveProfile_slot]
  unfold State.rederived
  split <;> simp [SlotRecord.asker]

end

/-- What is left to show of the requests' side of each event, once with a free egress entry (`true`) and once without. -/
structure Events (P : Bool → State → Prop) : Prop where
  requests : ∀ b, RequestsKeep (P b)
  room : ∀ s, P false s → s.freeEntries ≠ 0 → P true s
  weaken : ∀ s, P true s → P false s
  answer : ∀ s a, P true s → P false (s.answer a)
  plain : ∀ s i (f : LaneRecord → LaneRecord), P true s → (s.lane i).plain = none → (f (s.lane i)).plain.isSome = true →
    P false ((s.takeReservation).modifyLane i f)
  accept : ∀ s i (f : SlotRecord → SlotRecord), P true s → (s.slot i).asker = none →
    (f (s.slot i)).asker = some .controller → P false ((s.takeReservation).modifySlot i f)
  openGroup : ∀ s g d f a, P true s → s.group g = none → P false (s.openGroup g (s.openedRecord d f a))
  restartPending : ∀ s tag, P false s → s.trunk.transmitting = true →
    P false { s with trunk := { s.trunk with restartPending := some tag } }
  restart : ∀ s x, P false s → P true ({ s with trunk := x } : State).restartRecords.sendQueries

theorem Events.acceptController {P : Bool → State → Prop} (E : Events P) {s : State} (h : P true s) (i : SlotId)
    (a : ActiveRequest) (controller : a.origin = .controller) : P false (s.accept i a) := by
  refine (E.requests false).accept ?_
  rw [controller]
  refine E.accept _ i _ ((E.requests true).outcome s i _ h) ?_ (by simp [SlotRecord.asker, controller])
  rw [State.giveOutcome_slot, if_pos rfl]
  rfl

theorem Events.keep {P : Bool → State → Prop} (E : Events P) : EventsKeep P P := by
  have K := E.requests
  refine {
    room := E.room
    body := fun _ s h => h
    answer := E.answer
    conclusion := fun b => (K b).conclusion
    plain := fun s i f h _ free => E.plain s i _ h free rfl
    accept := fun s i f a h _ _ => E.acceptController h i _ rfl
    openGroup := E.openGroup
    restartPending := E.restartPending
    restart := fun s x h _ _ => E.restart s x h
    kindMap := fun s m h => (K _).same h ?_ ?_ ?_ ?_
    priorityMap := fun s m q y h => (K _).same h ?_ ?_ ?_ ?_
    profile := fun s k p entry h _ => (K _).profile h k p
    slotEntry := fun s i zone profile shed h rest => (K _).proceed ((K _).modifySlot h i _ ?_) i false
    ceilings := fun s m b entry h _ => (K _).same h ?_ ?_ ?_ ?_
    stagger := fun s n h _ => (K _).same h ?_ ?_ ?_ ?_
    configureNode := fun s n c entry h _ => (K _).zones.unit.configureNode n c h
    rule := fun s k r entry h _ => (K _).same h ?_ ?_ ?_ ?_
    classStored := fun s c zones unload freeze hold entry h _ _ => (K _).same h ?_ ?_ ?_ ?_
    classUpdated := fun s c zones unload freeze hold entry h _ _ =>
      (K _).zones.zones _ _ _ ((K _).zones.modifyClass h c _)
    timing := fun s m entry h _ => (K _).same h ?_ ?_ ?_ ?_
    enterRun := fun s h _ => (K _).enterRun h
    enterConfig := fun s h _ => (K _).same h ?_ ?_ ?_ ?_
    clearFault := fun s i h => (K _).clearFault h i
    withdraw := fun s i h => (K _).withdraw h i
    restore := fun s i h => (K _).restore h i
    setEvents := fun s flags enables h => (K _).same h ?_ ?_ ?_ ?_
    supplyLine := fun s level e h => (K _).same h ?_ ?_ ?_ ?_
    source := fun s h => (K _).same h ?_ ?_ ?_ ?_
    presenceInput := fun s i level h => (K _).modifySlot h i _ ?_
    presenceGained := fun s i h _ _ => (K _).presenceGained ((K _).presence h i) i
    presenceLost := fun s i h _ _ => (K _).presenceLost ((K _).presence h i) i
    completion := fun s i tag o payload h => (K _).takeCompletion h i tag o payload
    deadline := fun s i tag h => (K _).takeDeadline h i tag
    selfParkCounted := fun s i h => (K _).modifySlot h i _ ?_
    selfParked := fun s i h _ => (K _).selfParked h i
    carrierFault := fun s i code h _ => (K _).enterFault h i _
    holdExpiry := fun s i h => (K _).proceed ((K _).modifySlot h i _ ?_) i false
    deadlineDropped := fun s i h => (K _).modifySlot h i _ ?_
    waitExpired := fun s i a h _ _ => (K _).proceed ((K _).modifySlot ((K _).outcome _ i _ h) i _ ?_) i false
    staggerExpiry := fun s h => (K _).same h ?_ ?_ ?_ ?_
    sample := fun s n node seq x y z h => (K _).zones.unit.takeSample n node seq x y z h
    silence := fun s n h _ => (K _).zones.unit.silence n h
    classClears := fun s c h _ _ => (K _).zones.clear h c
    classWaits := fun s c h _ _ => (K _).same h ?_ ?_ ?_ ?_ }
  all_goals simp [SlotRecord.asker, SlotRecord.withoutDeadline, Function.comp_def]

/-- Every step, but for the three commands and the tick that touch the trunk port or every record themselves. -/
theorem Events.step {P : Bool → State → Prop} (E : Events P) {s t : State} (h : P false s) (e : step s = .next t)
    (tick : ∀ u, P false u → P false u.startTransmission)
    (sent : ∀ u, P false u → u.startTransmission.trunk.transmitting = true → u.trunk.restartPending = none →
      P false (u.startTransmission.headSent.sendSymbols.refreshFlow).startTransmission)
    (powerOn : ∀ inputs line, P false (State.powerOn inputs line)) : P false t := by
  have K := E.requests false
  refine E.keep.step (fun u q hu => K.same hu rfl rfl rfl rfl) (fun u q hu => ?_) (fun u v hu e => ?_)
    (fun inputs line q => K.same (powerOn inputs line) rfl rfl rfl rfl) h e
  · exact K.same (tick { u with now := u.now + 1 } (K.same hu rfl rfl rfl rfl)) rfl rfl rfl rfl
  · exact E.keep.answerSentEvent hu e (sent u hu) fun x _ => E.restart u x hu

end RequestsKeep

end Sys2Proof.Machine
end

section
/-! PROOFS. Every step keeps the group table (R4, R140, R141, R145, R148, R150). -/

namespace Sys2Proof.Machine

/-! ### One record -/

section
variable {r : GroupRecord} {i : SlotId}

theorem GroupKept.withOutcome (h : GroupKept r) (m : i ∈ r.remaining) (code : AnswerCode)
    (left : (r.withOutcome i code).remaining ≠ []) : GroupKept (r.withOutcome i code) := by
  obtain ⟨remaining, fanOut, figures⟩ := r.withOutcome_figures i code m
  refine ⟨figures.trans (h.figures.trans fanOut.symm), fanOut ▸ h.members, left, ?_⟩
  have taken : (r.remaining ++ r.results.map (·.1)).Perm (i :: (r.remaining.erase i ++ r.results.map (·.1))) :=
    (List.perm_cons_erase m).append_right _
  have once := taken.nodup_iff.1 h.once
  rw [remaining]
  unfold GroupRecord.withOutcome
  split
  · exact (List.nodup_cons.1 once).2
  · rw [List.map_append, List.map_singleton, ← List.append_assoc]
    exact (List.perm_append_singleton i _).nodup_iff.2 once

theorem GroupKept.mem_withOutcome (h : GroupKept r) (m : i ∈ r.remaining) (code : AnswerCode) (j : SlotId) :
    j ∈ (r.withOutcome i code).remaining ↔ j ≠ i ∧ j ∈ r.remaining := by
  rw [(r.withOutcome_figures i code m).1]
  exact (List.nodup_append.1 h.once).1.mem_erase_iff

/-- The place of a record in the table once a member's outcome has reached it: free where nothing remains. -/
def GroupRecord.place (r : GroupRecord) : Option GroupRecord := if r.remaining = [] then none else some r

theorem State.closeIfEmpty_group (s : State) (g k : GroupId) :
    (s.closeIfEmpty g).group k = if k = g then (s.group g).bind GroupRecord.place else s.group k := by
  unfold State.closeIfEmpty
  cases open_ : s.group g with
  | none => by_cases own : k = g <;> simp [own, open_]
  | some r =>
    by_cases empty : r.remaining = [] <;> by_cases own : k = g <;>
      simp [GroupRecord.place, empty, own, open_]

theorem State.recordOutcome_group {s : State} {g : GroupId} (open_ : s.group g = some r) (m : i ∈ r.remaining)
    (code : AnswerCode) (k : GroupId) : (s.recordOutcome g i code).group k =
      if k = g then (r.withOutcome i code).place else s.group k := by
  unfold State.recordOutcome
  rw [open_]
  dsimp only
  rw [if_pos m, State.closeIfEmpty_group]
  by_cases own : k = g <;> simp [own]

end

/-! ### The table while a group's fan-out is taken -/

/-- Slot `i` belongs to group `k`, as its active request or as a member of group `g` that waits for its turn. -/
def belongs (g : GroupId) (p : List SlotId) (s : State) (k : GroupId) (i : SlotId) : Prop :=
  (s.slot i).asker = some (.group k) ∨ k = g ∧ i ∈ p

/-- The group table while the members `p` of group `g` have not yet been taken. -/
structure GroupsWaiting (g : GroupId) (p : List SlotId) (s : State) : Prop where
  records : ∀ k r, s.group k = some r → GroupKept r
  members : ∀ k i, (∃ r, s.group k = some r ∧ i ∈ r.remaining) ↔ belongs g p s k i
  waiting : ∀ i ∈ p, (s.slot i).asker ≠ some (.group g)

theorem asker_eq_group {r : SlotRecord} {g : GroupId} :
    r.asker = some (.group g) ↔ ∃ a, r.active = some a ∧ a.origin = .group g := by
  simp [SlotRecord.asker]

theorem groupsKept_iff {s : State} (g : GroupId) : GroupsKept s ↔ GroupsWaiting g [] s := by
  refine ⟨fun h => ⟨h.records, fun k i => ?_, by simp⟩, fun h => ⟨h.records, fun k i => ?_⟩⟩
  · rw [h.members k i]; simp [belongs, asker_eq_group]
  · rw [h.members k i]; simp [belongs, asker_eq_group]

section
variable {g : GroupId} {p q : List SlotId} {s t : State} {i : SlotId}

theorem State.group_congr (groups : t.groups = s.groups) (k : GroupId) : t.group k = s.group k := by
  unfold State.group; rw [groups]

/-- The records stay and so does who belongs to them. -/
theorem GroupsWaiting.congr (h : GroupsWaiting g p s) (group : ∀ k, t.group k = s.group k)
    (same : ∀ k j, belongs g q t k j ↔ belongs g p s k j) (waiting : ∀ j ∈ q, (t.slot j).asker ≠ some (.group g)) :
    GroupsWaiting g q t :=
  ⟨fun k r e => h.records k r (group k ▸ e), fun k j => by rw [group, h.members, same], waiting⟩

/-- A member's outcome reaches its record, which it leaves. -/
theorem GroupsWaiting.leaves (h : GroupsWaiting g p s) {k : GroupId} {r : GroupRecord} (open_ : s.group k = some r)
    (m : i ∈ r.remaining) (code : AnswerCode)
    (groups : ∀ x, t.group x = if x = k then (r.withOutcome i code).place else s.group x)
    (left : ∀ x j, belongs g q t x j ↔ ¬(x = k ∧ j = i) ∧ belongs g p s x j)
    (waiting : ∀ j ∈ q, (t.slot j).asker ≠ some (.group g)) : GroupsWaiting g q t := by
  have kept := h.records k r open_
  refine ⟨fun x r' e => ?_, fun x j => ?_, waiting⟩
  · rw [groups] at e
    split at e
    · unfold GroupRecord.place at e
      split at e
      · cases e
      · rename_i some_; cases e; exact kept.withOutcome m code some_
    · exact h.records x r' e
  · rw [left, ← h.members, groups]
    by_cases own : x = k
    · subst own
      have after : (∃ r', (r.withOutcome i code).place = some r' ∧ j ∈ r'.remaining) ↔
          j ∈ (r.withOutcome i code).remaining := by
        unfold GroupRecord.place
        split <;> simp_all
      rw [if_pos rfl, after, kept.mem_withOutcome m]
      simp [open_]
    · simp [own]

/-- The outcome of a slot's active request, if it has one, leaves the table kept. -/
theorem GroupsWaiting.outcome (h : GroupsWaiting g p s) (i : SlotId) (code : AnswerCode) :
    GroupsWaiting g p (s.giveOutcome i code) := by
  have asker : ∀ j, ((s.giveOutcome i code).slot j).asker = if j = i then none else (s.slot j).asker := fun j => by
    rw [State.giveOutcome_slot]; split <;> simp [SlotRecord.asker]
  have waiting : ∀ j ∈ p, ((s.giveOutcome i code).slot j).asker ≠ some (.group g) := fun j m => by
    rw [asker]
    split
    · simp
    · exact h.waiting j m
  cases active : (s.slot i).active with
  | none => rwa [s.giveOutcome_of_none active]
  | some a =>
    cases origin : a.origin with
    | controller =>
      refine h.congr (State.group_congr (s.giveOutcome_controller active origin code).2.2) (fun k j => ?_) waiting
      unfold belongs
      rw [asker]
      split
      · rename_i own; subst own; simp [SlotRecord.asker, active, origin]
      · rfl
    | group k =>
      have own : (s.slot i).asker = some (.group k) := by simp [SlotRecord.asker, active, origin]
      obtain ⟨r, open_, m⟩ := (h.members k i).2 (.inl own)
      refine h.leaves open_ m code (fun x => ?_) (fun x j => ?_) waiting
      · rw [s.giveOutcome_group active origin]
        rw [State.recordOutcome_group (s := s.modifySlot i fun r => { r with active := none }) (by simpa using open_) m]
        simp
      · unfold belongs
        rw [asker]
        by_cases same : j = i
        · subst same
          by_cases here : x = k
          · subst here
            have new : ¬(x = g ∧ j ∈ p) := fun ⟨e, m⟩ => h.waiting j m (e ▸ own)
            simp [own, new]
          · simp [own, here, Ne.symm here]
        · simp [same]

theorem groupsWaiting_requests (g : GroupId) (p : List SlotId) : RequestsKeep (GroupsWaiting g p) where
  congr s t h _ groups asker _ := h.congr (State.group_congr groups) (fun k j => by unfold belongs; rw [asker]) fun j m => by
    rw [asker]; exact h.waiting j m
  outcome s i code h := h.outcome i code
  plainEnds s i f a h _ _ := h.congr (fun k => by simp) (fun k j => by simp [belongs]) fun j m => by
    simpa using h.waiting j m

/-! ### The fan-out (R144, R145) -/

/-- One member's turn: it is refused, or its request becomes the slot's. -/
theorem GroupsWaiting.takeMember (h : GroupsWaiting g (i :: p) s) (first : i ∉ p) (r : GroupRecord) :
    GroupsWaiting g p (s.takeMember g r i) := by
  obtain ⟨record, open_, m⟩ := (h.members g i).2 (.inr ⟨rfl, List.mem_cons_self⟩)
  unfold State.takeMember
  split
  · rename_i code _
    refine h.leaves open_ m code (State.recordOutcome_group open_ m code) (fun x j => ?_) fun j m => ?_
    · have same : ((s.recordOutcome g i code).slot j) = s.slot j := by simp [State.slot]
      unfold belongs
      rw [same]
      by_cases own : j = i
      · subst own
        have new := h.waiting j List.mem_cons_self
        by_cases here : x = g
        · subst here; simp [new, first]
        · simp [here]
      · simp [own]
    · have same : ((s.recordOutcome g i code).slot j) = s.slot j := by simp [State.slot]
      rw [same]
      exact h.waiting j (List.mem_cons_of_mem _ m)
  · refine (groupsWaiting_requests g p).accept ?_
    have given := h.outcome i .superseded
    have asker : ((s.giveOutcome i .superseded).slot i).asker = none := by
      rw [State.giveOutcome_slot, if_pos rfl]; rfl
    refine given.congr (fun k => by simp) (fun k j => ?_) fun j m => ?_
    · have mine : ∀ x : SlotRecord, ({ x with
          active := some (s.memberRequest g r i), standing := (s.memberRequest g r i).target
          lastPriority := some (s.memberRequest g r i).priority } : SlotRecord).asker = some (.group g) := fun _ => rfl
      unfold belongs
      by_cases own : j = i
      · subst own
        rw [State.slot_modifySlot_self, mine, asker]
        simpa [first] using eq_comm
      · simp [own, State.memberRequest, State.reserveFor]
    · have other : j ≠ i := fun e => first (e ▸ m)
      simpa [other, State.memberRequest, State.reserveFor] using given.waiting j (List.mem_cons_of_mem _ m)

theorem GroupsWaiting.takeMembers (r : GroupRecord) (h : GroupsWaiting g p s) (once : p.Nodup) :
    GroupsWaiting g [] (s.forSlots p fun i t => t.takeMember g r i) := by
  induction p generalizing s with
  | nil => exact h
  | cons i p ih =>
    obtain ⟨first, once⟩ := List.nodup_cons.1 once
    exact ih (h.takeMember first r) once

theorem GroupsWaiting.closeIfEmpty (h : GroupsWaiting g [] s) : GroupsWaiting g [] (s.closeIfEmpty g) := by
  refine h.congr (fun k => ?_) (fun k j => by simp [belongs, State.slot]) (by simp)
  rw [State.closeIfEmpty_group]
  split
  · rename_i own
    subst own
    cases open_ : s.group k with
    | none => rfl
    | some r => simp [GroupRecord.place, (h.records k r open_).open_]
  · rfl

theorem State.members_nodup (s : State) (d : GroupDest) : (s.members d).Nodup := by
  cases d with
  | all => exact List.nodup_finRange 24
  | zone z =>
    unfold State.members
    exact List.Nodup.filter _ (List.nodup_finRange 24)

theorem State.members_length (s : State) (d : GroupDest) : (s.members d).length ≤ 24 := by
  cases d with
  | all => exact le_of_eq List.length_finRange
  | zone z => exact (List.length_filter_le _ _).trans (le_of_eq List.length_finRange)

theorem GroupsWaiting.opened (h : GroupsWaiting g [] s) (free : s.group g = none) {r : GroupRecord} (kept : GroupKept r) :
    GroupsWaiting g r.remaining ((s.takeReservation).setGroup g (some r)) := by
  have same : ∀ j, ((s.takeReservation).setGroup g (some r)).slot j = s.slot j := fun j => by simp
  have unused : ∀ j, (s.slot j).asker ≠ some (.group g) := fun j own => by
    obtain ⟨r, open_, -⟩ := (h.members g j).2 (.inl own)
    simp [free] at open_
  refine ⟨fun k x e => ?_, fun k j => ?_, fun j _ => by rw [same]; exact unused j⟩
  · rw [State.group_setGroup] at e
    split at e
    · cases e; exact kept
    · exact h.records k x (by simpa using e)
  · unfold belongs
    rw [same]
    by_cases own : k = g
    · subst own
      simp [unused j]
    · have before := h.members k j
      simpa [own, belongs] using before

theorem groupsKept_openGroup (h : GroupsKept s) (free : s.group g = none) (d : GroupDest) (f : FrameBody) (a : Action) :
    GroupsKept (s.openGroup g (s.openedRecord d f a)) := by
  have waits := (groupsKept_iff g).1 h
  refine (groupsKept_iff g).2 ?_
  unfold State.openGroup
  by_cases empty : s.members d = []
  · refine waits.congr (fun k => ?_) (fun k j => ?_) (by simp)
    · rw [show (s.openedRecord d f a).remaining = [] from empty, State.closeIfEmpty_group]
      by_cases own : k = g <;> simp [State.forSlots, own, free, GroupRecord.place, State.openedRecord, empty]
    · rw [show (s.openedRecord d f a).remaining = [] from empty]
      simp [belongs, State.forSlots, State.slot]
  · have kept : GroupKept (s.openedRecord d f a) :=
      ⟨by simp [State.openedRecord], s.members_length d, empty, by simpa [State.openedRecord] using s.members_nodup d⟩
    exact ((waits.opened free kept).takeMembers _ (s.members_nodup d)).closeIfEmpty

theorem groupsKept_defaults (groups : t.groups = Vector.replicate 4 none) (active : ∀ j, (t.slot j).active = none) :
    GroupsKept t := by
  have none : ∀ k, t.group k = none := fun k => by unfold State.group; rw [groups]; simp
  exact ⟨fun k r e => by simp [none] at e, fun k j => by simp [none, active]⟩

/-! ### Every event -/

theorem groupsKept_requests : RequestsKeep GroupsKept := by
  have K := groupsWaiting_requests 0 []
  have iff : ∀ u, GroupsKept u ↔ GroupsWaiting 0 [] u := fun u => groupsKept_iff 0
  refine ⟨fun s t h trunk groups asker plain => ?_, fun s i code h => ?_, fun s i f a h on off => ?_⟩
  · exact (iff _).2 (K.congr s t ((iff _).1 h) trunk groups asker plain)
  · exact (iff _).2 (K.outcome s i code ((iff _).1 h))
  · exact (iff _).2 (K.plainEnds s i f a ((iff _).1 h) on off)

theorem groupsKept_trunk (h : GroupsKept s) (groups : t.groups = s.groups)
    (asker : ∀ j, (t.slot j).asker = (s.slot j).asker) : GroupsKept t := by
  refine (groupsKept_iff 0).2 (((groupsKept_iff 0).1 h).congr (State.group_congr groups) (fun k j => ?_) (by simp))
  unfold belongs
  rw [asker]

theorem groupsKept_restart (s : State) : GroupsKept s.restartRecords.sendQueries := by
  refine groupsKept_defaults (by simp [State.restartRecords]) fun j => ?_
  simp [State.restartRecords, State.slot, SlotRecord.restarted, powerOnSlot]

theorem groupsKept_powerOn (inputs : Vector Level 24) (line : Level) : GroupsKept (State.powerOn inputs line) :=
  groupsKept_defaults (by simp [State.powerOn]) fun j => by simp [State.powerOn, State.slot, powerOnSlot]

theorem groupsKept_events : RequestsKeep.Events fun _ => GroupsKept where
  requests _ := groupsKept_requests
  room _ h _ := h
  weaken _ h := h
  answer s a h := groupsKept_trunk h (by simp) (by simp)
  plain s i f h _ _ := groupsKept_trunk h (by simp) (by simp)
  accept s i f h before after := by
    refine (groupsKept_iff 0).2 (((groupsKept_iff 0).1 h).congr (fun k => by simp) (fun k j => ?_) (by simp))
    unfold belongs
    by_cases own : j = i
    · subst own
      simp [before, after]
    · simp [own]
  openGroup s g d f a h free := groupsKept_openGroup h free d f a
  restartPending s tag h _ := groupsKept_trunk h rfl fun _ => rfl
  restart s x _ := groupsKept_restart _

end

/-- Settles O54: an outcome takes its slot out of its record and no other event touches the table, but for the fan-out, in
which the members whose turn has not come are counted apart. -/
theorem stepKeepsGroups : Obligations.StepKeepsGroups := by
  intro s t h e
  refine groupsKept_events.step h e (fun u hu => ?_) (fun u hu _ _ => ?_) fun inputs line => groupsKept_powerOn inputs line
  · exact groupsKept_trunk hu (by simp) (by simp)
  · exact groupsKept_trunk hu (by simp) (by simp)

end Sys2Proof.Machine
end

section
/-! PROOFS. Every step keeps the trunk port: an entry for every answer owed, and HOLD in step (R136, R137, R180). -/

namespace Sys2Proof.Machine

/-! ### The port alone -/

/-- What holds of the trunk port whatever is owed on it, HOLD aside. -/
structure TrunkPort.Kept (p : TrunkPort) : Prop where
  room : p.queue.length + p.reservations ≤ Config.egressCapacity
  head : p.transmitting = true → p.queue ≠ []
  restart : p.restartPending.isSome = true → p.transmitting = true
  symbols : p.transmitting = false → p.flowDue = [] ∨ p.flowDue = [.go]

/-- HOLD stands exactly while fewer than 8 entries are free. -/
def HoldKept (s : State) : Prop := s.trunk.hold = true ↔ s.freeEntries < Config.holdMargin

theorem trunkKept_iff {s : State} :
    TrunkKept s ↔ s.trunk.reservations = s.answersOwed ∧ s.trunk.Kept ∧ HoldKept s :=
  ⟨fun ⟨owed, room, hold, head, restart, symbols⟩ => ⟨owed, ⟨room, head, restart, symbols⟩, hold⟩,
    fun ⟨owed, ⟨room, head, restart, symbols⟩, hold⟩ => ⟨owed, room, hold, head, restart, symbols⟩⟩

section
variable {s : State}

theorem holdKept_refreshFlow (s : State) : HoldKept s.refreshFlow := by
  simp [HoldKept]

theorem TrunkPort.Kept.dueSymbol (h : s.trunk.Kept) (f : FlowSymbol) : (s.dueSymbol f).trunk.Kept := by
  obtain ⟨room, head, restart, symbols⟩ := h
  unfold State.dueSymbol
  split
  · rename_i busy; exact ⟨room, head, restart, by simp [busy]⟩
  · exact ⟨room, head, restart, fun _ => .inl rfl⟩

theorem TrunkPort.Kept.refreshFlow (h : s.trunk.Kept) : s.refreshFlow.trunk.Kept := by
  obtain ⟨room, head, restart, symbols⟩ := h
  unfold State.refreshFlow
  split <;> split
  · exact ⟨room, head, restart, symbols⟩
  · exact TrunkPort.Kept.dueSymbol (s := { s with trunk := { s.trunk with hold := true } }) ⟨room, head, restart, symbols⟩ _
  · exact TrunkPort.Kept.dueSymbol (s := { s with trunk := { s.trunk with hold := false } }) ⟨room, head, restart, symbols⟩ _
  · exact ⟨room, head, restart, symbols⟩

theorem TrunkPort.Kept.answer (h : s.trunk.Kept) (free : s.freeEntries ≠ 0) (a : AnswerFrame) :
    (s.answer a).trunk.Kept := by
  obtain ⟨room, head, restart, symbols⟩ := h
  unfold State.freeEntries at free
  refine TrunkPort.Kept.refreshFlow ⟨?_, ?_, restart, symbols⟩
  · simp only [List.length_append, List.length_singleton]; omega
  · simp

theorem TrunkPort.Kept.answerOwed (h : s.trunk.Kept) (owed : 0 < s.trunk.reservations) (a : AnswerFrame) :
    (s.answerOwed a).trunk.Kept := by
  obtain ⟨room, head, restart, symbols⟩ := h
  refine TrunkPort.Kept.refreshFlow ⟨?_, ?_, restart, symbols⟩
  · simp only [List.length_append, List.length_singleton]; omega
  · simp

theorem TrunkPort.Kept.takeReservation (h : s.trunk.Kept) (free : s.freeEntries ≠ 0) : s.takeReservation.trunk.Kept := by
  obtain ⟨room, head, restart, symbols⟩ := h
  unfold State.freeEntries at free
  refine TrunkPort.Kept.refreshFlow ⟨?_, head, restart, symbols⟩
  dsimp only
  omega

/-- An answer that spends its reservation takes the entry that it kept free. -/
theorem freeEntries_answerOwed (owed : 0 < s.trunk.reservations) (a : AnswerFrame) :
    (s.answerOwed a).freeEntries = s.freeEntries := by
  unfold State.answerOwed State.freeEntries
  simp only [State.answer_port]
  simp only [List.length_append, List.length_singleton]
  omega

theorem TrunkPort.Kept.startTransmission (h : s.trunk.Kept) : s.startTransmission.trunk.Kept := by
  have kept := h
  obtain ⟨room, head, restart, symbols⟩ := h
  unfold State.startTransmission
  split
  · exact kept
  · rename_i begins
    simp only [Bool.or_eq_true, not_or, Bool.not_eq_true] at begins
    exact ⟨room, fun _ => by simpa [State.sendSymbols] using begins.1.2, fun _ => rfl, fun idle => by simp at idle⟩

end

/-! ### What is owed -/

section
variable {s t : State}

/-- The groups counted among the answers owed. -/
def State.groupsOwed (s : State) : Nat := (List.finRange 4).countP fun g => (s.group g).isSome

/-- The slots' own answers owed. -/
def State.slotsOwed (s : State) : Nat :=
  allSlots.countP (fun i => (s.slot i).owed) + allSlots.countP (fun i => (s.lane i).plain.isSome)

theorem SlotRecord.owed_eq (r : SlotRecord) : r.owed = decide (r.asker = some .controller) := by
  unfold SlotRecord.owed SlotRecord.asker
  cases r.active <;> simp

theorem owed_congr {r x : SlotRecord} (asker : x.asker = r.asker) : x.owed = r.owed := by
  rw [SlotRecord.owed_eq, SlotRecord.owed_eq, asker]

theorem slotsOwed_congr (owed : ∀ j, (t.slot j).owed = (s.slot j).owed)
    (plain : ∀ j, (t.lane j).plain.isSome = (s.lane j).plain.isSome) : t.slotsOwed = s.slotsOwed := by
  simp only [State.slotsOwed, owed, plain]

theorem groupsOwed_congr (groups : ∀ g, (t.group g).isSome = (s.group g).isSome) : t.groupsOwed = s.groupsOwed := by
  simp only [State.groupsOwed, groups]

/-- One slot's request comes or goes. -/
theorem slotsOwed_request (i : SlotId) (others : ∀ j, j ≠ i → (t.slot j).owed = (s.slot j).owed)
    (plain : ∀ j, (t.lane j).plain.isSome = (s.lane j).plain.isSome) :
    t.slotsOwed + (if (s.slot i).owed = true then 1 else 0) = s.slotsOwed + if (t.slot i).owed = true then 1 else 0 := by
  have follows : allSlots.countP (fun j => (t.slot j).owed) + (if (s.slot i).owed = true then 1 else 0) =
      allSlots.countP (fun j => (s.slot j).owed) + if (t.slot i).owed = true then 1 else 0 :=
    countP_finRange_of_eq i others
  simp only [State.slotsOwed, plain]
  omega

/-- One lane's plain op comes or goes. -/
theorem slotsOwed_plain (i : SlotId) (others : ∀ j, j ≠ i → (t.lane j).plain.isSome = (s.lane j).plain.isSome)
    (owed : ∀ j, (t.slot j).owed = (s.slot j).owed) :
    t.slotsOwed + (if (s.lane i).plain.isSome = true then 1 else 0) =
      s.slotsOwed + if (t.lane i).plain.isSome = true then 1 else 0 := by
  have follows : allSlots.countP (fun j => (t.lane j).plain.isSome) +
      (if (s.lane i).plain.isSome = true then 1 else 0) =
      allSlots.countP (fun j => (s.lane j).plain.isSome) + if (t.lane i).plain.isSome = true then 1 else 0 :=
    countP_finRange_of_eq i others
  simp only [State.slotsOwed, owed]
  omega

/-- One group opens or closes. -/
theorem groupsOwed_place (g : GroupId) (others : ∀ k, k ≠ g → (t.group k).isSome = (s.group k).isSome) :
    t.groupsOwed + (if (s.group g).isSome = true then 1 else 0) =
      s.groupsOwed + if (t.group g).isSome = true then 1 else 0 :=
  countP_finRange_of_eq g others

theorem answersOwed_eq (s : State) : s.answersOwed = s.slotsOwed + s.groupsOwed := rfl

/-! ### The port with what is owed -/

/-- The port is kept, with a free entry where `b` says so. -/
structure TrunkRoom (b : Bool) (s : State) : Prop where
  kept : TrunkKept s
  free : b = true → s.freeEntries ≠ 0

theorem freeEntries_congr (trunk : t.trunk = s.trunk) : t.freeEntries = s.freeEntries := by
  unfold State.freeEntries; rw [trunk]

theorem trunkKept_congr (h : TrunkKept s) (trunk : t.trunk = s.trunk) (owed : t.answersOwed = s.answersOwed) :
    TrunkKept t := by
  obtain ⟨reservations, port, hold⟩ := trunkKept_iff.1 h
  refine trunkKept_iff.2 ⟨by rw [trunk, owed]; exact reservations, by rwa [trunk], ?_⟩
  unfold HoldKept
  rw [freeEntries_congr trunk, trunk]
  exact hold

/-- An answer that was owed is given, whatever fell due with it. -/
theorem TrunkRoom.answersOwed {b : Bool} (h : TrunkRoom b s) {u : State} (a : AnswerFrame) (trunk : u.trunk = s.trunk)
    (after : t.trunk = (u.answerOwed a).trunk) (one : t.answersOwed + 1 = s.answersOwed) : TrunkRoom b t := by
  obtain ⟨reservations, port, hold⟩ := trunkKept_iff.1 h.kept
  have owed : 0 < u.trunk.reservations := by rw [trunk]; omega
  refine ⟨trunkKept_iff.2 ⟨?_, ?_, ?_⟩, fun on => ?_⟩
  · rw [after, (u.answerOwed_port a).2.1, trunk]; omega
  · rw [after]; exact (trunk ▸ port : u.trunk.Kept).answerOwed owed a
  · unfold HoldKept
    rw [freeEntries_congr after, after]
    exact holdKept_refreshFlow _
  · rw [freeEntries_congr after, freeEntries_answerOwed owed, freeEntries_congr trunk]
    exact h.free on

theorem TrunkRoom.congr {b : Bool} (h : TrunkRoom b s) (trunk : t.trunk = s.trunk)
    (owed : t.answersOwed = s.answersOwed) : TrunkRoom b t :=
  ⟨trunkKept_congr h.kept trunk owed, fun on => by rw [freeEntries_congr trunk]; exact h.free on⟩

/-- A free entry is reserved for an answer owed from now on. -/
theorem TrunkRoom.reserved (h : TrunkRoom true s) (trunk : t.trunk = s.takeReservation.trunk)
    (one : t.answersOwed = s.answersOwed + 1) : TrunkRoom false t := by
  obtain ⟨reservations, port, hold⟩ := trunkKept_iff.1 h.kept
  refine ⟨trunkKept_iff.2 ⟨?_, ?_, ?_⟩, by simp⟩
  · rw [trunk, s.takeReservation_port.2.1, one, reservations]
  · rw [trunk]; exact port.takeReservation (h.free rfl)
  · unfold HoldKept
    rw [freeEntries_congr trunk, trunk]
    exact holdKept_refreshFlow _

theorem answersOwed_congr (owed : ∀ j, (t.slot j).owed = (s.slot j).owed)
    (plain : ∀ j, (t.lane j).plain.isSome = (s.lane j).plain.isSome)
    (groups : ∀ g, (t.group g).isSome = (s.group g).isSome) : t.answersOwed = s.answersOwed := by
  rw [answersOwed_eq, answersOwed_eq, slotsOwed_congr owed plain, groupsOwed_congr groups]

section
variable {b : Bool} {g : GroupId} {i : SlotId}

/-- A group closes with its answer. -/
theorem TrunkRoom.closes (h : TrunkRoom b s) {r : GroupRecord} (open_ : s.group g = some r) (x : Option GroupRecord)
    (a : AnswerFrame) : TrunkRoom b (((s.setGroup g x).answerOwed a).setGroup g none) := by
  refine h.answersOwed a (u := s.setGroup g x) rfl rfl ?_
  have one := groupsOwed_place (s := s) (t := ((s.setGroup g x).answerOwed a).setGroup g none) g
    fun k other => by simp [other]
  rw [open_, State.group_setGroup_self] at one
  have slots := slotsOwed_congr (s := s) (t := ((s.setGroup g x).answerOwed a).setGroup g none) (by simp) (by simp)
  rw [answersOwed_eq, answersOwed_eq]
  simp only [Option.isSome_some, Option.isSome_none, if_true, Bool.false_eq_true, if_false] at one
  omega

theorem State.setGroup_group (s : State) (g : GroupId) : s.setGroup g (s.group g) = s := by
  simp [State.setGroup, State.group]

theorem TrunkRoom.closeIfEmpty (h : TrunkRoom b s) (g : GroupId) : TrunkRoom b (s.closeIfEmpty g) := by
  unfold State.closeIfEmpty
  split
  · rename_i r open_
    split
    · have closed := h.closes open_ (s.group g) r.answer
      rwa [State.setGroup_group] at closed
    · exact h
  · exact h

theorem TrunkRoom.recordOutcome (h : TrunkRoom b s) (g : GroupId) (i : SlotId) (code : AnswerCode) :
    TrunkRoom b (s.recordOutcome g i code) := by
  unfold State.recordOutcome
  split
  · rename_i r open_
    split
    · refine TrunkRoom.closeIfEmpty (s := s.setGroup g (some (r.withOutcome i code))) (h.congr rfl ?_) g
      refine answersOwed_congr (by simp) (by simp) fun k => ?_
      by_cases own : k = g <;> simp [own, open_]
    · exact h
  · exact h

theorem giveOutcome_eq_answerOwed {a : ActiveRequest} (active : (s.slot i).active = some a)
    (origin : a.origin = .controller) (code : AnswerCode) : s.giveOutcome i code =
      (s.modifySlot i fun r => { r with active := none }).answerOwed (slotAnswer i a code) := by
  unfold State.giveOutcome
  rw [active]
  dsimp only
  rw [origin]

theorem TrunkRoom.outcome (h : TrunkRoom b s) (i : SlotId) (code : AnswerCode) : TrunkRoom b (s.giveOutcome i code) := by
  cases active : (s.slot i).active with
  | none => rwa [s.giveOutcome_of_none active]
  | some a =>
    cases origin : a.origin with
    | controller =>
      rw [giveOutcome_eq_answerOwed active origin]
      refine h.answersOwed (slotAnswer i a code) (u := s.modifySlot i fun r => { r with active := none }) rfl rfl ?_
      have one := slotsOwed_request (s := s) (t := (s.modifySlot i fun r => { r with active := none }).answerOwed
        (slotAnswer i a code)) i (fun j other => by simp [other]) (by simp)
      have groups := groupsOwed_congr (s := s) (t := (s.modifySlot i fun r => { r with active := none }).answerOwed
        (slotAnswer i a code)) (by simp)
      rw [answersOwed_eq, answersOwed_eq]
      simp [SlotRecord.owed, active, origin] at one
      omega
    | group k =>
      rw [s.giveOutcome_group active origin]
      refine TrunkRoom.recordOutcome (s := s.modifySlot i fun r => { r with active := none }) (h.congr rfl ?_) k i code
      refine answersOwed_congr (fun j => ?_) (by simp) (by simp)
      by_cases own : j = i
      · subst own; simp [SlotRecord.owed, active, origin]
      · simp [own]

theorem trunkRoom_requests (b : Bool) : RequestsKeep (TrunkRoom b) where
  congr s t h trunk groups asker plain := h.congr trunk (answersOwed_congr (fun j => owed_congr (asker j)) plain
    fun g => by rw [State.group_congr groups])
  outcome s i code h := h.outcome i code
  plainEnds s i f a h on off := by
    refine h.answersOwed a (u := s.modifyLane i f) rfl rfl ?_
    have one := slotsOwed_plain (s := s) (t := (s.modifyLane i f).answerOwed a) i (fun j other => by simp [other]) (by simp)
    have groups := groupsOwed_congr (s := s) (t := (s.modifyLane i f).answerOwed a) (by simp)
    rw [answersOwed_eq, answersOwed_eq]
    simp [on, off] at one
    omega

/-! ### The fan-out -/

theorem TrunkRoom.takeMember (h : TrunkRoom b s) (g : GroupId) (r : GroupRecord) (i : SlotId) :
    TrunkRoom b (s.takeMember g r i) := by
  unfold State.takeMember
  split
  · exact h.recordOutcome g i _
  · refine (trunkRoom_requests b).accept ((h.outcome i .superseded).congr rfl ?_)
    refine answersOwed_congr (fun j => ?_) (by simp [State.reserveFor, State.memberRequest])
      (by simp [State.reserveFor, State.memberRequest])
    by_cases own : j = i
    · subst own; simp [SlotRecord.owed, State.reserveFor, State.memberRequest, State.giveOutcome_slot]
    · simp [own, State.reserveFor, State.memberRequest]

theorem TrunkRoom.openGroup (h : TrunkRoom true s) (free : s.group g = none) (r : GroupRecord) :
    TrunkRoom false (s.openGroup g r) := by
  have opened : TrunkRoom false ((s.takeReservation).setGroup g (some r)) := by
    refine h.reserved rfl ?_
    have one := groupsOwed_place (s := s) (t := (s.takeReservation).setGroup g (some r)) g fun k other => by simp [other]
    have slots := slotsOwed_congr (s := s) (t := (s.takeReservation).setGroup g (some r)) (by simp) (by simp)
    rw [answersOwed_eq, answersOwed_eq]
    simp [free] at one
    omega
  exact (State.forSlots_induct r.remaining opened fun i _ u hu => hu.takeMember g r i).closeIfEmpty g

/-! ### The transmitter -/

theorem trunkKept_startTransmission (h : TrunkKept s) : TrunkKept s.startTransmission := by
  obtain ⟨reservations, port, hold⟩ := trunkKept_iff.1 h
  refine trunkKept_iff.2 ⟨?_, port.startTransmission, ?_⟩
  · rw [answersOwed_congr (s := s) (by simp) (by simp) (by simp)]; simpa using reservations
  · simpa [HoldKept] using hold

/-- The head frame has left, and the symbols that waited with it. -/
theorem trunkKept_sent (h : TrunkKept s) (idle : s.trunk.restartPending = none) (sends : s.trunk.transmitting = true) :
    TrunkKept s.headSent.sendSymbols.refreshFlow := by
  obtain ⟨reservations, ⟨room, head, restart, symbols⟩, hold⟩ := trunkKept_iff.1 h
  obtain ⟨a, rest, queue⟩ := List.exists_cons_of_ne_nil (head sends)
  have port := s.headSent_port a rest queue
  refine trunkKept_iff.2 ⟨?_, TrunkPort.Kept.refreshFlow ⟨?_, ?_, ?_, fun _ => .inl rfl⟩, holdKept_refreshFlow _⟩
  · rw [answersOwed_congr (s := s) (by simp) (by simp) (by simp)]
    simpa [State.sendSymbols, port] using reservations
  · rw [queue, List.length_cons] at room
    simp only [State.sendSymbols, port]
    omega
  · simp [State.sendSymbols, port]
  · simp [State.sendSymbols, port, idle]

theorem answersOwed_eq_zero (active : ∀ j, (s.slot j).active = none) (plain : ∀ j, (s.lane j).plain = none)
    (groups : ∀ g, s.group g = none) : s.answersOwed = 0 := by
  simp [State.answersOwed, SlotRecord.owed, active, plain, groups]

theorem trunkRoom_restart (s : State) : TrunkRoom true s.restartRecords.sendQueries := by
  have slot : ∀ j, (s.restartRecords.sendQueries.slot j).active = none := fun j => by
    simp [State.restartRecords, State.slot, SlotRecord.restarted, powerOnSlot]
  have group : ∀ g, s.restartRecords.sendQueries.group g = none := fun g => by
    simp [State.restartRecords, State.group]
  have lane : ∀ j, (s.restartRecords.sendQueries.lane j).plain = none := fun j => by
    have start : (s.restartRecords.lane j).plain = none := by
      simp [State.restartRecords, State.lane, LaneRecord.restarted]
    rw [State.sendQueries_lane]
    split
    · rw [(LaneRecord.ask_frame _ _ _ _).2.1, start]
    · exact start
  have port : s.restartRecords.sendQueries.trunk = s.trunk.restarted := by simp [State.restartRecords]
  have free : s.restartRecords.sendQueries.freeEntries = 64 := by
    unfold State.freeEntries; rw [port]; rfl
  refine ⟨trunkKept_iff.2 ⟨?_, ?_, ?_⟩, fun _ => by rw [free]; decide⟩
  · rw [answersOwed_eq_zero slot lane group, port]; rfl
  · rw [port]
    exact ⟨by simp [TrunkPort.restarted], by simp [TrunkPort.restarted], by simp [TrunkPort.restarted],
      by simp [TrunkPort.restarted]⟩
  · rw [HoldKept, free, port]; simp [TrunkPort.restarted, Config.holdMargin]

theorem trunkKept_powerOn (inputs : Vector Level 24) (line : Level) : TrunkKept (State.powerOn inputs line) := by
  refine trunkKept_iff.2 ⟨?_, ⟨by simp [State.powerOn, powerOnTrunk], by simp [State.powerOn, powerOnTrunk],
    by simp [State.powerOn, powerOnTrunk], by simp [State.powerOn, powerOnTrunk]⟩, ?_⟩
  · rw [answersOwed_eq_zero (fun j => by simp [State.powerOn, State.slot, powerOnSlot])
      (fun j => by simp [State.powerOn, State.lane, powerOnLane]) fun g => by simp [State.powerOn, State.group]]
    rfl
  · simp [HoldKept, State.freeEntries, State.powerOn, powerOnTrunk, Config.egressCapacity, Config.holdMargin]

/-! ### Every event -/

theorem trunkRoom_events : RequestsKeep.Events TrunkRoom where
  requests := trunkRoom_requests
  room s h free := ⟨h.kept, fun _ => free⟩
  weaken s h := ⟨h.kept, by simp⟩
  answer s a h := by
    obtain ⟨reservations, port, hold⟩ := trunkKept_iff.1 h.kept
    refine ⟨trunkKept_iff.2 ⟨?_, port.answer (h.free rfl) a, holdKept_refreshFlow _⟩, by simp⟩
    rw [answersOwed_congr (s := s) (by simp) (by simp) (by simp)]
    simpa using reservations
  plain s i f h free on := by
    refine h.reserved (by simp) ?_
    have one := slotsOwed_plain (s := s) (t := (s.takeReservation).modifyLane i f) i (fun j other => by simp [other])
      (by simp)
    have groups := groupsOwed_congr (s := s) (t := (s.takeReservation).modifyLane i f) (by simp)
    rw [answersOwed_eq, answersOwed_eq]
    simp [free, on] at one
    omega
  accept s i f h before after := by
    refine h.reserved (by simp) ?_
    have one := slotsOwed_request (s := s) (t := (s.takeReservation).modifySlot i f) i (fun j other => by simp [other])
      (by simp)
    have groups := groupsOwed_congr (s := s) (t := (s.takeReservation).modifySlot i f) (by simp)
    rw [answersOwed_eq, answersOwed_eq]
    simp [SlotRecord.owed_eq, before, after] at one
    omega
  openGroup s g d f a h free := h.openGroup free _
  restartPending s tag h busy := by
    obtain ⟨reservations, ⟨room, head, restart, symbols⟩, hold⟩ := trunkKept_iff.1 h.kept
    exact ⟨trunkKept_iff.2 ⟨reservations, ⟨room, head, fun _ => busy, symbols⟩, hold⟩, by simp⟩
  restart s x _ := trunkRoom_restart _

end

end

/-- Settles O55: a reservation is taken and spent with the answer it stands for, and every change of the figures refreshes
HOLD. -/
theorem stepKeepsTrunk : Obligations.StepKeepsTrunk := by
  intro s t h e
  have weak : ∀ {u}, TrunkKept u → TrunkRoom false u := fun hu => ⟨hu, by simp⟩
  refine (trunkRoom_events.step (weak h) e (fun u hu => weak (trunkKept_startTransmission hu.kept))
    (fun u hu sends idle => weak ?_) fun inputs line => weak (trunkKept_powerOn inputs line)).kept
  exact trunkKept_startTransmission (trunkKept_sent (trunkKept_startTransmission hu.kept) (by simpa using idle) sends)

end Sys2Proof.Machine
end

section
/-! PROOFS. Grants: who spins up, and within which figures (R37, R38, R41, R42). -/

namespace Sys2Proof.Machine

section
variable {s t : State} {i : SlotId}

/-! ### The rule of a state moves no draw (R10) -/

theorem proceed_reservation (h : SlotKept s i) (j : SlotId) (onset : Bool) :
    ((s.proceed i onset).slot j).reservation = (s.slot j).reservation := by
  by_cases other : j = i
  case neg => rw [(s.proceed_other other onset).1]
  subst other
  have before := h.reservation
  have taken := proceedStep s j onset
  generalize s.proceed j onset = t at taken ⊢
  cases taken with
  | stays _ => rfl
  | raised st _ _ => simp [State.enterState_slot, before, st, reservationIn]
  | withdrawn st _ => simp [State.enterState_slot, before, st, reservationIn]
  | spunDown kept on _ =>
    rcases on with ⟨st, rfl⟩ | ⟨st, rfl⟩ <;> simp [State.spinDown_slot, before, st, reservationIn]
  | loads st _ => simp [State.enterState_slot, before, st, reservationIn]
  | unloads on _ => rcases on with st | st <;> simp [State.unloadHeads_slot, before, st, reservationIn]

/-- Equal reservations sum to equal totals. -/
theorem total_congr (h : AccountKept s) (after : AccountKept t)
    (same : ∀ j, (t.slot j).reservation = (s.slot j).reservation) :
    t.arbiter.reservationTotal = s.arbiter.reservationTotal := by
  rw [h.total, after.total]
  simp only [same]

theorem proceed_total (h : AccountKept s) (i : SlotId) (onset : Bool) :
    (s.proceed i onset).arbiter.reservationTotal = s.arbiter.reservationTotal :=
  total_congr h (accountKept_proceed h i onset) fun j => proceed_reservation (h.slots i) j onset

/-- A granted slot held no reservation, so the total rises by its draw (R37, R42). -/
theorem grant_total (h : AccountKept s) (st : (s.slot i).state = .queued) :
    (s.grant i).arbiter.reservationTotal = s.arbiter.reservationTotal + (s.profileOf i).spinUpDraw := by
  have zero : (s.slot i).reservation = 0 := by rw [(h.slots i).reservation, st]; rfl
  rw [(s.grant_arbiter i).2.2.2, zero, Nat.sub_zero]

/-- Only a grant leads into SPINNING_UP. -/
theorem spinningUp_of_proceed {j : SlotId} {onset : Bool} (h : ((s.proceed i onset).slot j).state = .spinningUp) :
    (s.slot j).state = .spinningUp := by
  by_cases same : j = i
  · subst same
    rw [s.proceed_state j onset] at h
    cases st : (s.slot j).state <;> cases target : s.effectiveTarget j <;>
      cases run : decide (s.mgmt.mode = .run) <;> simp [st, target, run, afterRecompute] at h ⊢
  · rwa [(s.proceed_other same onset).1] at h

end

/-! ### No grant before the conclusion -/

/-- Slot `i` does not spin up, and the time of last grant is `last`. -/
structure NotGranted (i : SlotId) (last : Option Nat) (s : State) : Prop where
  down : (s.slot i).state ≠ .spinningUp
  last : s.arbiter.lastGrant = last

section
variable {i : SlotId} {last : Option Nat} {s t : State}

theorem NotGranted.congr (h : NotGranted i last s) (state : (t.slot i).state = (s.slot i).state)
    (grant : t.arbiter.lastGrant = s.arbiter.lastGrant) : NotGranted i last t :=
  ⟨by rw [state]; exact h.down, grant.trans h.last⟩

theorem NotGranted.same (h : NotGranted i last s) (slots : t.slots = s.slots)
    (grant : t.arbiter.lastGrant = s.arbiter.lastGrant) : NotGranted i last t :=
  h.congr (by unfold State.slot; rw [slots]) grant

theorem State.proceed_lastGrant (s : State) (j : SlotId) (onset : Bool) :
    (s.proceed j onset).arbiter.lastGrant = s.arbiter.lastGrant := by
  have taken := proceedStep s j onset
  generalize s.proceed j onset = t at taken ⊢
  cases taken <;> simp [State.spinDown, State.unloadHeads, State.enqueue_lastGrant, State.dequeue]

theorem NotGranted.proceed (h : NotGranted i last s) (j : SlotId) (onset : Bool) :
    NotGranted i last (s.proceed j onset) :=
  ⟨fun up => h.down (spinningUp_of_proceed up), (s.proceed_lastGrant j onset).trans h.last⟩

theorem NotGranted.modifySlot (h : NotGranted i last s) (j : SlotId) (f : SlotRecord → SlotRecord)
    (state : (f (s.slot j)).state = (s.slot j).state) : NotGranted i last (s.modifySlot j f) := by
  refine h.congr ?_ rfl
  by_cases same : i = j
  · subst same; rw [State.slot_modifySlot_self, state]
  · rw [State.slot_modifySlot_of_ne _ same]

theorem NotGranted.giveOutcome (h : NotGranted i last s) (j : SlotId) (code : AnswerCode) :
    NotGranted i last (s.giveOutcome j code) := by
  refine h.congr ?_ (by simp)
  rw [State.giveOutcome_slot]
  split <;> simp_all

theorem NotGranted.completeIfReached (h : NotGranted i last s) (j : SlotId) : NotGranted i last (s.completeIfReached j) := by
  rcases s.completeIfReached_cases j with ⟨e, _⟩ | ⟨e, _⟩ <;> rw [e]
  · exact h
  · exact h.giveOutcome j _

theorem NotGranted.enterState (h : NotGranted i last s) (j : SlotId) {st : SlotState} (other : st ≠ .spinningUp) :
    NotGranted i last (s.enterState j st) := by
  refine ⟨?_, by simpa using h.last⟩
  rw [State.enterState_slot]
  split
  · exact other
  · exact h.down

theorem NotGranted.arrive (h : NotGranted i last s) (j : SlotId) {st : SlotState} (other : st ≠ .spinningUp) :
    NotGranted i last (s.arrive j st) :=
  ((h.enterState j other).completeIfReached j).proceed j false

theorem NotGranted.enterFault (h : NotGranted i last s) (j : SlotId) (cause : FaultCause) :
    NotGranted i last (s.enterFault j cause) := by
  refine ⟨?_, by simpa [State.enterFault] using h.last⟩
  rw [State.enterFault_slot]
  split
  · simp
  · exact h.down

theorem NotGranted.takeOutcome (h : NotGranted i last s) (j : SlotId) (op : GovernedOp) (o : OpOutcome)
    (report : Option Byte) : NotGranted i last (s.takeOutcome j op o report) := by
  have taken := takeOutcome_taken s j op o report
  generalize s.takeOutcome j op o report = t at taken ⊢
  cases taken with
  | unnamed _ => exact h
  | failed cause _ => exact h.enterFault j cause
  | spun _ _ => exact h.arrive j (by decide)
  | loaded _ _ => exact h.arrive j (by decide)
  | unloaded _ _ => exact h.arrive j (by decide)
  | stopped _ _ => exact (h.modifySlot j _ rfl).arrive j (by decide)
  | reported rest target _ _ named =>
    refine (h.modifySlot j _ (by split <;> rfl)).arrive j ?_
    rintro rfl
    cases named

theorem NotGranted.modifyLane (h : NotGranted i last s) (j : SlotId) (f : LaneRecord → LaneRecord) :
    NotGranted i last (s.modifyLane j f) := h.same rfl rfl

theorem NotGranted.settleGoverned (h : NotGranted i last s) (j : SlotId) (g : GovernedRecord) (o : OpOutcome)
    (report : Option Byte) : NotGranted i last (s.settleGoverned j g o report) := by
  unfold State.settleGoverned
  split
  · exact (h.modifyLane j _).takeOutcome j _ _ _
  · exact h.modifyLane j _
  · exact h.modifyLane j _

theorem NotGranted.settlePreempting (h : NotGranted i last s) (j : SlotId) (p : PreemptingRecord) (o : OpOutcome)
    (report : Option Byte) : NotGranted i last (s.settlePreempting j p o report) :=
  (h.modifyLane j _).takeOutcome j _ _ _

theorem NotGranted.settlePlain (h : NotGranted i last s) (j : SlotId) (p : PlainRecord) (o : OpOutcome)
    (payload : List Byte) : NotGranted i last (s.settlePlain j p o payload) :=
  h.congr (by simp) (by simp)

theorem NotGranted.takeCompletion (h : NotGranted i last s) (j : SlotId) (tag : Byte) (o : CompletionOutcome)
    (payload : List Byte) : NotGranted i last (s.takeCompletion j tag o payload) := by
  unfold State.takeCompletion
  split
  · exact h.settleGoverned j _ _ _
  · exact h.settlePreempting j _ _ _
  · exact h.settlePlain j _ _ _
  · exact (h.modifyLane j _).modifySlot j _ rfl

theorem NotGranted.takeDeadline (h : NotGranted i last s) (j : SlotId) (tag : Byte) :
    NotGranted i last (s.takeDeadline j tag) := by
  unfold State.takeDeadline
  split
  · split
    · exact NotGranted.settleGoverned (h.modifyLane j _) j _ _ _
    · exact h
  · split
    · exact (h.settlePreempting j _ _ _).modifyLane j _
    · exact h
  · split
    · exact NotGranted.settlePlain (h.modifyLane j _) j _ _ _
    · exact h
  · exact h

theorem NotGranted.reserved (h : NotGranted i last s) (o : Origin) : NotGranted i last (s.reserveFor o) :=
  h.same (by simp) (by simp)

theorem NotGranted.accept (h : NotGranted i last s) (j : SlotId) (a : ActiveRequest) : NotGranted i last (s.accept j a) :=
  ((((h.giveOutcome j _).reserved a.origin).modifySlot j _ rfl).proceed j false).completeIfReached j

theorem NotGranted.openGroup (h : NotGranted i last s) (g : GroupId) (r : GroupRecord) :
    NotGranted i last (s.openGroup g r) := by
  unfold State.openGroup
  have opened : NotGranted i last ((s.takeReservation).setGroup g (some r)) := h.same (by simp) (by simp)
  have fanned := State.forSlots_induct (f := fun j t => t.takeMember g r j) r.remaining opened fun j _ u hu => by
    unfold State.takeMember
    split
    · exact hu.same (by simp) (by simp)
    · exact hu.accept j _
  exact fanned.same (by simp) (by simp)

theorem NotGranted.zones : ZonesReportKept (NotGranted i last) where
  congr _ _ h slots _ _ arbiter _ _ _ _ _ := h.same slots (by rw [arbiter])
  zones s zs onset h := State.updateZones_induct s zs onset (h.same rfl rfl) fun _ j hu => hu.proceed j onset

theorem NotGranted.profile (h : NotGranted i last s) (k : Fin 8) (p : DrawProfile) :
    NotGranted i last (({ s with profiles := s.profiles.set k.val p k.isLt } : State).rederiveProfile k) := by
  refine h.congr ?_ (by rw [State.rederiveProfile_arbiter])
  rw [State.rederiveProfile_slot]
  unfold State.rederived
  split <;> simp

theorem NotGranted.enterRun (h : NotGranted i last s) : NotGranted i last ((s.setMode .run).forSlots allSlots fun j t =>
    if (t.slot j).state = .stopped then t.proceed j false else t) := by
  refine State.forSlots_induct _ (h.same rfl rfl) fun j _ t ht => ?_
  split
  · exact ht.proceed j false
  · exact ht

theorem enterRun_now (s : State) : ((s.setMode .run).forSlots allSlots fun j t =>
    if (t.slot j).state = .stopped then t.proceed j false else t).now = s.now := by
  refine State.forSlots_induct (P := fun t => t.now = s.now) _ rfl fun j _ t ht => ?_
  split <;> simp [ht]

theorem NotGranted.presence (h : NotGranted i last s) (j : SlotId) : NotGranted i last ((s.modifySlot j fun r =>
    { r with present := seated r.input, debounceExpiry := none }).setFlag .presenceChange) := by
  have seen := h.modifySlot j (fun r => { r with present := seated r.input, debounceExpiry := none }) rfl
  exact seen.same rfl rfl

theorem NotGranted.presenceLost (h : NotGranted i last s) (j : SlotId) : NotGranted i last (s.presenceLost j) := by
  refine ⟨?_, by simpa [State.presenceLost, State.dequeue] using h.last⟩
  rw [State.presenceLost_slot]
  split
  · simp
  · exact h.down

theorem NotGranted.selfParked (h : NotGranted i last s) (j : SlotId) :
    NotGranted i last (((s.startSelfPark j).setFlag .selfPark).arrive j .parked) := by
  have started : NotGranted i last (s.startSelfPark j) := by
    unfold State.startSelfPark
    split
    · exact h.modifySlot j _ rfl
    · exact h
  have flagged : NotGranted i last ((s.startSelfPark j).setFlag .selfPark) := started.same rfl rfl
  exact flagged.arrive j (by decide)

theorem NotGranted.clearFault (h : NotGranted i last s) (j : SlotId) : NotGranted i last (s.clearFaultOf j) := by
  unfold State.clearFaultOf
  split
  · exact (h.modifySlot j _ rfl).arrive j (by decide)
  · exact h

theorem NotGranted.withdraw (h : NotGranted i last s) (j : SlotId) : NotGranted i last (s.withdrawSlot j) := by
  unfold State.withdrawSlot
  split
  · exact ((h.modifySlot j _ rfl).giveOutcome j _).proceed j false
  · exact h

theorem NotGranted.restore (h : NotGranted i last s) (j : SlotId) : NotGranted i last (s.restoreSlot j) := by
  unfold State.restoreSlot
  split
  · exact h
  · exact (h.modifySlot j _ rfl).proceed j false

end

/-! ### The grants of an event -/

/-- The interval from the last grant before the event has passed, where the event has made one already. -/
def Staggered (s u : State) : Prop :=
  u.arbiter.lastGrant = s.arbiter.lastGrant ∨ u.arbiter.lastGrant = some s.now ∧
    ∀ last ∈ s.arbiter.lastGrant, last + 10 * u.arbiter.staggerInterval ≤ s.now

/-- Slot `i` has been granted by the rules in the event that began in `s`. -/
structure GrantedSoundly (s : State) (i : SlotId) (u : State) : Prop where
  run : u.mgmt.mode = .run
  free : u.frozen i = false
  fits : u.arbiter.reservationTotal ≤ u.ceilingInForce
  draw : (u.slot i).reservation = (u.profileOf i).spinUpDraw
  time : u.arbiter.lastGrant = some s.now
  stagger : ∀ last ∈ s.arbiter.lastGrant, last + 10 * u.arbiter.staggerInterval ≤ s.now

/-- Where slot `i` spins up, the event that began in `s` has granted it. -/
structure GrantsSound (s : State) (i : SlotId) (u : State) : Prop where
  account : AccountKept u
  now : u.now = s.now
  staggered : u.mgmt.mode = .run → Staggered s u
  up : (u.slot i).state = .spinningUp → GrantedSoundly s i u

section
variable {s u t : State} {i : SlotId}

theorem GrantsSound.congr (h : GrantsSound s i u) (account : AccountKept t) (now : t.now = u.now)
    (mode : t.mgmt.mode = u.mgmt.mode) (last : t.arbiter.lastGrant = u.arbiter.lastGrant)
    (interval : t.arbiter.staggerInterval = u.arbiter.staggerInterval)
    (state : (t.slot i).state = .spinningUp → (u.slot i).state = .spinningUp)
    (frozen : t.frozen i = u.frozen i) (total : t.arbiter.reservationTotal = u.arbiter.reservationTotal)
    (ceiling : t.ceilingInForce = u.ceilingInForce) (draw : (t.slot i).reservation = (u.slot i).reservation)
    (profile : t.profileOf i = u.profileOf i) : GrantsSound s i t := by
  refine ⟨account, now.trans h.now, fun run => ?_, fun up => ?_⟩
  · unfold Staggered
    rw [last, interval]
    exact h.staggered (mode ▸ run)
  · obtain ⟨run, free, fits, reserved, time, stagger⟩ := h.up (state up)
    exact ⟨mode ▸ run, frozen ▸ free, by rwa [total, ceiling], by rw [draw, profile, reserved], last ▸ time,
      by rwa [interval]⟩

theorem GrantsSound.grant (h : GrantsSound s i u) {j : SlotId} (run : u.mgmt.mode = .run) (c : u.candidate = some j)
    (fits : u.drawFits j = true) (passed : u.staggerPassed = true) : GrantsSound s i (u.grant j) := by
  have waits := queued_of_candidate h.account c
  have total := grant_total h.account waits
  have last : (u.grant j).arbiter.lastGrant = some s.now := by rw [(u.grant_arbiter j).1, h.now]
  have stagger : ∀ last ∈ s.arbiter.lastGrant, last + 10 * (u.grant j).arbiter.staggerInterval ≤ s.now := by
    have since := u.staggerPassed_iff.1 passed
    rw [show (u.grant j).arbiter.staggerInterval = u.arbiter.staggerInterval by simp]
    rcases h.staggered run with same | ⟨-, before⟩
    · intro last m
      have within := since last (same ▸ m)
      rw [h.now] at within
      omega
    · exact before
  have within : (u.grant j).arbiter.reservationTotal ≤ (u.grant j).ceilingInForce := by
    rw [total, show (u.grant j).ceilingInForce = u.ceilingInForce by simp]
    exact (u.drawFits_iff j).1 fits
  refine ⟨accountKept_grant h.account waits, by simpa using h.now, fun _ => .inr ⟨last, stagger⟩, fun up => ?_⟩
  by_cases same : i = j
  · subst same
    obtain ⟨front, e, back, -, -, free, rfl⟩ := u.candidate_eq_some c
    exact ⟨by simpa using run, by simpa using free, within, by rw [State.grant_slot, if_pos rfl]; simp, last, stagger⟩
  · rw [State.grant_slot, if_neg same] at up
    obtain ⟨-, free, -, draw, -, -⟩ := h.up up
    exact ⟨by simpa using run, by simpa using free, within, by rw [State.grant_slot, if_neg same]; simpa using draw, last,
      stagger⟩

theorem GrantsSound.mark (h : GrantsSound s i u) (j : SlotId) : GrantsSound s i (u.shedMarkSlot j) := by
  have marked := accountKept_giveOutcome (accountKept_modify_other h.account j
    (fun r => { r with shedMark := true, standing := .stopped }) (by simp)) j .shed
  have slot : ∀ k, (((u.modifySlot j fun r => { r with shedMark := true, standing := .stopped }).giveOutcome j
      .shed).slot k).state = (u.slot k).state ∧
      (((u.modifySlot j fun r => { r with shedMark := true, standing := .stopped }).giveOutcome j .shed).slot
        k).reservation = (u.slot k).reservation := by
    intro k
    rw [State.giveOutcome_slot]
    by_cases same : k = j <;> simp [same]
  refine h.congr (accountKept_mark h.account j) (by simp) (by simp) ?_ (by simp) (fun up => ?_) (by simp) ?_ (by simp) ?_
    (by simp)
  · exact (State.proceed_lastGrant _ j false).trans (by simp)
  · rw [← (slot i).1]; exact spinningUp_of_proceed up
  · exact (proceed_total marked j false).trans (by simp)
  · exact (proceed_reservation (marked.slots j) i false).trans (slot i).2

theorem grantsSound_conclusion (s : State) (i : SlotId) : ConclusionKeeps (GrantsSound s i) where
  grant _ _ h run c fits passed := h.grant run c fits passed
  timer u h := h.congr (accountKept_conclusion.timer u h.account) rfl rfl rfl rfl id rfl rfl rfl rfl rfl
  mark _ j h := h.mark j
  condition u b h := h.congr (accountKept_conclusion.condition u b h.account) rfl rfl rfl rfl id rfl rfl rfl rfl rfl
  flag u h := h.congr (accountKept_conclusion.flag u h.account) rfl rfl rfl rfl id rfl rfl rfl rfl rfl

/-- Before the conclusion the account is kept, no time has passed and slot `i` has not been granted. -/
structure Ungranted (s : State) (i : SlotId) (u : State) : Prop where
  account : AccountKept u
  now : u.now = s.now
  still : NotGranted i s.arbiter.lastGrant u

theorem Ungranted.sound (h : Ungranted s i u) : GrantsSound s i u :=
  ⟨h.account, h.now, fun _ => .inl h.still.last, fun up => absurd up h.still.down⟩

/-- A RESTART leaves CONFIG mode, in which nothing is granted, and no slot spinning up (R181). -/
theorem grantsSound_restart (account : AccountKept u) (now : u.now = s.now) :
    GrantsSound s i u.restartRecords.sendQueries := by
  have state : (u.restartRecords.sendQueries.slot i).state = (u.slot i).restartState := by
    simp [State.restartRecords, State.slot, SlotRecord.restarted]
  refine ⟨accountKept_restart account, by simpa [State.restartRecords] using now, fun run => ?_, fun up => ?_⟩
  · simp [State.restartRecords, defaultManagement] at run
  · rw [state, SlotRecord.restartState] at up
    split at up <;> [split at up; skip] <;> cases up

theorem grants_events (s : State) (i : SlotId) : EventsKeep (fun _ => Ungranted s i) (fun _ => GrantsSound s i) := by
  have same : ∀ {u t : State}, Ungranted s i u → AccountKept t → t.now = u.now → t.slots = u.slots →
      t.arbiter.lastGrant = u.arbiter.lastGrant → Ungranted s i t :=
    fun h account now slots last => ⟨account, now.trans h.now, h.still.same slots last⟩
  have at' : ∀ {u t : State}, Ungranted s i u → AccountKept t → NotGranted i s.arbiter.lastGrant t → t.now = u.now →
      Ungranted s i t := fun h account still now => ⟨account, now.trans h.now, still⟩
  have A := accountKept_events
  refine {
    room := fun u h _ => h
    body := fun _ u h => h.sound
    answer := fun u a h =>
      h.congr (A.answer u a h.account) ?_ ?_ ?_ ?_ (fun up => by simpa using up) ?_ ?_ ?_ ?_ ?_
    conclusion := fun _ => grantsSound_conclusion s i
    plain := fun u j f h present free => same h (A.plain u j f h.account present free) ?_ ?_ ?_
    accept := fun u j f a h present ok => at' h (A.accept u j f a h.account present ok) (h.still.accept j _) ?_
    openGroup := fun u g d f a h free => at' h (A.openGroup u g d f a h.account free) (h.still.openGroup g _) ?_
    restartPending := fun u tag h busy => same h (A.restartPending u tag h.account busy) ?_ ?_ ?_
    restart := fun u x h idle sent => grantsSound_restart (u := { u with trunk := x })
      (accountKept_congr h.account rfl rfl rfl rfl) h.now
    kindMap := fun u m h => same h (A.kindMap u m h.account) ?_ ?_ ?_
    priorityMap := fun u m q y h => same h (A.priorityMap u m q y h.account) ?_ ?_ ?_
    profile := fun u k p entry h e => at' h (A.profile u k p entry h.account e) (h.still.profile k p) ?_
    slotEntry := fun u j zone profile shed h rest => at' h (A.slotEntry u j zone profile shed h.account rest)
      ((h.still.modifySlot j _ rfl).proceed j false) ?_
    ceilings := fun u m b entry h e => same h (A.ceilings u m b entry h.account e) ?_ ?_ ?_
    stagger := fun u n h e => same h (A.stagger u n h.account e) ?_ ?_ ?_
    configureNode := fun u n c entry h e => at' h (A.configureNode u n c entry h.account e)
      (NotGranted.zones.unit.configureNode n c h.still) ?_
    rule := fun u k r entry h e => same h (A.rule u k r entry h.account e) ?_ ?_ ?_
    classStored := fun u c zones unload freeze hold entry h e off =>
      same h (A.classStored u c zones unload freeze hold entry h.account e off) ?_ ?_ ?_
    classUpdated := fun u c zones unload freeze hold entry h e on =>
      at' h (A.classUpdated u c zones unload freeze hold entry h.account e on)
        (NotGranted.zones.zones _ _ _ (NotGranted.zones.modifyClass h.still c _)) ?_
    timing := fun u m entry h e => same h (A.timing u m entry h.account e) ?_ ?_ ?_
    enterRun := fun u h mode => at' h (A.enterRun u h.account mode) h.still.enterRun (enterRun_now u)
    enterConfig := fun u h quiet => same h (A.enterConfig u h.account quiet) ?_ ?_ ?_
    clearFault := fun u j h => at' h (A.clearFault u j h.account) (h.still.clearFault j) ?_
    withdraw := fun u j h => at' h (A.withdraw u j h.account) (h.still.withdraw j) ?_
    restore := fun u j h => at' h (A.restore u j h.account) (h.still.restore j) ?_
    setEvents := fun u flags enables h => same h (A.setEvents u flags enables h.account) ?_ ?_ ?_
    supplyLine := fun u level e h => same h (A.supplyLine u level e h.account) ?_ ?_ ?_
    source := fun u h => same h (A.source u h.account) ?_ ?_ ?_
    presenceInput := fun u j level h => at' h (A.presenceInput u j level h.account) (h.still.modifySlot j _ rfl) ?_
    presenceGained := fun u j h running low => at' h (A.presenceGained u j h.account running low)
      (((h.still.presence j).modifySlot j _ rfl).arrive j (by decide)) ?_
    presenceLost := fun u j h running high => at' h (A.presenceLost u j h.account running high)
      ((h.still.presence j).presenceLost j) ?_
    completion := fun u j tag o payload h => at' h (A.completion u j tag o payload h.account)
      (h.still.takeCompletion j tag o payload) ?_
    deadline := fun u j tag h => at' h (A.deadline u j tag h.account) (h.still.takeDeadline j tag) ?_
    selfParkCounted := fun u j h => at' h (A.selfParkCounted u j h.account) (h.still.modifySlot j _ rfl) ?_
    selfParked := fun u j h st => at' h (A.selfParked u j h.account st) (h.still.selfParked j) ?_
    carrierFault := fun u j code h on => at' h (A.carrierFault u j code h.account on) (h.still.enterFault j _) ?_
    holdExpiry := fun u j h => at' h (A.holdExpiry u j h.account) ((h.still.modifySlot j _ rfl).proceed j false) ?_
    deadlineDropped := fun u j h => at' h (A.deadlineDropped u j h.account) (h.still.modifySlot j _ rfl) ?_
    waitExpired := fun u j a h e waits => at' h (A.waitExpired u j a h.account e waits)
      (((h.still.giveOutcome j _).modifySlot j _ rfl).proceed j false) ?_
    staggerExpiry := fun u h => same h (A.staggerExpiry u h.account) ?_ ?_ ?_
    sample := fun u n node seq x y z h => at' h (A.sample u n node seq x y z h.account)
      (NotGranted.zones.unit.takeSample n node seq x y z h.still) ?_
    silence := fun u n h e => at' h (A.silence u n h.account e) (NotGranted.zones.unit.silence n h.still) ?_
    classClears := fun u c h on free => at' h (A.classClears u c h.account on free) (NotGranted.zones.clear h.still c) ?_
    classWaits := fun u c h on held => same h (A.classWaits u c h.account on held) ?_ ?_ ?_ }
  all_goals simp

end

/-- Settles O58: only the conclusion's look grants, and what it compares then stands to the end of the event. -/
theorem grantsWithinCeiling : Obligations.GrantsWithinCeiling := by
  intro s t i account e waits up
  unfold step at e
  split at e
  · cases e
    have same : (s.slot i).state = .spinningUp := by simpa [State.tick, State.slot] using up
    rw [waits] at same
    cases same
  · rename_i c rest _
    have start : Ungranted s i { s with pending := rest } :=
      ⟨accountKept_congr account rfl rfl rfl rfl, rfl, ⟨by simp [waits], rfl⟩⟩
    by_cases on : c = .powerOnReset
    · subst on
      obtain ⟨inputs, line, rfl⟩ : ∃ inputs line, t = { State.powerOn inputs line with pending := rest } :=
        ⟨_, _, (Host.Outcome.next.inj e).symm⟩
      simp [State.powerOn, State.slot, powerOnSlot] at up
    · have K := grants_events s i
      have kept : GrantsSound s i t := K.exec start e on fun is => K.answerSentEvent start (is ▸ e) (fun _ _ => ?_)
        fun x _ => grantsSound_restart (accountKept_congr start.account rfl rfl rfl rfl) rfl
      · obtain ⟨run, free, fits, draw, time, stagger⟩ := kept.up up
        exact ⟨run, free, fits, draw, time, stagger⟩
      · refine start.sound.congr (accountKept_congr start.account ?_ ?_ ?_ ?_) ?_ ?_ ?_ ?_ (fun up => ?_) ?_ ?_ ?_ ?_ ?_
        all_goals simp_all

end Sys2Proof.Machine
end

section
/-! PROOFS. The resets and the tick: what a power-on reset leaves (R179), and what a step does while no command waits. -/

namespace Sys2Proof.Machine

/-! ### The tables and records after a reset -/

/-- The blocks that a reset sets to their defaults, taken at `time`. -/
structure AtDefaults (t : State) (time : Nat) : Prop where
  kindMap : t.kindMap = defaultKindMap
  arbiter : t.arbiter = { defaultArbiter with reservationTotal := t.arbiter.reservationTotal }
  profiles : t.profiles = defaultProfiles
  nodes : t.nodes = Vector.replicate 4 (defaultNode time)
  rules : t.rules = defaultRules
  classes : t.classes = defaultClasses
  zones : t.zones = defaultZones
  groups : t.groups = Vector.replicate 4 none
  mgmt : t.mgmt = { defaultManagement with flags := t.mgmt.flags }

theorem defaultRules_other : ∀ k : Fin 16, 3 ≤ k.val →
    defaultRules[k] = ⟨false, #v[false, false, false, false], .shock, 0, 1, 0, #v[0, 0, 0, 0]⟩ := by decide

theorem defaultClasses_other : ∀ c : ClassId, 2 ≤ c.val → defaultClasses[c] =
    ⟨#v[false, false, false, false], false, false, 100, false, none, #v[false, false, false, false], 0⟩ := by decide

theorem AtDefaults.held {t : State} {time : Nat} (h : AtDefaults t time) : DefaultsHeld t time := by
  obtain ⟨kindMap, arbiter, profiles, nodes, rules, classes, zones, groups, mgmt⟩ := h
  have rule : ∀ k, t.rule k = defaultRules[k] := fun k => by simp only [State.rule, rules]
  have cls : ∀ c, t.cls c = defaultClasses[c] := fun c => by simp only [State.cls, classes]
  refine {
    mode := by rw [mgmt]; rfl
    timing := by rw [mgmt]; rfl
    enables := by rw [mgmt]; rfl
    attn := by rw [mgmt]; rfl
    kindMap := fun k => by simp [kindMap, defaultKindMap]
    priorityMap := fun p => by rw [arbiter]; simp [defaultArbiter, defaultPriorityMap]
    groupSettings := by rw [arbiter]; exact ⟨rfl, rfl⟩
    queues := fun q => by rw [arbiter]; simp [defaultArbiter]
    ceilings := by rw [arbiter]; exact ⟨rfl, rfl⟩
    stagger := by rw [arbiter]; exact ⟨rfl, rfl, rfl⟩
    profiles := fun k => by simp [profiles, defaultProfiles, defaultProfile]
    nodes := fun n => by simp [State.node, nodes, defaultNode, defaultNodeConfig]
    rule0 := by rw [rule]; rfl
    rule1 := by rw [rule]; rfl
    rule2 := by rw [rule]; rfl
    otherRules := fun k above => ?_
    class0 := by rw [cls]; rfl
    class1 := by rw [cls]; rfl
    otherClasses := fun c above => ?_
    zones := fun z => by simp [zones, defaultZones]
    groups := fun g => by simp [State.group, groups] }
  · rw [rule]; exact defaultRules_other k above
  · rw [cls]; exact defaultClasses_other c above

/-- Settles O4, from the defaults of each block. -/
theorem powerOnResetDefaults : Obligations.PowerOnResetDefaults := by
  intro s
  refine ⟨_, rfl, AtDefaults.held ⟨rfl, rfl, rfl, rfl, rfl, rfl, rfl, rfl, rfl⟩, rfl, rfl, rfl, rfl, rfl, ?_, fun i => ?_⟩
  · cases level : s.supply.line <;> simp [State.powerOn, powerOnSupply, resetDebounce, sourceOf, defaultDebounceTime]
  · have zone : (defaultZone i).val = i.val / 6 := rfl
    cases level : (s.slot i).input <;>
      simp [State.powerOn, State.lane, State.slot, powerOnSlot, resetDebounce, zone, seated, powerOnLane,
        defaultDebounceTime] <;> simp_all [State.slot]

/-- Settles O57: each invariant holds of the defaults. -/
theorem keptAtReset : Obligations.KeptAtReset := by
  have settled := allSettled_iff.1 (allSettled_powerOn (T := True) (Vector.replicate 24 .high) .low)
  have sensors := nodesKept_iff.2 (sensorsKept_defaults State.reset 0)
  exact ⟨accountKept_powerOn _ _, settled.1, settled.2 trivial, lanesKept_powerOn _ _, sensors.1, sensors.2,
    countersKept_reset, holdsKept_reset, groupsKept_powerOn _ _, trunkKept_powerOn _ _, attnKept_of_eq rfl,
    tablesKept_iff.2 ⟨sensorTablesKept_reset, unitTablesKept_reset⟩⟩

/-! ### The step and the tick -/

/-- Settles O1, by the equation of `step` at a queue that is not empty. -/
theorem stepTakesFrontCommand : Obligations.StepTakesFrontCommand := by
  intro s c rest waits
  unfold step
  rw [waits]

/-! ### A full egress queue (R137) -/

section
variable {s : State}

theorem withRoom_full (full : s.freeEntries = 0) (take : State → State) : s.withRoom take = s := by
  rw [State.withRoom, if_pos full]

theorem next_withRoom_full (full : s.freeEntries = 0) (take : State → State) :
    (Host.Outcome.next (s.withRoom take) : Host.Outcome State Fault Refusal) = .next s := by
  rw [withRoom_full full]

theorem tableWrite_full (full : s.freeEntries = 0) (tb : Table) (tag index : Byte) (entry : List Byte)
    (write : State → Written) : s.tableWrite tb tag index entry write = s := by
  unfold State.tableWrite State.manage
  exact withRoom_full full _

theorem runTableWrite_full (full : s.freeEntries = 0) (tb : Table) (tag index : Byte) (entry : List Byte) :
    runTableWrite tb tag index entry s = .next s := by
  cases tb <;> exact congrArg _ (tableWrite_full full _ _ _ _ _)

/-- A management frame other than RESTART is taken by `withRoom`. -/
theorem runManagement_full (full : s.freeEntries = 0) {kind : Byte} (other : kind.toNat ≠ 11) (tag : Byte)
    (payload : List Byte) : runManagement kind tag payload s = .next s := by
  have taken := next_withRoom_full full
  unfold runManagement
  split
  case h_2 => split; exacts [runTableWrite_full full _ _ _ _, taken _]
  case h_6 => split <;> exact taken _
  case h_12 restart => exact absurd restart other
  all_goals exact taken _

/-- Past the slots, the zones and ALL, only the gateway itself is left (R120, R142, R185). -/
theorem destination_gateway {f : TrunkFrame} (fine : f.malformed = false) (slot : indexBelow 24 f.destination.toNat = none)
    (zone : indexBelow 4 (f.destination.toNat - 24) = none) (all : f.destination.toNat ≠ Config.allAddress) :
    f.destination.toNat = 31 := by
  have within : f.refusedField = false := by
    simp only [TrunkFrame.malformed, Bool.or_eq_false_iff] at fine
    exact fine.1
  simp only [TrunkFrame.refusedField, Bool.or_eq_false_iff] at within
  have destination := of_decide_eq_false within.1.1.1
  simp only [indexBelow, dite_eq_right_iff, reduceCtorEq, imp_false, Config.allAddress, Config.gatewayAddress] at slot zone all destination
  omega

theorem execMalformedFrame_full (full : s.freeEntries = 0) {f : TrunkFrame}
    (other : trunkFrameCommand (.malformedFrame f) = true) : execMalformedFrame f s = .next s := by
  have taken := next_withRoom_full full
  unfold execMalformedFrame
  split
  · exact taken _
  · split
    · exact taken _
    · split
      · exact taken _
      · split
        · exact taken _
        · rename_i fine _ slot _ zone all
          refine runManagement_full full (fun restart => ?_) _ _
          have gateway := destination_gateway (by simpa using fine) slot zone all
          have malformed : f.malformed = false := by simpa using fine
          simp [trunkFrameCommand, malformed, gateway, restart] at other

end

/-- Settles O8: every such frame is taken by `withRoom`, which finds no entry. -/
theorem fullEgressDiscardsFrames : Obligations.FullEgressDiscardsFrames := by
  intro s c full frame
  cases c
  case malformedFrame f => exact execMalformedFrame_full full frame
  case restart tag p =>
    have payload : managementMalformed restartKind p = true := by
      simpa [trunkFrameCommand, managementMalformed, restartKind] using frame
    change execRestart tag p s = _
    rw [execRestart, if_pos payload, withRoom_full full]
  case kindMapWrite => exact runTableWrite_full full .kindMap _ _ _
  case priorityMapWrite => exact runTableWrite_full full .priorityMap _ _ _
  case drawProfileWrite => exact runTableWrite_full full .drawProfiles _ _ _
  case slotConfigurationWrite => exact runTableWrite_full full .slotConfiguration _ _ _
  case ceilingsWrite => exact runTableWrite_full full .ceilings _ _ _
  case staggerWrite => exact runTableWrite_full full .stagger _ _ _
  case nodeConfigurationWrite => exact runTableWrite_full full .nodeConfiguration _ _ _
  case motionRuleWrite => exact runTableWrite_full full .motionRules _ _ _
  case classWrite => exact runTableWrite_full full .classes _ _ _
  case timingWrite => exact runTableWrite_full full .timing _ _ _
  all_goals try contradiction
  all_goals exact next_withRoom_full full _

/-! ### The tick (log 2, log 3, log 21) -/

theorem insertByRank_perm (rank : Instr → Nat) (c : Instr) (l : List Instr) : (insertByRank rank c l).Perm (c :: l) := by
  induction l with
  | nil => rfl
  | cons d l ih =>
    unfold insertByRank
    split
    · rfl
    · exact (ih.cons d).trans (List.Perm.swap c d l)

theorem sortByRank_perm (rank : Instr → Nat) (l : List Instr) : (sortByRank rank l).Perm l := by
  induction l with
  | nil => rfl
  | cons c l ih => exact (insertByRank_perm rank c _).trans (ih.cons c)

section
variable {s : State}

theorem startTransmission_of_idle (idle : s.trunk.transmitting = false) (none : s.trunk.restartPending = none)
    (some_ : s.trunk.queue ≠ []) : s.startTransmission.trunk = { s.trunk with
      transmitting := true, flowDue := [], transmitted := s.trunk.transmitted ++ s.trunk.flowDue.map .symbol } := by
  have begins : (s.trunk.transmitting || s.trunk.queue.isEmpty || s.trunk.restartPending.isSome) = false := by
    simp [idle, none, some_]
  rw [State.startTransmission, begins]
  rfl

theorem startTransmission_of_not (busy : s.trunk.transmitting = true ∨ s.trunk.restartPending ≠ none ∨ s.trunk.queue = []) :
    s.startTransmission = s := by
  have stays : (s.trunk.transmitting || s.trunk.queue.isEmpty || s.trunk.restartPending.isSome) = true := by
    rcases busy with busy | busy | busy
    · simp [busy]
    · simp [Option.isSome_iff_ne_none.2 busy]
    · simp [busy]
  rw [State.startTransmission, stays]
  rfl

theorem mem_dueIf {due : Bool} {c d : Instr} : c ∈ dueIf due d ↔ due = true ∧ c = d := by
  unfold dueIf; cases due <;> simp

theorem reached_iff {now : Nat} {e : Option Nat} : reached now e = true ↔ ∃ x ∈ e, x ≤ now := by
  cases e <;> simp [reached]

/-- Which commands wait of one slot and its lane. -/
theorem mem_dueOfSlot {i : SlotId} {c : Instr} : c ∈ s.dueOfSlot i ↔
    (c = .presenceDebounceExpiry i ∧ ∃ e ∈ (s.slot i).debounceExpiry, e ≤ s.now) ∨
    (∃ g ∈ (s.lane i).governed, c = .opDeadlineExpiry i g.tag ∧ g.deadline ≤ s.now) ∨
    (∃ p ∈ (s.lane i).preempting, c = .opDeadlineExpiry i p.tag ∧ p.deadline ≤ s.now) ∨
    (∃ p ∈ (s.lane i).plain, c = .opDeadlineExpiry i p.tag ∧ p.deadline ≤ s.now) ∨
    (c = .selfParkHoldExpiry i ∧ ∃ e ∈ (s.slot i).selfParkExpiry, e ≤ s.now) ∨
    (c = .waitDeadline i ∧ ∃ a ∈ (s.slot i).active, ∃ e ∈ a.waitDeadline, e ≤ s.now) := by
  simp only [State.dueOfSlot, List.mem_append, List.mem_flatMap, Option.mem_toList, mem_dueIf, decide_eq_true_eq,
    reached_iff, Option.any_eq_true]
  constructor
  · rintro (((((⟨due, rfl⟩ | ⟨g, m, due, rfl⟩) | ⟨p, m, due, rfl⟩) | ⟨p, m, due, rfl⟩) | ⟨due, rfl⟩) | ⟨⟨a, m, due⟩, rfl⟩)
    all_goals simp_all
  · rintro (⟨rfl, due⟩ | ⟨g, m, rfl, due⟩ | ⟨p, m, rfl, due⟩ | ⟨p, m, rfl, due⟩ | ⟨rfl, due⟩ | ⟨rfl, due⟩)
    all_goals simp_all

theorem mem_due {c : Instr} : c ∈ s.due ↔ (∃ i, c ∈ s.dueOfSlot i) ∨
    (c = .sourceDebounceExpiry ∧ ∃ e ∈ s.supply.debounceExpiry, e ≤ s.now) ∨
    (c = .staggerTimerExpiry ∧ ∃ e ∈ s.arbiter.staggerExpiry, e ≤ s.now) ∨
    (∃ n, c = .silenceTimerExpiry n ∧ ∃ e ∈ (s.node n).silenceExpiry, e ≤ s.now) ∨
    (∃ k, c = .classExpiry k ∧ (s.cls k).active = true ∧ ∃ e ∈ (s.cls k).expiry, e ≤ s.now) := by
  have every : ∀ i : SlotId, i ∈ allSlots := List.mem_finRange
  simp only [State.due, List.mem_append, List.mem_flatMap, List.mem_finRange, true_and, mem_dueIf, reached_iff,
    Bool.and_eq_true, every, or_assoc, and_comm]

theorem due_congr {t : State} (slots : t.slots = s.slots) (lanes : t.lanes = s.lanes) (supply : t.supply = s.supply)
    (arbiter : t.arbiter = s.arbiter) (nodes : t.nodes = s.nodes) (classes : t.classes = s.classes) (now : t.now = s.now) :
    t.due = s.due := by
  have ofSlot : t.dueOfSlot = s.dueOfSlot := by
    funext i
    simp only [State.dueOfSlot, State.slot, State.lane, slots, lanes, now]
  simp only [State.due, ofSlot, State.node, State.cls, supply, arbiter, nodes, classes, now]

end

/-- Settles O3: the tick's queue is a permutation of the reached expiries. -/
theorem idleStepIsTick : Obligations.IdleStepIsTick := by
  intro s empty
  have waits : s.tick.pending.Perm ({ s with now := s.now + 1 } : State).due := by
    refine (sortByRank_perm _ _).trans (List.Perm.of_eq ?_)
    apply due_congr <;> simp
  have mem : ∀ c, c ∈ s.tick.pending ↔ c ∈ ({ s with now := s.now + 1 } : State).due := fun c => waits.mem_iff
  have trunk : s.tick.trunk = ({ s with now := s.now + 1 } : State).startTransmission.trunk := rfl
  refine ⟨s.tick, by rw [step, empty], ?_, fun idle none some_ => ?_, fun busy => ?_, ?_⟩
  · rw [State.tick, EventsKeep.startTransmission_eq]
  · rw [trunk, startTransmission_of_idle (s := { s with now := s.now + 1 }) idle none some_]
  · rw [trunk, startTransmission_of_not (s := { s with now := s.now + 1 }) busy]
  · simp only [mem, mem_due, mem_dueOfSlot]
    refine ⟨fun i => ?_, fun i => ?_, fun i => ?_, fun i tag => ?_, ?_, ?_, fun n => ?_, fun c => ?_, waits⟩ <;> simp
    constructor
    · rintro ⟨_, ⟨g, m, ⟨rfl, rfl⟩, due⟩ | ⟨p, m, ⟨rfl, rfl⟩, due⟩ | ⟨p, m, ⟨rfl, rfl⟩, due⟩⟩
      exacts [.inl ⟨g, m, rfl, due⟩, .inr (.inl ⟨p, m, rfl, due⟩), .inr (.inr ⟨p, m, rfl, due⟩)]
    · rintro (⟨g, m, rfl, due⟩ | ⟨p, m, rfl, due⟩ | ⟨p, m, rfl, due⟩)
      exacts [⟨i, .inl ⟨g, m, ⟨rfl, rfl⟩, due⟩⟩, ⟨i, .inr (.inl ⟨p, m, ⟨rfl, rfl⟩, due⟩)⟩,
        ⟨i, .inr (.inr ⟨p, m, ⟨rfl, rfl⟩, due⟩)⟩]

end Sys2Proof.Machine
end

section
/-! PROOFS. What leaves on the links: the queue of frames, what was sent on the trunk link and the lanes, and a RESTART that
waits (R136, R137, R180; log 1, log 6, log 11). -/

namespace Sys2Proof.Machine

/-- What the trunk port, the lanes' records of what was sent, the time and the waiting commands alone decide, and what an
answer, a reservation and an op sent keep. -/
structure LinksKeep (P : State → Prop) : Prop where
  congr : ∀ s t : State, P s → t.trunk = s.trunk → t.lanes = s.lanes → t.now = s.now → t.pending = s.pending → P t
  lane : ∀ s i f, P s → (s.lane i).transmitted <+: (f (s.lane i)).transmitted → P (s.modifyLane i f)
  answer : ∀ s a, P s → P (s.answer a)
  answerOwed : ∀ s a, P s → P (s.answerOwed a)
  reserve : ∀ s, P s → P s.takeReservation
  restartPending : ∀ s tag, P s → s.trunk.transmitting = true →
    P { s with trunk := { s.trunk with restartPending := some tag } }
  restart : ∀ s x, P s → s.trunk.transmitting = false → s.trunk.transmitted <+: x.transmitted →
    P ({ s with trunk := x } : State).restartRecords.sendQueries

namespace LinksKeep

section
variable {P : State → Prop} {s : State}

theorem modifySlot (K : LinksKeep P) (h : P s) (i : SlotId) (f : SlotRecord → SlotRecord) : P (s.modifySlot i f) :=
  K.congr s _ h rfl rfl rfl rfl

theorem setGroup (K : LinksKeep P) (h : P s) (g : GroupId) (x : Option GroupRecord) : P (s.setGroup g x) :=
  K.congr s _ h rfl rfl rfl rfl

theorem setFlag (K : LinksKeep P) (h : P s) (f : Flag) : P (s.setFlag f) := K.congr s _ h rfl rfl rfl rfl

theorem modifyClass (K : LinksKeep P) (h : P s) (c : ClassId) (f : ClassRecord → ClassRecord) : P (s.modifyClass c f) :=
  K.congr s _ h rfl rfl rfl rfl

theorem dequeue (K : LinksKeep P) (h : P s) (i : SlotId) : P (s.dequeue i) := K.congr s _ h rfl rfl rfl rfl

theorem ask (K : LinksKeep P) (h : P s) (i : SlotId) (op : GovernedOp) : P (s.ask i op) :=
  K.lane s i _ h (LaneRecord.ask_frame _ op _ _).2.2.2

theorem enterState (K : LinksKeep P) (h : P s) (i : SlotId) (st : SlotState) : P (s.enterState i st) :=
  K.congr s _ h rfl rfl rfl rfl

theorem spinDown (K : LinksKeep P) (h : P s) (i : SlotId) (kept : DrawKept) : P (s.spinDown i kept) :=
  K.ask (K.enterState (K.modifySlot h i _) i _) i _

theorem unloadHeads (K : LinksKeep P) (h : P s) (i : SlotId) (onset : Bool) : P (s.unloadHeads i onset) :=
  K.ask (K.enterState (K.modifySlot h i _) i _) i _

theorem proceed (K : LinksKeep P) (h : P s) (i : SlotId) (onset : Bool) : P (s.proceed i onset) := by
  have taken := proceedStep s i onset
  generalize s.proceed i onset = t at taken ⊢
  cases taken with
  | stays _ => exact h
  | raised _ _ _ => exact K.congr s _ h rfl rfl rfl rfl
  | withdrawn _ _ => exact K.congr s _ h rfl rfl rfl rfl
  | spunDown kept _ _ => exact K.spinDown h i kept
  | loads _ _ => exact K.ask (K.enterState h i _) i _
  | unloads _ _ => exact K.unloadHeads h i onset

theorem closeIfEmpty (K : LinksKeep P) (h : P s) (g : GroupId) : P (s.closeIfEmpty g) := by
  unfold State.closeIfEmpty
  split
  · split
    · exact K.setGroup (K.answerOwed s _ h) g _
    · exact h
  · exact h

theorem recordOutcome (K : LinksKeep P) (h : P s) (g : GroupId) (i : SlotId) (code : AnswerCode) :
    P (s.recordOutcome g i code) := by
  unfold State.recordOutcome
  split
  · split
    · exact K.closeIfEmpty (K.setGroup h g _) g
    · exact h
  · exact h

theorem giveOutcome (K : LinksKeep P) (h : P s) (i : SlotId) (code : AnswerCode) : P (s.giveOutcome i code) := by
  unfold State.giveOutcome
  split
  · exact h
  · dsimp only
    split
    · exact K.answerOwed _ _ (K.modifySlot h i _)
    · exact K.recordOutcome (K.modifySlot h i _) _ i code

theorem completeIfReached (K : LinksKeep P) (h : P s) (i : SlotId) : P (s.completeIfReached i) := by
  rcases s.completeIfReached_cases i with ⟨e, _⟩ | ⟨e, _⟩ <;> rw [e]
  · exact h
  · exact K.giveOutcome h i _

theorem arrive (K : LinksKeep P) (h : P s) (i : SlotId) (st : SlotState) : P (s.arrive i st) :=
  K.proceed (K.completeIfReached (K.enterState h i st) i) i false

theorem enterFault (K : LinksKeep P) (h : P s) (i : SlotId) (cause : FaultCause) : P (s.enterFault i cause) := by
  have abandoned := K.lane _ i LaneRecord.abandonGoverned (K.enterState h i .fault) (by simp)
  exact K.giveOutcome (K.setFlag (K.modifySlot abandoned i _) _) i _

theorem takeOutcome (K : LinksKeep P) (h : P s) (i : SlotId) (op : GovernedOp) (o : OpOutcome) (report : Option Byte) :
    P (s.takeOutcome i op o report) := by
  have taken := takeOutcome_taken s i op o report
  generalize s.takeOutcome i op o report = t at taken ⊢
  cases taken with
  | unnamed _ => exact h
  | failed cause _ => exact K.enterFault h i cause
  | spun _ _ => exact K.arrive h i _
  | loaded _ _ => exact K.arrive h i _
  | unloaded _ _ => exact K.arrive h i _
  | stopped _ _ => exact K.arrive (K.modifySlot h i _) i _
  | reported _ _ _ _ _ => exact K.arrive (K.modifySlot h i _) i _

theorem settleResidual_transmitted (r : LaneRecord) (g : GovernedRecord) (o : OpOutcome) (now : Nat)
    (duration : GovernedOp → Nat) : r.transmitted <+: (r.settleResidual g o now duration).transmitted := by
  unfold LaneRecord.settleResidual
  dsimp only
  split
  · exact List.prefix_rfl
  · simp [LaneRecord.issueGoverned]

theorem settleGoverned (K : LinksKeep P) (h : P s) (i : SlotId) (g : GovernedRecord) (o : OpOutcome)
    (report : Option Byte) : P (s.settleGoverned i g o report) := by
  unfold State.settleGoverned
  split
  · exact K.takeOutcome (K.lane s i _ h List.prefix_rfl) i _ _ _
  · exact K.lane s i _ h List.prefix_rfl
  · exact K.lane s i _ h (settleResidual_transmitted ..)

theorem settlePreempting (K : LinksKeep P) (h : P s) (i : SlotId) (p : PreemptingRecord) (o : OpOutcome)
    (report : Option Byte) : P (s.settlePreempting i p o report) :=
  K.takeOutcome (K.lane s i _ h List.prefix_rfl) i _ _ _

theorem settlePlain (K : LinksKeep P) (h : P s) (i : SlotId) (p : PlainRecord) (o : OpOutcome) (payload : List Byte) :
    P (s.settlePlain i p o payload) := K.answerOwed _ _ (K.lane s i _ h List.prefix_rfl)

theorem retire (K : LinksKeep P) (h : P s) (i : SlotId) (tag : Byte) : P (s.retire i tag) :=
  K.lane s i _ h List.prefix_rfl

theorem takeCompletion (K : LinksKeep P) (h : P s) (i : SlotId) (tag : Byte) (o : CompletionOutcome)
    (payload : List Byte) : P (s.takeCompletion i tag o payload) := by
  unfold State.takeCompletion
  split
  · exact K.settleGoverned h i _ _ _
  · exact K.settlePreempting h i _ _ _
  · exact K.settlePlain h i _ _ _
  · exact K.modifySlot (K.lane s i _ h List.prefix_rfl) i _

theorem takeDeadline (K : LinksKeep P) (h : P s) (i : SlotId) (tag : Byte) : P (s.takeDeadline i tag) := by
  unfold State.takeDeadline
  split
  · split
    · exact K.settleGoverned (K.retire h i _) i _ _ _
    · exact h
  · split
    · exact K.retire (K.settlePreempting h i _ _ _) i _
    · exact h
  · split
    · exact K.settlePlain (K.retire h i _) i _ _ _
    · exact h
  · exact h

theorem conclusion (K : LinksKeep P) : ConclusionKeeps P where
  grant u i h _ _ _ _ := by
    have left : P { u.dequeue i with arbiter := { (u.dequeue i).arbiter with
        lastGrant := some (u.dequeue i).now, staggerExpiry := none } } := K.congr u _ h rfl rfl rfl rfl
    exact K.ask (K.enterState (K.modifySlot left i _) i _) i _
  timer u h := K.congr u _ h rfl rfl rfl rfl
  mark u i h := K.proceed (K.giveOutcome (K.modifySlot h i _) i _) i false
  condition u b h := K.congr u _ h rfl rfl rfl rfl
  flag u h := K.congr u _ h rfl rfl rfl rfl

theorem accept (K : LinksKeep P) (h : P s) (i : SlotId) (a : ActiveRequest) : P (s.accept i a) := by
  have reserved : P ((s.giveOutcome i .superseded).reserveFor a.origin) := by
    unfold State.reserveFor
    split
    · exact K.reserve _ (K.giveOutcome h i _)
    · exact K.giveOutcome h i _
  exact K.completeIfReached (K.proceed (K.modifySlot reserved i _) i false) i

theorem openGroup (K : LinksKeep P) (h : P s) (g : GroupId) (r : GroupRecord) : P (s.openGroup g r) := by
  unfold State.openGroup
  have opened : P ((s.takeReservation).setGroup g (some r)) := K.setGroup (K.reserve s h) g _
  refine K.closeIfEmpty (State.forSlots_induct r.remaining opened fun i _ u hu => ?_) g
  unfold State.takeMember
  split
  · exact K.recordOutcome hu g i _
  · exact K.accept hu i _

theorem zones (K : LinksKeep P) (h : P s) (zs : Set4) (onset : Bool) : P (s.updateZones zs onset) :=
  State.updateZones_induct s zs onset (K.congr s _ h rfl rfl rfl rfl) fun _ i hu => K.proceed hu i onset

theorem activate (K : LinksKeep P) (h : P s) (c : ClassId) : P (s.activate c) := by
  unfold State.activate
  split
  · exact h
  · exact K.zones (K.setFlag (K.modifyClass h c _) _) _ _

theorem unit (K : LinksKeep P) : HoldUnitKeeps P where
  node s n f h := K.congr s _ h rfl rfl rfl rfl
  counters s k v h := K.congr s _ h (by simp) (by simp) (by simp) (by simp)
  zero s n h := K.congr s _ h (by simp) (by simp) (by simp) (by simp)
  flag s h := K.congr s _ h rfl rfl rfl rfl
  fire s c h := by unfold State.fire; exact K.activate (K.modifyClass h c _) c
  join s n c h := by unfold State.joinClass; exact K.activate (K.modifyClass h c _) c
  leave s n c h := by unfold State.leaveClass; exact K.modifyClass h c _

theorem laneGone (K : LinksKeep P) (h : P s) (i : SlotId) : P (s.laneGone i) := by
  have gone := K.lane s i LaneRecord.abandonAll h (by simp)
  unfold State.laneGone
  dsimp only
  split
  · exact K.answerOwed _ _ gone
  · exact gone

theorem presenceLost (K : LinksKeep P) (h : P s) (i : SlotId) : P (s.presenceLost i) := by
  unfold State.presenceLost
  exact K.modifySlot (K.enterState (K.dequeue (K.giveOutcome (K.laneGone h i) i .gone) i) i .empty) i _

theorem selfParked (K : LinksKeep P) (h : P s) (i : SlotId) :
    P (((s.startSelfPark i).setFlag .selfPark).arrive i .parked) := by
  refine K.arrive (K.congr s _ h ?_ ?_ ?_ ?_) i .parked <;> simp

theorem enterRun (K : LinksKeep P) (h : P s) : P ((s.setMode .run).forSlots allSlots fun i t =>
    if (t.slot i).state = .stopped then t.proceed i false else t) := by
  refine State.forSlots_induct _ (K.congr s _ h rfl rfl rfl rfl) fun i _ t ht => ?_
  split
  · exact K.proceed ht i false
  · exact ht

theorem clearFault (K : LinksKeep P) (h : P s) (i : SlotId) : P (s.clearFaultOf i) := by
  unfold State.clearFaultOf
  split
  · exact K.arrive (K.modifySlot h i _) i _
  · exact h

theorem withdraw (K : LinksKeep P) (h : P s) (i : SlotId) : P (s.withdrawSlot i) := by
  unfold State.withdrawSlot
  split
  · exact K.proceed (K.giveOutcome (K.modifySlot h i _) i _) i false
  · exact h

theorem restore (K : LinksKeep P) (h : P s) (i : SlotId) : P (s.restoreSlot i) := by
  unfold State.restoreSlot
  split
  · exact h
  · exact K.proceed (K.modifySlot h i _) i false

theorem presence (K : LinksKeep P) (h : P s) (i : SlotId) : P ((s.modifySlot i fun r =>
    { r with present := seated r.input, debounceExpiry := none }).setFlag .presenceChange) := K.congr s _ h rfl rfl rfl rfl

end

theorem events {P : State → Prop} (K : LinksKeep P) : EventsKeep (fun _ => P) (fun _ => P) := by
  have same : ∀ {s t : State}, P s → t.trunk = s.trunk → t.lanes = s.lanes → t.now = s.now → t.pending = s.pending → P t :=
    fun h => K.congr _ _ h
  refine {
    room := fun s h _ => h
    body := fun _ s h => h
    answer := fun s a h => K.answer s a h
    conclusion := fun _ => K.conclusion
    plain := fun s i f h _ _ => K.lane _ i _ (K.reserve s h) ?_
    accept := fun s i f a h _ _ => K.accept h i _
    openGroup := fun s g d f a h _ => K.openGroup h g _
    restartPending := K.restartPending
    restart := K.restart
    kindMap := fun s m h => same h ?_ ?_ ?_ ?_
    priorityMap := fun s m q y h => same h ?_ ?_ ?_ ?_
    profile := fun s k p entry h _ => same h ?_ ?_ ?_ ?_
    slotEntry := fun s i zone profile shed h rest => K.proceed (K.modifySlot h i _) i false
    ceilings := fun s m b entry h _ => same h ?_ ?_ ?_ ?_
    stagger := fun s n h _ => same h ?_ ?_ ?_ ?_
    configureNode := fun s n c entry h _ => K.unit.configureNode n c h
    rule := fun s k r entry h _ => same h ?_ ?_ ?_ ?_
    classStored := fun s c zones unload freeze hold entry h _ _ => same h ?_ ?_ ?_ ?_
    classUpdated := fun s c zones unload freeze hold entry h _ _ => K.zones (K.modifyClass h c _) _ _
    timing := fun s m entry h _ => same h ?_ ?_ ?_ ?_
    enterRun := fun s h _ => K.enterRun h
    enterConfig := fun s h _ => same h ?_ ?_ ?_ ?_
    clearFault := fun s i h => K.clearFault h i
    withdraw := fun s i h => K.withdraw h i
    restore := fun s i h => K.restore h i
    setEvents := fun s flags enables h => same h ?_ ?_ ?_ ?_
    supplyLine := fun s level e h => same h ?_ ?_ ?_ ?_
    source := fun s h => same h ?_ ?_ ?_ ?_
    presenceInput := fun s i level h => K.modifySlot h i _
    presenceGained := fun s i h _ _ => K.arrive (K.modifySlot (K.presence h i) i _) i _
    presenceLost := fun s i h _ _ => K.presenceLost (K.presence h i) i
    completion := fun s i tag o payload h => K.takeCompletion h i tag o payload
    deadline := fun s i tag h => K.takeDeadline h i tag
    selfParkCounted := fun s i h => K.modifySlot h i _
    selfParked := fun s i h _ => K.selfParked h i
    carrierFault := fun s i code h _ => K.enterFault h i _
    holdExpiry := fun s i h => K.proceed (K.modifySlot h i _) i false
    deadlineDropped := fun s i h => K.modifySlot h i _
    waitExpired := fun s i a h _ _ => K.proceed (K.modifySlot (K.giveOutcome h i _) i _) i false
    staggerExpiry := fun s h => same h ?_ ?_ ?_ ?_
    sample := fun s n node seq x y z h => K.unit.takeSample n node seq x y z h
    silence := fun s n h _ => K.unit.silence n h
    classClears := fun s c h _ _ => K.zones (K.setFlag (K.modifyClass h c _) _) _ _
    classWaits := fun s c h _ _ => same h ?_ ?_ ?_ ?_ }
  all_goals simp [LaneRecord.issuePlain]

end LinksKeep

/-! ### The queue of commands, time, and what was sent (log 1, log 6, log 11) -/

/-- What the event that began in `s` leaves of the waiting commands, the time and what was sent. -/
structure LinksSince (s u : State) : Prop where
  pending : u.pending = s.pending
  now : u.now = s.now
  trunk : s.trunk.transmitted <+: u.trunk.transmitted
  lanes : ∀ i, (s.lane i).transmitted <+: (u.lane i).transmitted

section
variable {s t u : State}

theorem LinksSince.trans (h : LinksSince s u) (next : LinksSince u t) : LinksSince s t :=
  ⟨next.pending.trans h.pending, next.now.trans h.now, h.trunk.trans next.trunk, fun i => (h.lanes i).trans (next.lanes i)⟩

theorem LinksSince.of_trunk (trunk : u.trunk.transmitted <+: t.trunk.transmitted) (lanes : t.lanes = u.lanes)
    (now : t.now = u.now) (pending : t.pending = u.pending) : LinksSince u t :=
  ⟨pending, now, trunk, fun i => by unfold State.lane; rw [lanes]⟩

theorem linksSince_restart (s : State) (x : TrunkPort) (sent : s.trunk.transmitted <+: x.transmitted) :
    LinksSince s ({ s with trunk := x } : State).restartRecords.sendQueries := by
  refine ⟨by simp [State.restartRecords], by simp [State.restartRecords], by
    simpa [State.restartRecords, TrunkPort.restarted] using sent, fun i => ?_⟩
  have start : (({ s with trunk := x } : State).restartRecords.lane i).transmitted = (s.lane i).transmitted := by
    simp [State.restartRecords, State.lane, LaneRecord.restarted]
  rw [State.sendQueries_lane, ← start]
  split
  · exact (LaneRecord.ask_frame _ _ _ _).2.2.2
  · exact List.prefix_rfl

theorem linksSince_links (s : State) : LinksKeep (LinksSince s) where
  congr u t h trunk lanes now pending := h.trans (.of_trunk (by rw [trunk]) lanes now pending)
  lane u i f h sent := by
    refine h.trans ⟨rfl, rfl, List.prefix_rfl, fun j => ?_⟩
    by_cases same : j = i
    · subst same; rwa [State.lane_modifyLane_self]
    · rw [State.lane_modifyLane_of_ne _ same]
  answer u a h := h.trans (.of_trunk (u.answer_transmitted a) (by simp) (by simp) (by simp))
  answerOwed u a h := h.trans (.of_trunk (u.answerOwed_transmitted a) (by simp) (by simp) (by simp))
  reserve u h := h.trans (.of_trunk u.takeReservation_transmitted (by simp) (by simp) (by simp))
  restartPending u tag h _ := h.trans (.of_trunk List.prefix_rfl rfl rfl rfl)
  restart u x h _ sent := h.trans (linksSince_restart u x sent)

theorem linksSince_sent (s : State) :
    LinksSince s (s.startTransmission.headSent.sendSymbols.refreshFlow).startTransmission := by
  refine .of_trunk ?_ (by simp) (by simp) (by simp)
  refine (s.startTransmission_transmitted.trans (EventsKeep.headSent_transmitted _)).trans ?_
  refine List.IsPrefix.trans ?_ (State.startTransmission_transmitted _)
  exact List.IsPrefix.trans (List.prefix_append _ _) (State.refreshFlow_transmitted s.startTransmission.headSent.sendSymbols)

end

/-- Settles O2: every event but a power-on reset only adds to what was sent. -/
theorem commandsKeepQueueAndTime : Obligations.CommandsKeepQueueAndTime := by
  intro s t c e
  by_cases on : c = .powerOnReset
  · subst on
    cases e
    exact ⟨rfl, fun off => absurd rfl off⟩
  · have K := (linksSince_links s).events
    have start : LinksSince s s := ⟨rfl, rfl, List.prefix_rfl, fun _ => List.prefix_rfl⟩
    obtain ⟨pending, now, trunk, lanes⟩ : LinksSince s t := K.exec start e on fun is =>
      K.answerSentEvent start (is ▸ e) (fun _ _ => linksSince_sent s) fun x sent => linksSince_restart s x sent
    exact ⟨pending, fun _ => ⟨now, trunk, lanes⟩⟩

/-! ### A RESTART waits for the frame in transmission (R180) -/

/-- A frame is still in transmission, a RESTART still waits for it, and no frame has left the queue since `s`. -/
structure RestartWaits (s u : State) : Prop where
  busy : u.trunk.transmitting = true
  waits : u.trunk.restartPending.isSome = true
  queue : s.trunk.queue <+: u.trunk.queue

theorem restartWaits_links (s : State) : LinksKeep (RestartWaits s) where
  congr u t h trunk _ _ _ := ⟨by rw [trunk]; exact h.busy, by rw [trunk]; exact h.waits, by rw [trunk]; exact h.queue⟩
  lane u i f h _ := ⟨h.busy, h.waits, h.queue⟩
  answer u a h := ⟨by simpa using h.busy, by simpa using h.waits, by simpa using h.queue.trans (List.prefix_append _ _)⟩
  answerOwed u a h := by
    obtain ⟨busy, waits, queue⟩ := h
    refine ⟨?_, by simpa using waits, by simpa using queue.trans (List.prefix_append _ _)⟩
    simpa [State.answerOwed] using busy
  reserve u h := ⟨by simpa using h.busy, by simpa using h.waits, by simpa using h.queue⟩
  restartPending u tag h _ := ⟨h.busy, rfl, h.queue⟩
  restart u x h idle _ := absurd h.busy (by simp [idle])

/-- Settles O5: an event that finds a frame in transmission reaches no execution, and the tick begins no frame. -/
theorem restartWaitsForFrame : Obligations.RestartWaitsForFrame := by
  intro s tag
  refine ⟨fun busy => ?_, fun busy waits => ⟨fun c t other reset e => ?_, fun t empty e => ?_⟩, fun busy => ?_, fun none => ?_⟩
  · change execRestart tag [] s = _
    simp [execRestart, managementMalformed, restartKind, State.requestRestart, State.restartIfIdle, busy]
  · have start : RestartWaits s s := ⟨busy, waits, List.prefix_rfl⟩
    obtain ⟨busy', waits', queue⟩ : RestartWaits s t :=
      (restartWaits_links s).events.exec start e reset fun is => absurd is other
    exact ⟨busy', waits', queue⟩
  · rw [step, empty] at e
    cases e
    have same := startTransmission_of_not (s := { s with now := s.now + 1 }) (.inl busy)
    rw [State.tick, same]
  · change execRestartExecution s = _
    unfold execRestartExecution State.restartIfIdle
    split <;> simp [busy]
  · change execRestartExecution s = _
    simp [execRestartExecution, State.restartIfIdle, none]

end Sys2Proof.Machine
end

section
/-! PROOFS. The input lines, late reports, plain ops, event requests and discarded samples: events that touch one record. -/

namespace Sys2Proof.Machine

section
variable {s : State}

/-- An event whose own effects change nothing has no conclusion. -/
theorem concludeEvent_self (s : State) : concludeEvent s s = s := concludeEvent_of_quiet rfl rfl rfl rfl

theorem grantOpportunity_eq_false {before after : State} : grantOpportunity before after = false ↔
    before.arbiter.reservationTotal ≤ after.arbiter.reservationTotal ∧
      (∀ i, (after.slot i).state = .queued → (before.slot i).state = .queued) ∧
      ∀ z : ZoneId, before.zones[z].frozen = true → after.zones[z].frozen = true := by
  have every : ∀ i : SlotId, i ∈ allSlots := List.mem_finRange
  simp [grantOpportunity, every]
  tauto

theorem figuresChanged_eq_false {before after : State} : figuresChanged before after = false ↔
    after.arbiter.reservationTotal = before.arbiter.reservationTotal ∧ after.ceilingInForce = before.ceilingInForce := by
  simp [figuresChanged]

/-- An event that is no grant opportunity and changes no figure concludes as it is. -/
theorem concludeEvent_of_still {before after : State}
    (queued : ∀ i, (after.slot i).state = .queued → (before.slot i).state = .queued)
    (frozen : ∀ z : ZoneId, before.zones[z].frozen = true → after.zones[z].frozen = true)
    (total : after.arbiter.reservationTotal = before.arbiter.reservationTotal)
    (ceiling : after.ceilingInForce = before.ceilingInForce) : concludeEvent before after = after := by
  have look := grantOpportunity_eq_false.2 ⟨total.ge, queued, frozen⟩
  have test := figuresChanged_eq_false.2 ⟨total, ceiling⟩
  simp [concludeEvent, testIfChanged, look, test]

theorem manage_taken (room : s.freeEntries ≠ 0) {kind : Nat} {payload : List Byte}
    (form : managementMalformed kind payload = false) (tag : Byte) (take : State → State) :
    s.manage kind tag payload take = take s := by
  simp [State.manage, State.withRoom, room, form]

theorem not_reached {now : Nat} {e : Option Nat} (h : ∀ x ∈ e, now < x) : reached now e = false := by
  cases e with
  | none => rfl
  | some x => simpa [reached] using h x rfl

theorem modifySlot_congr {i : SlotId} {f g : SlotRecord → SlotRecord} (h : f (s.slot i) = g (s.slot i)) :
    s.modifySlot i f = s.modifySlot i g := by
  unfold State.modifySlot
  rw [h]

/-- States are equal field by field. -/
theorem State.eq_of_fields {s t : State} (h : s.now = t.now ∧ s.trunk = t.trunk ∧ s.kindMap = t.kindMap ∧ s.slots = t.slots ∧
    s.profiles = t.profiles ∧ s.lanes = t.lanes ∧ s.arbiter = t.arbiter ∧ s.nodes = t.nodes ∧ s.rules = t.rules ∧
    s.classes = t.classes ∧ s.zones = t.zones ∧ s.groups = t.groups ∧ s.supply = t.supply ∧ s.mgmt = t.mgmt ∧
    s.pending = t.pending) : s = t := by
  cases s
  cases t
  simpa using h

/-! ### Input lines (R156, R171) -/

theorem debounceAfter_eq (differs : Bool) {p : Prop} [Decidable p] (same : p ↔ differs = false) : debounceAfter s differs =
    if p then none else some (s.now + 10 * s.mgmt.timing.presenceDebounce) := by
  cases differs <;> simp [debounceAfter, same, Nat.mul_comm]

/-- Settles O30: the equations of the four commands. -/
theorem inputLinesDebounced : Obligations.InputLinesDebounced := by
  intro s level i
  refine ⟨fun other => ?_, fun same => ?_, fun other => ?_, fun same => ?_, fun wait => ?_, fun wait => ?_⟩
  · change execSupplySourceLineChange level s = _
    rw [execSupplySourceLineChange, if_neg other, debounceAfter_eq _ (p := sourceOf level = s.supply.source) (by simp)]
  · change execSupplySourceLineChange level s = _
    rw [execSupplySourceLineChange, if_pos same]
  · have present : (level = .low ↔ (s.slot i).present = true) ↔ (seated level != (s.slot i).present) = false := by
      cases level <;> cases (s.slot i).present <;> decide
    change execPresenceInputChange i level s = _
    rw [execPresenceInputChange, if_neg other]
    refine congrArg _ (modifySlot_congr ?_)
    rw [debounceAfter_eq _ present]
  · change execPresenceInputChange i level s = _
    rw [execPresenceInputChange, if_pos same]
  · change execSourceDebounceExpiry s = _
    rw [execSourceDebounceExpiry, not_reached wait]
    rfl
  · change execPresenceDebounceExpiry i s = _
    rw [execPresenceDebounceExpiry, not_reached wait]
    rfl

/-! ### Samples (R68, R86, R92) -/

theorem takeSample_discarded {n : NodeId} {node seq : Byte} (h : node.toNat ≠ n.val ∨ (s.node n).status = .off ∨
    (s.node n).lastSequence = some seq ∨ (s.node n).lapsed = some (s.now, seq)) (x y z : Int) :
    s.takeSample n node seq x y z = s := by
  unfold State.takeSample
  split
  · rfl
  · rename_i taken
    rcases h with h | h | h | h
    · exact absurd (.inl h) taken
    · exact absurd (.inr (.inl h)) taken
    · rw [h]; simp [classify]
    · exact absurd (.inr (.inr (by simp [NodeRecord.repeatsLapsed, h]))) taken

theorem execSample_discarded {n : NodeId} {node seq : Byte} (h : node.toNat ≠ n.val ∨ (s.node n).status = .off ∨
    (s.node n).lastSequence = some seq ∨ (s.node n).lapsed = some (s.now, seq)) (x y z : Word16) :
    exec (.sample n node seq x y z) s = .next s := by
  change execSample n node seq x y z s = _
  rw [execSample, takeSample_discarded h, concludeEvent_self]

/-- Settles O43: the sample is discarded before its sequence is compared, by its duplicate, or by the sequence that the
expiry of this instant has taken away. -/
theorem sampleDiscarded : Obligations.SampleDiscarded := by
  intro s n node seq x y z
  refine ⟨fun wrong => execSample_discarded (.inl wrong) x y z, fun off => execSample_discarded (.inr (.inl off)) x y z,
    fun last => ⟨execSample_discarded (.inr (.inr (.inl last))) x y z, fun e expiry due => ?_⟩⟩
  have taken : reached s.now (s.node n).silenceExpiry = true := by simpa [reached, expiry] using due
  have node : (concludeEvent s (s.silence n)).node n = (s.node n).silenced s.now := by
    rw [show (concludeEvent s (s.silence n)).node n = (s.silence n).node n by simp [State.node], State.silence_node,
      if_pos rfl]
  refine ⟨concludeEvent s (s.silence n), ?_, by rw [node]; rfl, execSample_discarded (.inr (.inr (.inr ?_))) x y z⟩
  · change execSilenceTimerExpiry n s = _
    rw [execSilenceTimerExpiry, if_pos taken]
  · rw [node]
    simp [NodeRecord.silenced, last]

/-! ### Late reports and plain ops (R49, R52, R58 to R60, R63) -/

/-- Settles O36: no record is matched, or the deadline that is matched is not due. -/
theorem lateReportsCounted : Obligations.LateReportsCounted := by
  intro s i tag o payload
  refine ⟨fun gone short => ?_, fun long => ?_, fun gone => ?_, fun governed preempting plain => ?_⟩
  · change execCompletion i tag o payload s = _
    rw [execCompletion, if_pos (show payload.length ≤ Config.payloadMax from short), State.takeCompletion,
      LaneRecord.find_of_not_mem _ gone]
    refine congrArg _ (concludeEvent_of_still (fun j queued => ?_) (fun _ => id) rfl rfl)
    by_cases own : j = i
    · subst own; simpa [State.lateReport] using queued
    · simpa [State.lateReport, own] using queued
  · change execCompletion i tag o payload s = _
    rw [execCompletion, if_neg (by simpa [Config.payloadMax] using long)]
  · change execOpDeadlineExpiry i tag s = _
    rw [execOpDeadlineExpiry, State.takeDeadline, LaneRecord.find_of_not_mem _ gone, concludeEvent_self]
  · change execOpDeadlineExpiry i tag s = _
    have same : s.takeDeadline i tag = s := by
      unfold State.takeDeadline
      rcases (s.lane i).find_cases tag with ⟨g, m, -, found⟩ | ⟨p, m, -, found⟩ | ⟨p, m, -, found⟩ | ⟨-, found⟩ <;>
        rw [found] <;> dsimp only
      · rw [if_neg (by simpa using governed g m)]
      · rw [if_neg (by simpa using preempting p m)]
      · rw [if_neg (by simpa using plain p m)]
    rw [execOpDeadlineExpiry, same, concludeEvent_self]

theorem LaneRecord.Kept.find_governed {r : LaneRecord} {g : GovernedRecord} (governed : r.governed = some g) :
    r.find g.tag = .governed g := by
  simp [LaneRecord.find, governed]

theorem LaneRecord.Kept.find_preempting {r : LaneRecord} (h : r.Kept) {p : PreemptingRecord}
    (preempting : r.preempting = some p) : r.find p.tag = .preempting p := by
  obtain ⟨g, governed, -, -, -⟩ := h.preempted preempting
  have apart := (h.governedTag_gone governed).1
  simp only [preempting, Option.map_some, Option.toList_some, List.mem_append, List.mem_singleton, not_or] at apart
  simp [LaneRecord.find, governed, LaneRecord.findPreempting, preempting, apart.1]

theorem LaneRecord.Kept.find_plain {r : LaneRecord} (h : r.Kept) {p : PlainRecord} (plain : r.plain = some p) :
    r.find p.tag = .plain p := by
  have apart : p.tag ∉ (r.governed.map (·.tag)).toList ++ (r.preempting.map (·.tag)).toList := fun m => by
    have distinct := h.distinct
    rw [LaneRecord.outstanding, plain] at distinct
    exact (List.nodup_append.1 distinct).2.2 p.tag m p.tag (by simp) rfl
  rcases r.find_cases p.tag with ⟨g, governed, same, -⟩ | ⟨q, preempting, same, -⟩ | ⟨q, other, -, found⟩ | ⟨gone, -⟩
  · exact absurd (by simp [governed, same]) apart
  · exact absurd (by simp [preempting, same]) apart
  · rw [found, Option.some.inj (other.symm.trans plain)]
  · exact absurd (by simp [LaneRecord.outstanding, plain]) gone

/-- A plain op's end, its tag retired or not, touches its lane and the trunk port. -/
structure PlainEnded (s : State) (i : SlotId) (p : PlainRecord) (o : OpOutcome) (payload : List Byte) (retired : List Byte)
    (t : State) : Prop where
  only : t = { s with trunk := t.trunk, lanes := t.lanes }
  answer : t.trunk.queue = s.trunk.queue ++
    [⟨byte i.val, byte p.kind.val, p.trunkTag, (plainResult o payload).1, (plainResult o payload).2⟩]
  spent : t.trunk.reservations = s.trunk.reservations - 1
  lane : t.lane i = { s.lane i with plain := none, retired := retired }
  others : ∀ j, j ≠ i → t.lane j = s.lane j

theorem plainEnded_settlePlain {u : State} {i : SlotId} {p : PlainRecord} {retired : List Byte}
    (only : u = { s with lanes := u.lanes }) (lane : u.lane i = { s.lane i with retired := retired })
    (others : ∀ j, j ≠ i → u.lane j = s.lane j) (o : OpOutcome) (payload : List Byte) :
    PlainEnded s i p o payload retired (u.settlePlain i p o payload) := by
  have trunk : u.trunk = s.trunk := by rw [only]
  refine ⟨State.eq_of_fields ?_, ?_, ?_, ?_, fun j other => ?_⟩
  · rw [only]; simp [State.settlePlain]
  · simp [State.settlePlain, trunk]
  · simp [State.settlePlain, trunk]
  · simp [State.settlePlain, lane]
  · simpa [State.settlePlain, other] using others j other

theorem concludeEvent_settlePlain {u : State} {i : SlotId} (only : u = { s with lanes := u.lanes }) (p : PlainRecord)
    (o : OpOutcome) (payload : List Byte) :
    concludeEvent s (u.settlePlain i p o payload) = u.settlePlain i p o payload := by
  refine concludeEvent_of_quiet ?_ ?_ ?_ ?_ <;> rw [only] <;> simp [State.settlePlain]

/-- Settles O37. -/
theorem plainOpsAnswered : Obligations.PlainOpsAnswered := by
  intro s i p payload reply c code plain lane short ends
  have kept := (laneKept_iff.1 lane).1
  have found := kept.find_plain plain
  have completed : ∀ o : CompletionOutcome, exec (.completion i p.tag o payload) s =
      .next (s.settlePlain i p (opEnd o) payload) := fun o => by
    change execCompletion i p.tag o payload s = _
    rw [execCompletion, if_pos (show payload.length ≤ Config.payloadMax from short), State.takeCompletion, found]
    exact congrArg _ (concludeEvent_settlePlain rfl p _ _)
  have settled : ∀ o, PlainEnded s i p (opEnd o) payload (s.lane i).retired (s.settlePlain i p (opEnd o) payload) :=
    fun o => plainEnded_settlePlain rfl rfl (fun _ _ => rfl) _ _
  rcases ends with ⟨rfl, rfl, rfl⟩ | ⟨x, rfl, rfl, rfl⟩ | ⟨rfl, rfl, rfl⟩ | ⟨rfl, due, rfl, rfl⟩
  · obtain ⟨only, answer, spent, record, others⟩ := settled .done
    exact ⟨_, completed _, only, answer, spent, by rw [record], fun _ => by rw [record], by simp, others⟩
  · obtain ⟨only, answer, spent, record, others⟩ := settled (.failed x)
    exact ⟨_, completed _, only, answer, spent, by rw [record], fun _ => by rw [record], by simp, others⟩
  · obtain ⟨only, answer, spent, record, others⟩ := settled .aborted
    exact ⟨_, completed _, only, answer, spent, by rw [record], fun _ => by rw [record], by simp, others⟩
  · obtain ⟨only, answer, spent, record, others⟩ := plainEnded_settlePlain (s := s) (u := s.retire i p.tag) (i := i) (p := p)
      rfl (State.lane_modifyLane_self ..) (fun j other => State.lane_modifyLane_of_ne _ other _) .timeout []
    refine ⟨_, ?_, only, answer, spent, by rw [record], by simp, fun _ => ?_, others⟩
    · change execOpDeadlineExpiry i p.tag s = _
      rw [execOpDeadlineExpiry, State.takeDeadline, found]
      dsimp only
      rw [if_pos due, concludeEvent_settlePlain rfl]
    · rw [record]
      exact (retireTag_spec _ p.tag kept.retired.2).1

/-! ### ACK_EVENTS and SET_ENABLES (R195 to R197) -/

theorem toByte_getLsbD (e : EventFlags) (f : Flag) : e.toByte.getLsbD (flagBit f) = e.get f := by
  obtain ⟨a, b, c, d, x, y⟩ := e
  cases a <;> cases b <;> cases c <;> cases d <;> cases x <;> cases y <;> cases f <;> decide

theorem toByte_le (e : EventFlags) : e.toByte.toNat ≤ 63 := by
  obtain ⟨a, b, c, d, x, y⟩ := e
  cases a <;> cases b <;> cases c <;> cases d <;> cases x <;> cases y <;> decide

theorem ofByte_get (b : Byte) (f : Flag) : (EventFlags.ofByte b).get f = b.getLsbD (flagBit f) := by
  cases f <;> rfl

theorem toByte_ofByte {b : Byte} (low : b.toNat ≤ 63) : (EventFlags.ofByte b).toByte = b := by
  have below : ∀ n : Fin 64, (EventFlags.ofByte (BitVec.ofNat 8 n.val)).toByte = BitVec.ofNat 8 n.val := by decide
  have here := below ⟨b.toNat, by omega⟩
  simpa using here

theorem without_get (e named : EventFlags) (f : Flag) : (e.without named).get f = (e.get f && !named.get f) := by
  cases f <;> rfl

/-- A request that writes flags and enables, answered DONE with both. -/
theorem setEvents_done (s : State) (flags enables : EventFlags) (kind : Nat) (tag : Byte) :
    ((s.setEvents flags enables).done kind tag (s.setEvents flags enables).eventBytes).mgmt
        = { s.mgmt with flags := flags, enables := enables, attn := attention flags enables } ∧
      AnsweredOnly { s with mgmt := { s.mgmt with flags := flags, enables := enables, attn := attention flags enables } }
        ((s.setEvents flags enables).done kind tag (s.setEvents flags enables).eventBytes)
        ⟨31, byte kind, tag, .done, [flags.toByte, enables.toByte]⟩ ∧
      AttnKept ((s.setEvents flags enables).done kind tag (s.setEvents flags enables).eventBytes) :=
  ⟨by simp [State.setEvents], State.done_answeredOnly .., attnKept_congr (attnKept_setEvents s flags enables) (by simp)⟩

/-- Settles O29: both requests write the flags or the enables, and ATTN with them, before they are answered. -/
theorem eventRequestsAnswered : Obligations.EventRequestsAnswered := by
  intro s tag b room low
  have form : ∀ kind : Nat, kind = 9 ∨ kind = 10 → managementMalformed kind [b] = false := by
    rintro kind (rfl | rfl) <;> simpa [managementMalformed, notOneByte] using low
  refine ⟨?_, ?_, fun e f => ⟨toByte_getLsbD e f, toByte_le e⟩⟩
  · obtain ⟨mgmt, answered, attn⟩ :=
      setEvents_done s (s.mgmt.flags.without (.ofByte b)) s.mgmt.enables 9 tag
    refine ⟨_, (congrArg Host.Outcome.next (manage_taken room (form 9 (.inl rfl)) tag _) : execAckEvents tag [b] s = _),
      fun f => ?_, ?_, ?_, attn⟩
    all_goals simp only [mgmt]
    · rw [without_get, ofByte_get]
    · exact answered
  · obtain ⟨mgmt, answered, attn⟩ := setEvents_done s s.mgmt.flags (.ofByte b) 10 tag
    refine ⟨_, (congrArg Host.Outcome.next (manage_taken room (form 10 (.inr rfl)) tag _) : execSetEnables tag [b] s = _),
      fun f => ?_, ?_, ?_, attn⟩
    all_goals simp only [mgmt]
    · exact ofByte_get b f
    · rw [toByte_ofByte low] at answered
      exact answered

end

end Sys2Proof.Machine
end

section
/-! PROOFS. Refused frames and refused requests: the checks of R120, R123 to R125, R142, R185 and R188, first check first. -/

namespace Sys2Proof.Machine

section
variable {s : State}

theorem OnlyTrunk.concludeEvent {t : State} (only : OnlyTrunk s t) : concludeEvent s t = t := by
  refine concludeEvent_of_quiet ?_ ?_ ?_ ?_ <;> rw [only]
  rfl

theorem withRoom_taken (room : s.freeEntries ≠ 0) (take : State → State) : s.withRoom take = take s := by
  simp [State.withRoom, room]

/-! ### The ingress check (R120) -/

theorem refusedField_eq {d : Byte} (low : d.toNat ≤ 28) (f : FrameBody) : TrunkFrame.refusedField ⟨d, f⟩ = !f.wf := by
  rw [Bool.eq_iff_iff]
  simp [TrunkFrame.refusedField, FrameBody.wf, show ¬28 < d.toNat by omega]

theorem slotByte_toNat (i : SlotId) : (byte i.val).toNat = i.val := by
  have := i.isLt
  simp [byte]
  omega

theorem slotByte_le (i : SlotId) : (byte i.val).toNat ≤ 28 := by
  have := i.isLt
  rw [slotByte_toNat]
  omega

theorem groupSource_le (d : GroupDest) : (groupSource d).toNat ≤ 28 := by
  cases d with
  | all => decide
  | zone z => revert z; decide

theorem frameKind_eq {f : FrameBody} {k : Fin 16} (kind : k.val = f.kind.toNat) : frameKind f.kind = k := by
  have := k.isLt
  apply Fin.ext
  simp only [frameKind]
  omega

/-! ### Slot frames (R123 to R125) -/

theorem slotFrame_exec {i : SlotId} {f : FrameBody} {c : Instr} (command : SlotFrameCommand i f c) (room : s.freeEntries ≠ 0) :
    exec c s = .next (concludeEvent s (s.takeSlotFrame i f)) := by
  have event : s.slotFrameEvent i f = concludeEvent s (s.takeSlotFrame i f) := withRoom_taken room _
  rcases command with rfl | rfl | rfl <;> exact congrArg Host.Outcome.next event

theorem takeSlotFrame_malformed {i : SlotId} {f : FrameBody} (form : f.wf = false) :
    s.takeSlotFrame i f = s.answer (frameAnswer (byte i.val) f .malformed) := by
  simp [State.takeSlotFrame, refusedField_eq (slotByte_le i), form]

theorem takeSlotFrame_absent {i : SlotId} {f : FrameBody} (form : f.wf = true) (absent : (s.slot i).present = false) :
    s.takeSlotFrame i f = s.answer (frameAnswer (byte i.val) f .absent) := by
  simp [State.takeSlotFrame, refusedField_eq (slotByte_le i), form, absent]

section
variable {i : SlotId} {f : FrameBody} {k : Fin 16} (form : f.wf = true) (present : (s.slot i).present = true)
  (kind : k.val = f.kind.toNat)
include form present kind

theorem takeSlotFrame_blocked (block : s.kindMap[k] = .block) :
    s.takeSlotFrame i f = s.answer (frameAnswer (byte i.val) f .blocked) := by
  simp [State.takeSlotFrame, refusedField_eq (slotByte_le i), form, present, frameKind_eq kind, block]

theorem takeSlotFrame_plain (plain : s.kindMap[k] = .forward ∨ s.kindMap[k] = .forwardIfClear) :
    s.takeSlotFrame i f = s.takePlain i f s.kindMap[k] := by
  rcases plain with plain | plain <;>
    simp [State.takeSlotFrame, refusedField_eq (slotByte_le i), form, present, frameKind_eq kind, plain]

theorem takeSlotFrame_governed (governed : Governed s.kindMap[k]) :
    s.takeSlotFrame i f = s.takeGoverned i f s.kindMap[k] := by
  rcases governed with action | action | action | action <;>
    simp [State.takeSlotFrame, refusedField_eq (slotByte_le i), form, present, frameKind_eq kind, action]

theorem takeSlotFrame_refused {code : AnswerCode} (governed : Governed s.kindMap[k])
    (refused : s.governedRefusal i s.kindMap[k] = some code) :
    s.takeSlotFrame i f = s.answer (frameAnswer (byte i.val) f code) := by
  rw [takeSlotFrame_governed form present kind governed, State.takeGoverned, refused]

end

/-- The table of R126 names the targets of the governed actions and of no other. -/
theorem targetTable_eq_some {a : Action} {standing tgt : Target} :
    targetTable a standing = some tgt ↔ Governed a ∧ a.target standing = tgt := by
  unfold Governed
  cases a <;> cases standing <;> cases tgt <;> decide

/-- The checks refuse as R123 to R125 say: what a slot frame's answer is where a check refuses it. -/
theorem takeSlotFrame_of_slotRefused {i : SlotId} {f : FrameBody} {k : Fin 16} {code : AnswerCode}
    (refused : SlotRefused s i f k code) : s.takeSlotFrame i f = s.answer (frameAnswer (byte i.val) f code) := by
  cases refused with
  | malformed form => exact takeSlotFrame_malformed form
  | absent form absent => exact takeSlotFrame_absent form absent
  | blocked form present kind block => exact takeSlotFrame_blocked form present kind block
  | held form present kind action hold =>
    rw [takeSlotFrame_plain form present kind (.inr action), action, State.takePlain]
    simp [hold]
  | laneBusy form present kind action busy =>
    rcases action with action | ⟨action, covered, frozen⟩
    · rw [takeSlotFrame_plain form present kind (.inl action), action, State.takePlain]
      simp [busy]
    · rw [takeSlotFrame_plain form present kind (.inr action), action, State.takePlain]
      simp [busy, covered, frozen]
  | configMode form present kind governed mode =>
    exact takeSlotFrame_refused form present kind governed (by simp [State.governedRefusal, mode])
  | withdrawn form present kind governed mode out =>
    exact takeSlotFrame_refused form present kind governed (by simp [State.governedRefusal, mode, out])
  | faulted form present kind governed mode service fault =>
    exact takeSlotFrame_refused form present kind governed (by simp [State.governedRefusal, mode, service, fault])
  | shedding form present kind mode service running mark above =>
    obtain ⟨governed, raised⟩ : Governed s.kindMap[k] ∧ s.kindMap[k].target (s.slot i).standing ≠ .stopped := by
      rcases above with above | above <;> obtain ⟨governed, target⟩ := targetTable_eq_some.1 above <;>
        exact ⟨governed, by rw [target]; decide⟩
    exact takeSlotFrame_refused form present kind governed
      (by simpa [State.governedRefusal, mode, service, running, mark] using raised)

/-- Settles O10. -/
theorem slotFrameRefused : Obligations.SlotFrameRefused := by
  intro s i f c k code command room refused
  have answered := s.answer_answeredOnly (frameAnswer (byte i.val) f code)
  refine ⟨_, slotFrame_exec command room, ?_⟩
  rw [takeSlotFrame_of_slotRefused refused, OnlyTrunk.concludeEvent answered.1]
  exact answered

/-! ### Group frames (R120, R142) -/

theorem groupFrame_exec (d : GroupDest) (b : FrameBody) (room : s.freeEntries ≠ 0) :
    exec (.groupFrame d b) s = .next (concludeEvent s (s.takeGroupFrame d b)) :=
  congrArg Host.Outcome.next (withRoom_taken room _)

theorem groupFrame_answered {d : GroupDest} {b : FrameBody} {code : AnswerCode} (room : s.freeEntries ≠ 0)
    (refused : s.takeGroupFrame d b = s.answer (frameAnswer (groupSource d) b code)) :
    ∃ t, exec (.groupFrame d b) s = .next t ∧ AnsweredOnly s t ⟨groupSource d, b.kind, b.tag, code, []⟩ := by
  have answered := s.answer_answeredOnly (frameAnswer (groupSource d) b code)
  refine ⟨_, groupFrame_exec d b room, ?_⟩
  rw [refused, OnlyTrunk.concludeEvent answered.1]
  exact answered

/-! ### A frame taken whole (R120, R185) -/

/-- A slot frame's row is one of the three that carry a slot frame. -/
theorem slotCommand_slotFrameCommand (s : State) (i : SlotId) (f : FrameBody) : SlotFrameCommand i f (s.slotCommand i f) := by
  unfold State.slotCommand SlotFrameCommand
  split
  · exact .inl rfl
  · split <;> simp

theorem slotFrameCommand_exec {i : SlotId} {f : FrameBody} {c : Instr} (command : SlotFrameCommand i f c) (s : State) :
    exec c s = .next (s.slotFrameEvent i f) := by
  rcases command with rfl | rfl | rfl <;> rfl

theorem writeCommand_exec (t : Table) (tag index : Byte) (entry : List Byte) (s : State) :
    exec (writeCommand tag index entry t) s = runTableWrite t tag index entry s := by
  cases t <;> rfl

/-- A management frame's row has the effect that its kind and payload make it. -/
theorem manageCommand_exec {kind tag : Byte} {payload : List Byte} {c : Instr}
    (row : manageCommand kind tag payload = some c) (s : State) : exec c s = runManagement kind tag payload s := by
  unfold runManagement refuseManagement
  unfold manageCommand at row
  generalize kind.toNat = n at row ⊢
  split at row
  case h_2 table index entry =>
    cases known : tableOf table.toNat with
    | none => simp [known] at row
    | some t =>
      obtain rfl : writeCommand tag index entry t = c := by simpa [known] using row
      simp only [known]
      exact writeCommand_exec t tag index entry s
  case h_6 mode =>
    split at row <;> simp_all <;> subst row <;> rfl
  all_goals cases row
  all_goals rfl

theorem indexBelow_eq_some {n i : Nat} {k : Fin n} (h : k.val = i) : indexBelow n i = some k := by
  subst h
  simp [indexBelow]

theorem indexBelow_eq_none {n i : Nat} (h : n ≤ i) : indexBelow n i = none := by
  simp [indexBelow, Nat.not_lt.2 h]

/-- A frame that nothing refuses has the effect of its row. -/
theorem malformedFrame_exec {f : TrunkFrame} (taken : f.malformed = false) (s : State) :
    exec (.malformedFrame f) s = exec (s.trunkCommand f) s := by
  change execMalformedFrame f s = _
  cases slot : indexBelow 24 f.destination.toNat with
  | some i =>
    rw [show s.trunkCommand f = s.slotCommand i f.body by simp [State.trunkCommand, taken, slot],
      slotFrameCommand_exec (slotCommand_slotFrameCommand s i f.body) s]
    simp [execMalformedFrame, taken, slot]
  | none =>
    cases zone : indexBelow 4 (f.destination.toNat - 24) with
    | some z =>
      rw [show s.trunkCommand f = .groupFrame (.zone z) f.body by simp [State.trunkCommand, taken, slot, zone]]
      simp only [execMalformedFrame, taken, slot, zone]
      rfl
    | none =>
      by_cases all : f.destination.toNat = Config.allAddress
      · rw [show s.trunkCommand f = .groupFrame .all f.body by simp [State.trunkCommand, taken, all]; rfl]
        simp only [execMalformedFrame, taken, all]
        rfl
      · have whole : execMalformedFrame f s = runManagement f.body.kind f.body.tag f.body.payload s := by
          simp [execMalformedFrame, taken, slot, zone, all]
        have row : s.trunkCommand f = (manageCommand f.body.kind f.body.tag f.body.payload).getD (.malformedFrame f) := by
          simp [State.trunkCommand, taken, slot, zone, all]
        cases known : manageCommand f.body.kind f.body.tag f.body.payload with
        | some c =>
          rw [row, known, whole]
          exact (manageCommand_exec known s).symm
        | none =>
          rw [row, known]
          rfl

theorem freeRecord_eq_none (full : ∀ g, (s.group g).isSome = true) : s.freeRecord = none := by
  simpa [State.freeRecord] using fun g => Option.isSome_iff_ne_none.1 (full g)

/-- Settles O9. -/
theorem refusedFramesAnswered : Obligations.RefusedFramesAnswered := by
  intro s f b d k unknown tag room
  refine ⟨fun refused => ?_, fun taken => malformedFrame_exec (Bool.eq_false_iff.2 (mt refusedFrame_iff.2 taken)) s, ?_,
    fun form => ?_, fun form kind plain => ?_, fun form kind forward ifClear full => ?_⟩
  · refine ⟨_, ?_, s.answer_answeredOnly (frameAnswer f.destination f.body .malformed)⟩
    change execMalformedFrame f s = _
    rw [execMalformedFrame, if_pos (refusedFrame_iff.1 refused), withRoom_taken room]
  · exact ⟨_, congrArg Host.Outcome.next (withRoom_taken room _), State.refuse_answeredOnly ..⟩
  · exact groupFrame_answered room (by simp [State.takeGroupFrame, refusedField_eq (groupSource_le d), form])
  · refine groupFrame_answered room ?_
    have action : s.kindMap[k].plain = true := by rcases plain with plain | plain <;> rw [plain] <;> rfl
    simp [State.takeGroupFrame, refusedField_eq (groupSource_le d), form, frameKind_eq kind] at action ⊢
    simp [action]
  · refine groupFrame_answered room ?_
    have action : s.kindMap[k].plain = false := by
      revert forward ifClear
      cases s.kindMap[k] <;> simp [Action.plain]
    simp [State.takeGroupFrame, refusedField_eq (groupSource_le d), form, frameKind_eq kind] at action ⊢
    simp [action, freeRecord_eq_none full]

/-! ### Management requests (R185, R188) -/

theorem manage_malformed (room : s.freeEntries ≠ 0) {kind : Nat} {p : List Byte} (form : ¬ProperForm kind p) (tag : Byte)
    (take : State → State) : s.manage kind tag p take = s.refuse kind tag .malformed := by
  have malformed : managementMalformed kind p = true := Bool.not_eq_false _ ▸ mt properForm_iff.2 form
  simp [State.manage, State.withRoom, room, malformed]

theorem manage_proper (room : s.freeEntries ≠ 0) {kind : Nat} {p : List Byte} (form : ProperForm kind p) (tag : Byte)
    (take : State → State) : s.manage kind tag p take = take s :=
  manage_taken room (properForm_iff.1 form) tag take

/-- A request that goes through the checks of R185 is refused where its payload has not its form. -/
theorem manage_answered {kind : Nat} {tag : Byte} {p : List Byte} {take : State → State} {c : Instr}
    (run : exec c s = .next (s.manage kind tag p take)) (room : s.freeEntries ≠ 0) (form : ¬ProperForm kind p) :
    ∃ t, exec c s = .next t ∧ AnsweredOnly s t ⟨31, byte kind, tag, .malformed, []⟩ :=
  ⟨_, run, by rw [manage_malformed room form]; exact State.refuse_answeredOnly ..⟩

theorem indexed_refused {kind n : Nat} {tag b : Byte} (out : n ≤ b.toNat) (take : Fin n → State) :
    s.indexed kind tag n b take = s.refuse kind tag .badIndex := by
  rw [State.indexed, indexBelow_eq_none out]

theorem tableOf_code (tb : Table) : tableOf (byte tb.code).toNat = some tb := by
  cases tb <;> rfl

theorem tableCode_toNat (tb : Table) : (byte tb.code).toNat = tb.code := by
  cases tb <;> rfl

theorem tableCode_le (tb : Table) : tb.code ≤ 9 := by
  cases tb <;> decide

theorem tableEntries_mem (tb : Table) : (tb.code, tb.entries) ∈
    [(0, 16), (1, 9), (2, 8), (3, 24), (4, 1), (5, 1), (6, 4), (7, 16), (8, 8), (9, 1)] := by
  cases tb <;> decide

/-- A one-slot request whose slot number lies above 23. -/
theorem slotRequest_refused {kind : Nat} {tag b : Byte} {take : SlotId → State} {c : Instr}
    (run : exec c s = .next (s.indexed kind tag 24 b take)) (out : 24 ≤ b.toNat) :
    ∃ t, exec c s = .next t ∧ AnsweredOnly s t ⟨31, byte kind, tag, .badIndex, []⟩ :=
  ⟨_, run, by rw [indexed_refused out]; exact State.refuse_answeredOnly ..⟩

/-- Settles O19. -/
theorem requestFormsRefused : Obligations.RequestFormsRefused := by
  intro s tag b part p tb room
  refine ⟨fun q member form => ?_, tableEntries_mem tb, fun out => ?_, fun out half => ?_, fun out => ?_,
    fun q member out => ?_⟩
  · simp only [List.mem_cons, List.not_mem_nil, or_false] at member
    rcases member with rfl | rfl | rfl | rfl | rfl | rfl | rfl | rfl | rfl | rfl
    case inr.inr.inr.inr.inr.inr.inr.inr.inr =>
      refine ⟨_, ?_, s.refuse_answeredOnly 11 tag .malformed⟩
      change execRestart tag p s = _
      have malformed : managementMalformed restartKind p = true := Bool.not_eq_false _ ▸ mt properForm_iff.2 form
      rw [execRestart, if_pos malformed, withRoom_taken room]
      rfl
    all_goals exact manage_answered rfl room form
  · refine ⟨_, congrArg Host.Outcome.next ((manage_proper room (.tableRead _ _ ?_) tag _).trans ?_),
      s.refuse_answeredOnly 0 tag .badIndex⟩
    · rw [tableCode_toNat]
      exact tableCode_le tb
    · simp only [tableOf_code, if_neg (Nat.not_lt.2 out)]
  · exact ⟨_, congrArg Host.Outcome.next ((manage_proper room (.slotRead b part half) tag _).trans
      (indexed_refused out _)), s.refuse_answeredOnly 2 tag .badIndex⟩
  · exact ⟨_, congrArg Host.Outcome.next ((manage_proper room (.nodeRead b) tag _).trans
      (indexed_refused out _)), s.refuse_answeredOnly 3 tag .badIndex⟩
  · simp only [List.mem_cons, List.not_mem_nil, or_false] at member
    rcases member with rfl | rfl | rfl
    · exact slotRequest_refused (congrArg Host.Outcome.next (manage_proper room (.clearFault b) tag _)) out
    · exact slotRequest_refused (congrArg Host.Outcome.next (manage_proper room (.withdraw b) tag _)) out
    · exact slotRequest_refused (congrArg Host.Outcome.next (manage_proper room (.restore b) tag _)) out

/-! ### Table writes (R188) -/

/-- The write in its owning block that a TABLE_WRITE comes to after the checks of R185. -/
def State.written (s : State) (tb : Table) (index : Byte) (entry : List Byte) : Written :=
  match tb with
  | .kindMap => ((indexBelow 16 index.toNat).map fun i => s.writeKindMap i entry).getD (.refused .badIndex)
  | .priorityMap => s.writePriorityMap index.toNat entry
  | .drawProfiles => ((indexBelow 8 index.toNat).map fun k => s.writeProfile k entry).getD (.refused .badIndex)
  | .slotConfiguration => ((indexBelow 24 index.toNat).map fun i => s.writeSlot i entry).getD (.refused .badIndex)
  | .ceilings => s.writeCeilings entry
  | .stagger => s.writeStagger entry
  | .nodeConfiguration => ((indexBelow 4 index.toNat).map fun n => s.writeNode n entry).getD (.refused .badIndex)
  | .motionRules => ((indexBelow 16 index.toNat).map fun k => s.writeRule k entry).getD (.refused .badIndex)
  | .classes => ((indexBelow 8 index.toNat).map fun c => s.writeClass c entry).getD (.refused .badIndex)
  | .timing => s.writeTiming entry

/-- A TABLE_WRITE goes through the checks of R185 to the write in its owning block. -/
theorem writeCommand_run (tb : Table) (tag index : Byte) (entry : List Byte) (s : State) :
    exec (writeCommand tag index entry tb) s =
      .next (s.tableWrite tb tag index entry fun t => t.written tb index entry) := by
  rw [writeCommand_exec]
  cases tb
  case priorityMap | ceilings | stagger | timing => rfl
  all_goals
    refine congrArg Host.Outcome.next (congrArg (State.tableWrite s _ tag index entry) (funext fun t => ?_))
    unfold State.written
    cases indexBelow _ index.toNat <;> rfl

theorem properForm_write {tb : Table} {index : Byte} {entry : List Byte} :
    ProperForm 1 (byte tb.code :: index :: entry) ↔ entryLength tb.code = some entry.length := by
  rw [properForm_iff, managementMalformed, tableCode_toNat]
  simp

/-- A TABLE_WRITE of the right length and index does what the write in its owning block says. -/
theorem write_refused {tb : Table} {index : Byte} {entry : List Byte} {code : AnswerCode} (room : s.freeEntries ≠ 0)
    (form : entryLength tb.code = some entry.length) (low : index.toNat < tb.entries)
    (refused : s.written tb index entry = .refused code) (tag : Byte) :
    ∃ t, exec (writeCommand tag index entry tb) s = .next t ∧ AnsweredOnly s t ⟨31, 1, tag, code, []⟩ := by
  refine ⟨_, writeCommand_run tb tag index entry s, ?_⟩
  rw [State.tableWrite, manage_proper room (properForm_write.2 form), if_pos low, refused]
  exact State.refuse_answeredOnly ..

theorem write_stored {tb : Table} {index : Byte} {entry : List Byte} {v : State} (room : s.freeEntries ≠ 0)
    (form : entryLength tb.code = some entry.length) (low : index.toNat < tb.entries)
    (stored : s.written tb index entry = .stored v) (tag : Byte) :
    exec (writeCommand tag index entry tb) s = .next (v.done 1 tag (v.tablePayload tb index)) := by
  rw [writeCommand_run, State.tableWrite, manage_proper room (properForm_write.2 form), if_pos low, stored]

/-! ### The code fields of the entries (R200) -/

theorem yesNo_isSome {b : Byte} : (yesNo b).isSome = true ↔ b.toNat ≤ 1 := by
  unfold yesNo
  split <;> simp_all
  omega

theorem directionOf_isSome {b : Byte} : (directionOf b).isSome = true ↔ b.toNat ≤ 5 := by
  unfold directionOf
  split <;> simp_all
  omega

theorem metricOf_isSome {b : Byte} : (metricOf b).isSome = true ↔ b.toNat ≤ 3 := by
  unfold metricOf
  split <;> simp_all
  omega

theorem actionOf_isSome {b : Byte} : (actionOf b).isSome = true ↔ b.toNat ≤ 6 := by
  unfold actionOf
  split <;> simp_all
  omega

theorem set4Of_isSome {b : Byte} : (set4Of b).isSome = true ↔ b.toNat ≤ 15 := by
  simp [set4Of]

theorem effectsOf_isSome {b : Byte} : (effectsOf b).isSome = true ↔ b.toNat ≤ 3 := by
  simp [effectsOf]

theorem classOf_isSome {b : Byte} : (classOf b).isSome = true ↔ b.toNat ≤ 7 := by
  simp [classOf]
  omega

theorem blindClassOf_isSome {b : Byte} : (blindClassOf b).isSome = true ↔ b.toNat ≤ 7 ∨ b.toNat = 255 := by
  unfold blindClassOf
  split
  next none => simp [none]
  next other => simp [other, classOf_isSome]

theorem isSome_bind_iff {α β : Type} {x : Option α} {f : α → Option β} {p : Prop} (h : ∀ a, (f a).isSome = true ↔ p) :
    (x.bind f).isSome = true ↔ x.isSome = true ∧ p := by
  cases x <;> simp [h]

theorem isSome_bind_some {α β : Type} (x : Option α) (f : α → β) : (x.bind fun a => some (f a)).isSome = x.isSome := by
  cases x <;> rfl

theorem nodeEntry_isSome {e : List Byte} : (nodeEntry e).isSome = true ↔ nodeCodes e := by
  unfold nodeEntry
  split
  · change _ ↔ _ ∧ _ ∧ _
    rw [← yesNo_isSome, ← directionOf_isSome, ← blindClassOf_isSome]
    exact isSome_bind_iff fun _ => isSome_bind_iff fun _ => by simp only [Option.bind_eq_bind, Option.pure_def, isSome_bind_some]
  · simp [nodeCodes]

theorem ruleEntry_isSome {e : List Byte} : (ruleEntry e).isSome = true ↔ ruleCodes e := by
  unfold ruleEntry
  split
  · change _ ↔ _ ∧ _ ∧ _ ∧ _
    rw [← yesNo_isSome, ← set4Of_isSome, ← metricOf_isSome, ← classOf_isSome]
    exact isSome_bind_iff fun _ => isSome_bind_iff fun _ => isSome_bind_iff fun _ => by
      simp only [Option.bind_eq_bind, Option.pure_def, isSome_bind_some]
  · simp [ruleCodes]

theorem classEntry_isSome {e : List Byte} : (classEntry e).isSome = true ↔ classCodes e := by
  unfold classEntry
  split
  · change _ ↔ _ ∧ _
    rw [← set4Of_isSome, ← effectsOf_isSome]
    exact isSome_bind_iff fun _ => by simp only [Option.bind_eq_bind, Option.pure_def, isSome_bind_some]
  · simp [classCodes]

theorem run_of_not_config {s : State} (h : s.mgmt.mode ≠ .config) : s.mgmt.mode = .run := by
  cases mode : s.mgmt.mode <;> simp_all

section
variable {index : Byte} {entry : List Byte}

theorem written_kindMap {k : Fin 16} (h : k.val = index.toNat) :
    s.written .kindMap index entry = s.writeKindMap k entry := by
  simp [State.written, indexBelow_eq_some h]

theorem written_drawProfiles {k : Fin 8} (h : k.val = index.toNat) :
    s.written .drawProfiles index entry = s.writeProfile k entry := by
  simp [State.written, indexBelow_eq_some h]

theorem written_slotConfiguration {i : SlotId} (h : i.val = index.toNat) :
    s.written .slotConfiguration index entry = s.writeSlot i entry := by
  simp [State.written, indexBelow_eq_some h]

theorem written_nodeConfiguration {n : NodeId} (h : n.val = index.toNat) :
    s.written .nodeConfiguration index entry = s.writeNode n entry := by
  simp [State.written, indexBelow_eq_some h]

theorem written_motionRules {k : Fin 16} (h : k.val = index.toNat) :
    s.written .motionRules index entry = s.writeRule k entry := by
  simp [State.written, indexBelow_eq_some h]

theorem written_classes {c : ClassId} (h : c.val = index.toNat) :
    s.written .classes index entry = s.writeClass c entry := by
  simp [State.written, indexBelow_eq_some h]

end

/-- The refusals of R188, first check first. -/
theorem written_of_writeRefused {tb : Table} {index : Byte} {entry : List Byte} {code : AnswerCode}
    (refused : WriteRefused s tb index entry code) (form : ProperForm 1 (byte tb.code :: index :: entry))
    (low : index.toNat < tb.entries) : s.written tb index entry = .refused code := by
  cases refused with
  | length bad => exact absurd form bad
  | index _ out => omega
  | locked _ _ mode table =>
    rcases table with rfl | rfl
    · simp [written_kindMap (k := ⟨index.toNat, low⟩) rfl, State.writeKindMap, mode]
    · simp [written_nodeConfiguration (n := ⟨index.toNat, low⟩) rfl, State.writeNode, mode]
  | action b table low mode one above =>
    subst table one
    have unread : actionOf b = none := Option.not_isSome_iff_eq_none.1 (by rw [actionOf_isSome]; omega)
    simp [written_kindMap (k := ⟨index.toNat, low⟩) rfl, State.writeKindMap, mode, unread]
  | groupSetting q b table eight two above =>
    subst table two
    have unread : yesNo b = none := Option.not_isSome_iff_eq_none.1 (by rw [yesNo_isSome]; omega)
    simp [State.written, State.writePriorityMap, eight, indexBelow_eq_none (n := 8) le_rfl, unread]
  | nodeCode table low mode len bad =>
    subst table
    have unread : nodeEntry entry = none := Option.not_isSome_iff_eq_none.1 (by rwa [nodeEntry_isSome])
    simp [written_nodeConfiguration (n := ⟨index.toNat, low⟩) rfl, State.writeNode, mode, unread]
  | ruleCode table low len bad =>
    subst table
    have unread : ruleEntry entry = none := Option.not_isSome_iff_eq_none.1 (by rwa [ruleEntry_isSome])
    simp [written_motionRules (k := ⟨index.toNat, low⟩) rfl, State.writeRule, unread]
  | classCode table low len bad =>
    subst table
    have unread : classEntry entry = none := Option.not_isSome_iff_eq_none.1 (by rwa [classEntry_isSome])
    simp [written_classes (c := ⟨index.toNat, low⟩) rfl, State.writeClass, unread]
  | slotInUse j table at_ len empty stopped fault =>
    subst table
    obtain ⟨zone, profile, shed, rfl⟩ := List.length_eq_three.1 len
    have moving : (s.slot j).state.atRest = false := by
      cases state : (s.slot j).state <;> simp_all [SlotState.atRest]
    simp [written_slotConfiguration at_.symm, State.writeSlot, slotEntry, moving]
  | profileInUse k j table at_ len mode names busy =>
    subst table
    have used : s.profileInUse k = true := by
      simp only [State.profileInUse, List.any_eq_true]
      exact ⟨j, List.mem_finRange j, by simpa [names] using busy⟩
    match entry, len with
    | [a, b, c, d, e, f], _ =>
      simp [written_drawProfiles at_.symm, State.writeProfile, profileEntry, mode, used]
  | classActive c table at_ codes mode active =>
    subst table
    obtain ⟨⟨zones, unload, freeze, hold⟩, read⟩ := Option.isSome_iff_exists.1 (classEntry_isSome.2 codes)
    simp [written_classes at_.symm, State.writeClass, read, mode, active]

theorem classCodes_length {e : List Byte} (h : classCodes e) : e.length = 4 := by
  unfold classCodes at h
  split at h
  · rfl
  · exact h.elim

/-- Settles O20: the form and the index first (R185), then the owning block's own checks (R188). -/
theorem tableWritesRefused : Obligations.TableWritesRefused := by
  intro s tb tag index entry code room refused
  by_cases form : ProperForm 1 (byte tb.code :: index :: entry)
  · by_cases low : index.toNat < tb.entries
    · exact write_refused room (properForm_write.1 form) low (written_of_writeRefused refused form low) tag
    · have bad : code = .badIndex := by
        cases refused with
        | length bad => exact absurd form bad
        | index => rfl
        | locked _ low' => exact absurd low' low
        | action _ table low' => subst table; exact absurd low' low
        | groupSetting _ _ table eight => subst table; exact absurd (eight.trans_lt (by decide)) low
        | nodeCode table low' => subst table; exact absurd low' low
        | ruleCode table low' => subst table; exact absurd low' low
        | classCode table low' => subst table; exact absurd low' low
        | slotInUse j table at_ => subst table; exact absurd (at_.trans_lt j.isLt) low
        | profileInUse k _ table at_ => subst table; exact absurd (at_.trans_lt k.isLt) low
        | classActive c table at_ => subst table; exact absurd (at_.trans_lt c.isLt) low
      subst bad
      refine ⟨_, writeCommand_run tb tag index entry s, ?_⟩
      rw [State.tableWrite, manage_proper room form, if_neg low]
      exact State.refuse_answeredOnly ..
  · have bad : code = .malformed := by
      cases refused with
      | length | action | groupSetting | nodeCode | ruleCode | classCode => rfl
      | index good | locked good => exact absurd good form
      | slotInUse j table _ len => subst table; exact absurd (properForm_write.2 (by rw [len]; rfl)) form
      | profileInUse k _ table _ len => subst table; exact absurd (properForm_write.2 (by rw [len]; rfl)) form
      | classActive c table _ codes => subst table; exact absurd (properForm_write.2 (by rw [classCodes_length codes]; rfl)) form
    subst bad
    exact manage_answered (writeCommand_run tb tag index entry s) room form

end

end Sys2Proof.Machine
end

section
/-! PROOFS. Table entries and reads: the codes and fields of R200 read back what was written, the plain writes store their
clamped entry, and the reads send the fields in their order. -/

namespace Sys2Proof.Machine

section
variable {s : State}

/-! ### Fields read back (R198, R200) -/

theorem yesNo_byte (b : Bool) : yesNo (if b then 1 else 0) = some b := by cases b <;> rfl

theorem actionOf_code (a : Action) : actionOf (byte a.code) = some a := by cases a <;> rfl

theorem directionOf_code (d : Direction) : directionOf (byte d.code) = some d := by cases d <;> rfl

theorem metricOf_code (m : Metric) : metricOf (byte m.code) = some m := by cases m <;> rfl

theorem classOf_byte (c : ClassId) : classOf (byte c.val) = some c := by revert c; decide

theorem blindClassOf_byte (c : Option ClassId) : blindClassOf (byte ((c.map (·.val)).getD 255)) = some c := by
  cases c with
  | none => rfl
  | some c => revert c; decide

theorem set4_eta (zs : Set4) : zs = #v[zs[0], zs[1], zs[2], zs[3]] := by
  rcases zs with ⟨⟨l⟩, h⟩
  simp at h
  match l, h with
  | [a, b, c, d], _ => rfl

theorem set4Of_byte (zs : Set4) :
    set4Of (byte (bitOf zs[0] 0 + bitOf zs[1] 1 + bitOf zs[2] 2 + bitOf zs[3] 3)) = some zs := by
  have bits : ∀ a b c d : Bool, set4Of (byte (bitOf a 0 + bitOf b 1 + bitOf c 2 + bitOf d 3)) = some #v[a, b, c, d] := by
    decide
  rw [bits, ← set4_eta]

theorem effectsOf_byte (u f : Bool) : effectsOf (byte (bitOf u 0 + bitOf f 1)) = some (u, f) := by
  cases u <;> cases f <;> rfl

theorem byte_toNat {n : Nat} (h : n ≤ 255) : (byte n).toNat = n := by
  simp [byte]
  omega

theorem clampIndex_byte {n : Nat} (h : n ≤ 255) (k : Fin (n + 1)) : clampIndex n (byte k.val) = k := by
  have := k.isLt
  apply Fin.ext
  simp only [clampIndex]
  rw [byte_toNat (by omega)]
  omega

theorem wordOf_bytes (w : Word16) : wordOf (highByte w) (lowByte w) = w := by
  apply BitVec.eq_of_toNat_eq
  simp only [wordOf, highByte, lowByte, BitVec.toNat_append, BitVec.extractLsb'_toNat]
  rw [← Nat.shiftLeft_add_eq_or_of_lt (Nat.mod_lt _ (by decide)), Nat.shiftLeft_eq, Nat.shiftRight_eq_div_pow,
    Nat.shiftRight_zero]
  omega

theorem wordNat_two {n : Nat} (h : n ≤ 65535) : wordNat (byte (n / 256)) (byte (n % 256)) = n := by
  simp only [wordNat, wordOf, BitVec.toNat_append, byte_toNat (show n / 256 ≤ 255 by omega),
    byte_toNat (show n % 256 ≤ 255 by omega)]
  rw [← Nat.shiftLeft_add_eq_or_of_lt (by omega), Nat.shiftLeft_eq]
  omega

theorem wordInt_signedTwo {t : Int} (low : -32768 ≤ t) (high : t ≤ 32767) :
    wordInt (highByte (BitVec.ofInt 16 t)) (lowByte (BitVec.ofInt 16 t)) = t := by
  rw [wordInt, wordOf_bytes, BitVec.toInt_ofInt]
  exact Int.bmod_eq_of_le (by omega) (by omega)

theorem clampNat_of_between {lo hi n : Nat} (h : lo ≤ n ∧ n ≤ hi) : clampNat lo hi n = n := by
  unfold clampNat
  omega

theorem clampThreshold_of_range {m : Metric} {t : Int}
    (h : if m = .tilt then -256 ≤ t ∧ t ≤ 256 else 0 ≤ t ∧ t ≤ 28000) : clampThreshold m t = t := by
  cases m <;> simp [clampThreshold, clampInt] at h ⊢ <;> omega

/-! ### The entries as bytes (R187, R200) -/

theorem entryBytes_kindMap (k : Fin 16) : s.entryBytes .kindMap k.val = [byte s.kindMap[k].code] := by
  simp [State.entryBytes, indexBelow, one]

theorem entryBytes_priorityMap (k : Fin 8) : s.entryBytes .priorityMap k.val = [byte s.arbiter.priorityMap[k].val, 0] := by
  simp [State.entryBytes, indexBelow, one]

theorem entryBytes_groupSettings :
    s.entryBytes .priorityMap 8 = [byte s.arbiter.groupQueue.val, if s.arbiter.groupByPriority then 1 else 0] := by
  simp [State.entryBytes, indexBelow, one, flagByte]
  cases s.arbiter.groupByPriority <;> rfl

theorem entryBytes_drawProfiles (k : Fin 8) : s.entryBytes .drawProfiles k.val = s.profiles[k].bytes := by
  simp [State.entryBytes, indexBelow]

theorem entryBytes_slotConfiguration (i : SlotId) : s.entryBytes .slotConfiguration i.val =
    [byte (s.slot i).zone.val, byte (s.slot i).profile.val, byte (s.slot i).shedClass.val] := by
  simp [State.entryBytes, indexBelow, one]

theorem entryBytes_nodeConfiguration (n : NodeId) : s.entryBytes .nodeConfiguration n.val = (s.node n).config.bytes := by
  simp [State.entryBytes, indexBelow]

theorem entryBytes_motionRules (k : Fin 16) : s.entryBytes .motionRules k.val =
    (s.rule k).fieldBytes ++ (s.rule k).counters.toList.map byte := by
  simp [State.entryBytes, indexBelow]

theorem entryBytes_classes (c : ClassId) : s.entryBytes .classes c.val =
    (s.cls c).fieldBytes ++ (flagByte (s.cls c).active ++ optTwo (remaining s.now (s.cls c).expiry)
      ++ set4Byte (s.cls c).holders ++ two (s.cls c).fireCount) := by
  simp [State.entryBytes, indexBelow]

theorem flagByte_bit (b : Bool) : flagByte b = [if b then 1 else 0] := by cases b <;> rfl

theorem ceilingField_two {kept n : Nat} (h : n ≤ 600) :
    ceilingField kept (wordNat (byte (n / 256)) (byte (n % 256))) = n := by
  rw [wordNat_two (by omega), ceilingField, if_neg (by omega)]
  omega

theorem profileEntry_bytes {p : DrawProfile} (h : p.spinUpDraw ≤ 60 ∧ p.runningDraw ≤ 60
    ∧ (1 ≤ p.spinUpDeadline ∧ p.spinUpDeadline ≤ 255) ∧ (1 ≤ p.spinDownDeadline ∧ p.spinDownDeadline ≤ 255)
    ∧ (1 ≤ p.loadDeadline ∧ p.loadDeadline ≤ 255) ∧ (1 ≤ p.unloadDeadline ∧ p.unloadDeadline ≤ 255)) :
    profileEntry p.bytes = some p := by
  obtain ⟨up, run, spinUp, spinDown, load, unload⟩ := h
  simp only [DrawProfile.bytes, profileEntry, byte_toNat (up.trans (by decide)), byte_toNat (run.trans (by decide)),
    byte_toNat spinUp.2, byte_toNat spinDown.2, byte_toNat load.2, byte_toNat unload.2, clampNat_of_between spinUp,
    clampNat_of_between spinDown, clampNat_of_between load, clampNat_of_between unload, Nat.min_eq_left up,
    Nat.min_eq_left run]

theorem nodeEntry_bytes {c : NodeConfig} (g : 500 ≤ c.g ∧ c.g ≤ 2000) (k : 1 ≤ c.k ∧ c.k ≤ 6)
    (silence : 2 ≤ c.silenceLimit ∧ c.silenceLimit ≤ 255) (recovery : 1 ≤ c.recoveryCount ∧ c.recoveryCount ≤ 15) :
    nodeEntry c.bytes = some c := by
  simp only [NodeConfig.bytes, flagByte_bit, one, two, optOne, List.cons_append, List.nil_append, nodeEntry, yesNo_byte,
    directionOf_code, blindClassOf_byte, Option.bind_eq_bind, Option.bind_some, Option.pure_def,
    wordNat_two (g.2.trans (by decide)), byte_toNat (k.2.trans (by decide)), byte_toNat silence.2,
    byte_toNat (recovery.2.trans (by decide)), clampNat_of_between g, clampNat_of_between k, clampNat_of_between silence,
    clampNat_of_between recovery]

theorem ruleEntry_fieldBytes {r : MotionRule} (persistence : 1 ≤ r.persistence ∧ r.persistence ≤ 15)
    (threshold : if r.metric = .tilt then -256 ≤ r.threshold ∧ r.threshold ≤ 256
      else 0 ≤ r.threshold ∧ r.threshold ≤ 28000) :
    ruleEntry r.fieldBytes = some { r with counters := #v[0, 0, 0, 0] } := by
  have inRange : -32768 ≤ r.threshold ∧ r.threshold ≤ 32767 := by
    split at threshold <;> omega
  simp only [MotionRule.fieldBytes, flagByte_bit, set4Byte, one, signedTwo, List.cons_append, List.nil_append, ruleEntry,
    yesNo_byte, set4Of_byte, metricOf_code, classOf_byte, Option.bind_eq_bind, Option.bind_some, Option.pure_def,
    wordInt_signedTwo inRange.1 inRange.2, clampThreshold_of_range threshold,
    byte_toNat (persistence.2.trans (by decide)), clampNat_of_between persistence, freshRule]
  rfl

theorem classEntry_fieldBytes {c : ClassRecord} (hold : 1 ≤ c.holdTime ∧ c.holdTime ≤ 6000) :
    classEntry c.fieldBytes = some (c.zones, c.unload, c.freeze, c.holdTime) := by
  simp only [ClassRecord.fieldBytes, set4Byte, one, two, List.cons_append, List.nil_append, classEntry, set4Of_byte,
    effectsOf_byte, Option.bind_eq_bind, Option.bind_some, Option.pure_def, wordNat_two (hold.2.trans (by decide)),
    clampNat_of_between hold]

/-- Settles O60, table by table. -/
theorem tableEntriesRoundTrip : Obligations.TableEntriesRoundTrip := by
  intro s kept
  refine ⟨fun k => ?_, fun k => ?_, fun k => ?_, fun i => ?_, fun m b => ?_, ?_, fun n => ?_, fun k => ?_, fun c => ?_, ?_⟩
  · rw [entryBytes_kindMap]
    exact actionOf_code _
  · refine Fin.lastCases ?_ (fun p => ?_) k
    · change s.writePriorityMap 8 (s.entryBytes .priorityMap 8) = _
      rw [entryBytes_groupSettings]
      simp only [State.writePriorityMap, indexBelow_eq_none le_rfl, yesNo_byte, clampIndex_byte (n := 3) (by decide)]
    · change s.writePriorityMap p.val (s.entryBytes .priorityMap p.val) = _
      rw [entryBytes_priorityMap]
      simp only [State.writePriorityMap, indexBelow_eq_some rfl, clampIndex_byte (n := 3) (by decide)]
      have same : s.arbiter.priorityMap.set p.val s.arbiter.priorityMap[p] p.isLt = s.arbiter.priorityMap := by simp
      rw [same]
  · rw [entryBytes_drawProfiles]
    exact profileEntry_bytes (kept.profiles k)
  · rw [entryBytes_slotConfiguration]
    simp only [slotEntry, clampIndex_byte (n := 3) (by decide), clampIndex_byte (n := 7) (by decide)]
  · change some (ceilingField m (wordNat _ _), ceilingField b (wordNat _ _)) = _
    rw [ceilingField_two kept.ceilings.1, ceilingField_two kept.ceilings.2]
  · change some (min (wordNat _ _) 255) = _
    rw [wordNat_two (kept.stagger.trans (by decide)), Nat.min_eq_left kept.stagger]
  · rw [entryBytes_nodeConfiguration]
    obtain ⟨g, k, silence, recovery⟩ := kept.nodes n
    exact nodeEntry_bytes g k silence recovery
  · rw [entryBytes_motionRules, List.take_left' (by rfl)]
    exact ruleEntry_fieldBytes (kept.rules k).1 (kept.rules k).2
  · rw [entryBytes_classes, List.take_left' (by rfl)]
    exact classEntry_fieldBytes (kept.classes c)
  · obtain ⟨hold, debounce, plain⟩ := kept.timing
    change some (Timing.mk _ _ _) = _
    rw [byte_toNat hold, byte_toNat (debounce.2.trans (by decide)), byte_toNat plain.2, clampNat_of_between debounce,
      clampNat_of_between plain]

/-! ### The plain writes (R30, R38, R99, R122, R186) -/

/-- A stored write is answered DONE with the entry as stored. -/
theorem write_answered {tb : Table} {index : Byte} {entry bytes : List Byte} {v : State} (room : s.freeEntries ≠ 0)
    (form : entryLength tb.code = some entry.length) (low : index.toNat < tb.entries)
    (stored : s.written tb index entry = .stored v) (entered : v.entryBytes tb index.toNat = bytes) (tag : Byte) :
    ∃ t, exec (writeCommand tag index entry tb) s = .next t ∧
      AnsweredOnly v t ⟨31, 1, tag, .done, byte tb.code :: index :: bytes⟩ := by
  refine ⟨_, write_stored room form low stored tag, ?_⟩
  subst entered
  exact State.done_answeredOnly ..

/-- The entry of a motion rule write, read. -/
theorem ruleEntry_fields (yes : Bool) (ns : Set4) (m : Metric) (w : Word16) (b : Byte) (c : ClassId) :
    ruleEntry (flagByte yes ++ set4Byte ns ++ [byte m.code, highByte w, lowByte w, b, byte c.val]) =
      some (freshRule yes ns m (clampThreshold m w.toInt) (clampNat 1 15 b.toNat) c) := by
  simp only [flagByte_bit, set4Byte, one, List.cons_append, List.nil_append, ruleEntry, yesNo_byte, set4Of_byte,
    metricOf_code, classOf_byte, Option.bind_eq_bind, Option.bind_some, Option.pure_def, wordInt, wordOf_bytes]

/-- Settles O21, table by table. -/
theorem plainTableWritesStored : Obligations.PlainTableWritesStored := by
  intro s tag index b0 b1 b2 w a q yes ns m c room
  refine ⟨fun k mode at_ => ?_, fun k at_ queue => ?_, fun at_ queue => ?_, fun at_ => ?_, fun at_ => ?_, fun k at_ => ?_⟩
  · refine write_answered (tb := .kindMap) room rfl (at_ ▸ k.isLt) (v := { s with kindMap := s.kindMap.set k.val a }) ?_ ?_ tag
    · rw [written_kindMap at_]
      simp [State.writeKindMap, mode, actionOf_code]
    · rw [← at_, entryBytes_kindMap]
      simp
  · have read : clampIndex 3 b0 = q := Fin.ext queue.symm
    refine write_answered (tb := .priorityMap) room rfl (at_ ▸ k.isLt.trans (by decide))
      (v := { s with arbiter := { s.arbiter with priorityMap := s.arbiter.priorityMap.set k.val q } }) ?_ ?_ tag
    · simp [State.written, State.writePriorityMap, indexBelow_eq_some at_, read]
    · rw [← at_, entryBytes_priorityMap]
      simp
  · subst at_
    have read : clampIndex 3 b0 = q := Fin.ext queue.symm
    refine write_answered (tb := .priorityMap) room rfl (by decide)
      (v := { s with arbiter := { s.arbiter with groupQueue := q, groupByPriority := yes } }) ?_ ?_ tag
    · simp [State.written, State.writePriorityMap, indexBelow_eq_none (n := 8) le_rfl, read]
      cases yes <;> rfl
    · exact entryBytes_groupSettings
  · subst at_
    refine write_answered (tb := .stagger) room rfl (by decide)
      (v := { s with arbiter := { s.arbiter with staggerInterval := min w.toNat 255 } }) ?_ ?_ tag
    · simp [State.written, State.writeStagger, staggerEntry, wordNat, wordOf_bytes]
    · change two (min w.toNat 255) = _
      have high : min w.toNat 255 / 256 = 0 := by omega
      have low : min w.toNat 255 % 256 = min w.toNat 255 := by omega
      rw [two, high, low]
      rfl
  · subst at_
    refine write_answered (tb := .timing) room rfl (by decide)
      (v := { s with mgmt := { s.mgmt with timing := ⟨b0.toNat, max 1 (min 50 b1.toNat), max 1 b2.toNat⟩ } }) ?_ ?_ tag
    · have plain : clampNat 1 255 b2.toNat = max 1 b2.toNat := by
        have := b2.isLt
        unfold clampNat
        omega
      have debounce : clampNat 1 50 b1.toNat = max 1 (min 50 b1.toNat) := rfl
      simp [State.written, State.writeTiming, timingEntry, plain, debounce]
    · simp [State.entryBytes, one]
  · intro th r
    have threshold : clampThreshold m w.toInt = th := by
      cases m <;> rfl
    refine write_answered (tb := .motionRules) room ?_ (at_ ▸ k.isLt) (v := { s with rules := s.rules.set k.val r }) ?_ ?_ tag
    · simp [flagByte, set4Byte, one]
      rfl
    · rw [written_motionRules at_, State.writeRule, ruleEntry_fields, threshold]
      rfl
    · rw [← at_, entryBytes_motionRules]
      simp [State.rule, r, MotionRule.fieldBytes, one]

/-! ### The reads (R97, R187, R193, R194) -/

theorem indexed_taken {kind n : Nat} {tag b : Byte} {k : Fin n} (h : k.val = b.toNat) (take : Fin n → State) :
    s.indexed kind tag n b take = take k := by
  rw [State.indexed, indexBelow_eq_some h]

/-- A read that is answered DONE with its fields. -/
theorem read_answered {c : Instr} {kind : Nat} {tag : Byte} {payload fields : List Byte}
    (run : exec c s = .next (s.done kind tag payload)) (fieldwise : fields = payload) :
    ∃ t, exec c s = .next t ∧ AnsweredOnly s t ⟨31, byte kind, tag, .done, fields⟩ :=
  ⟨_, run, fieldwise ▸ State.done_answeredOnly ..⟩

theorem recordFields_eq (s : State) (i : SlotId) : recordFields s i = s.recordPart i := by
  unfold recordFields State.recordPart
  simp only [flagByte_eq, timeLeft_eq, narrowOr_eq, wide_eq, one]
  generalize s.slot i = r
  cases r.active <;> cases r.faultCause
  all_goals
    simp only [List.append_assoc, List.cons_append, List.nil_append]
    rfl

theorem laneFields_eq (s : State) (i : SlotId) : laneFields s i = s.lanePart i := by
  simp only [laneFields, State.lanePart, narrowOr_eq]
  cases (s.lane i).governed <;> cases (s.lane i).preempting <;> cases (s.lane i).plain <;>
    cases (s.lane i).lastPreempted <;> rfl

theorem wideOr_eq (n : Option Nat) : wideOr n = optTwo n := by
  cases n <;> rfl

theorem nodeFields_eq (s : State) (n : NodeId) : nodeFields s n = s.nodeReadPayload n := by
  simp only [nodeFields, State.nodeReadPayload, flagByte_eq, timeLeft_eq, narrowOr_eq, wideOr_eq]
  cases (s.node n).lastT <;> rfl

theorem groupFields_eq (s : State) (g : GroupId) : groupFields s g = s.groupSection g := by
  simp only [groupFields, State.groupSection]
  cases s.group g with
  | none => rfl
  | some r => simp [one, slotList, tagField, wide_eq, List.map_eq_flatMap]

theorem sectionFields_eq (s : State) (part : Fin 7) : sectionFields s part = s.statusReadPayload part.val := by
  match part with
  | 0 =>
    simp only [sectionFields, State.statusReadPayload, State.generalSection, flagByte_eq, flagSet_eq, wide_eq]
    have ceiling : ceilingOf s s.supply.source = s.ceilingInForce := by
      cases source : s.supply.source <;> simp [ceilingOf, State.ceilingInForce, source]
    simp only [ceiling, show List.finRange 4 = [0, 1, 2, 3] from rfl, List.map_eq_flatMap]
    simp [one]
  | 1 => simp [sectionFields, State.statusReadPayload, State.queuesSection, queueField, narrowOr_eq, one]
  | 2 =>
    simp only [sectionFields, State.statusReadPayload, State.classesSection, flagByte_eq, timeLeft_eq]
    rfl
  | 3 => exact groupFields_eq s 0
  | 4 => exact groupFields_eq s 1
  | 5 => exact groupFields_eq s 2
  | 6 => exact groupFields_eq s 3

/-- Settles O17. -/
theorem readsAnswered : Obligations.ReadsAnswered := by
  refine ⟨fun s tag index tb i n part room => ⟨fun fields at_ => ?_, ?_, ?_, ?_, ?_⟩, fun s => ?_, ?_⟩
  · rw [tableFields_getElem?, Option.ite_none_right_eq_some, Option.some.injEq] at at_
    obtain ⟨low, rfl⟩ := at_
    have form : ProperForm 0 [byte tb.code, index] := .tableRead _ _ (by rw [tableCode_toNat]; exact tableCode_le tb)
    refine read_answered (kind := 0) (congrArg Host.Outcome.next ((manage_proper room form tag _).trans ?_)) rfl
    simp only [tableOf_code, if_pos low]
    rfl
  · exact read_answered (kind := 2) (congrArg Host.Outcome.next ((manage_proper room (.slotRead _ 0 (by decide)) tag _).trans
      (indexed_taken (slotByte_toNat i).symm _))) (recordFields_eq s i)
  · exact read_answered (kind := 2) (congrArg Host.Outcome.next ((manage_proper room (.slotRead _ 1 (by decide)) tag _).trans
      (indexed_taken (slotByte_toNat i).symm _))) (laneFields_eq s i)
  · exact read_answered (kind := 3) (congrArg Host.Outcome.next ((manage_proper room (.nodeRead _) tag _).trans
      (indexed_taken (byte_toNat (n.isLt.le.trans (by decide))).symm _))) (nodeFields_eq s n)
  · have code : (byte part.val).toNat = part.val := byte_toNat (part.isLt.le.trans (by decide))
    refine read_answered (kind := 4) (congrArg Host.Outcome.next
      (manage_proper room (.statusRead _ (by rw [code]; exact Nat.le_of_lt_succ part.isLt)) tag _)) ?_
    rw [code]
    exact sectionFields_eq s part
  · simp [tableFields, Table.code]
  · exact ⟨by decide, by decide, by decide, by decide, by decide, by decide, fun c => rfl, by decide, by decide, by decide,
      fun c => rfl, by decide, by decide, by decide⟩

end

end Sys2Proof.Machine
end

section
/-! PROOFS. Frames on the wire (R198, R199): what is framed and escaped is received as it was, and the CRC. -/

namespace Sys2Proof.Machine

/-! ### The CRC (R198) -/

theorem crcBit_zero_msb {n : Nat} (h : n < 32768) : crcBit (BitVec.ofNat 16 n) = BitVec.ofNat 16 (2 * n) := by
  have clear : (BitVec.ofNat 16 n).msb = false := by
    rw [BitVec.msb_eq_false_iff_two_mul_lt]
    simp
    omega
  apply BitVec.eq_of_toNat_eq
  simp only [crcBit, clear, Bool.false_eq_true, if_false, BitVec.toNat_shiftLeft, BitVec.toNat_ofNat, Nat.shiftLeft_eq]
  omega

/-- A register whose high byte is clear is shifted through a byte without the polynomial. -/
theorem crcByte_of_low {c : Word16} {b : Byte} {n : Nat} (low : n < 256)
    (h : c ^^^ (b.zeroExtend 16 <<< 8) = BitVec.ofNat 16 n) : crcByte c b = BitVec.ofNat 16 (256 * n) := by
  simp only [crcByte, h]
  rw [crcBit_zero_msb (by omega), crcBit_zero_msb (by omega), crcBit_zero_msb (by omega), crcBit_zero_msb (by omega),
    crcBit_zero_msb (by omega), crcBit_zero_msb (by omega), crcBit_zero_msb (by omega), crcBit_zero_msb (by omega)]
  congr 1
  omega

theorem xor_highByte (c : Word16) : c ^^^ ((highByte c).zeroExtend 16 <<< 8) = BitVec.ofNat 16 (c.toNat % 256) := by
  apply BitVec.eq_of_getLsbD_eq
  intro i inside
  rw [show 256 = 2 ^ 8 from rfl, BitVec.getLsbD_ofNat, Nat.testBit_mod_two_pow, BitVec.testBit_toNat]
  by_cases low : i < 8
  · simp [highByte, inside, low]
  · have back : 8 + (i - 8) = i := by omega
    have high : i - 8 < 8 := by omega
    simp [highByte, inside, low, back, high]

theorem xor_lowByte (c : Word16) :
    BitVec.ofNat 16 (256 * (c.toNat % 256)) ^^^ ((lowByte c).zeroExtend 16 <<< 8) = BitVec.ofNat 16 0 := by
  have same : (lowByte c).zeroExtend 16 <<< 8 = BitVec.ofNat 16 (256 * (c.toNat % 256)) := by
    apply BitVec.eq_of_toNat_eq
    simp [lowByte, Nat.shiftLeft_eq]
    omega
  rw [same, BitVec.xor_self]

/-- The CRC over a frame with its own CRC is 0. -/
theorem crc16_own (bs : List Byte) : crc16 (bs ++ crcBytes bs) = 0 := by
  rw [crc16, List.foldl_append, ← crc16, crcBytes]
  simp only [List.foldl_cons, List.foldl_nil]
  rw [crcByte_of_low (Nat.mod_lt _ (by decide)) (xor_highByte _), crcByte_of_low (by decide) (xor_lowByte _)]
  rfl

/-- The check value of the CRC. -/
theorem crc16_check : crc16 [0x31, 0x32, 0x33, 0x34, 0x35, 0x36, 0x37, 0x38, 0x39] = 0x29B1 := by
  rw [crc16]
  simp only [List.foldl_cons, List.foldl_nil, show crcByte 0xFFFF 0x31 = 0xC782 by decide,
    show crcByte 0xC782 0x32 = 0x3DBA by decide,
    show crcByte 0x3DBA 0x33 = 0x5BCE by decide,
    show crcByte 0x5BCE 0x34 = 0x5349 by decide,
    show crcByte 0x5349 0x35 = 0x4560 by decide,
    show crcByte 0x4560 0x36 = 0x2EF4 by decide,
    show crcByte 0x2EF4 0x37 = 0x7718 by decide,
    show crcByte 0x7718 0x38 = 0xA12B by decide,
    show crcByte 0xA12B 0x39 = 0x29B1 by decide]

/-! ### Escaping (R198) -/

theorem escaped_cons (x : Byte) (xs : List Byte) : escaped (x :: xs) = escaped [x] ++ escaped xs := by
  simp only [escaped]
  split <;> rfl

theorem mustEscape_iff {b : Byte} : mustEscape b = true ↔ b = 0xC3 ∨ b = 0x3C ∨ b = 0x3D ∨ b = 0x7D := by
  simp [mustEscape, delimiter, holdSymbol, goSymbol, escapeByte, or_assoc]

theorem mem_escaped {bs : List Byte} {b : Byte} (h : b ∈ escaped bs) : b ≠ 0xC3 ∧ b ≠ 0x3C ∧ b ≠ 0x3D := by
  induction bs with
  | nil => cases h
  | cons x xs ih =>
    rw [escaped_cons, List.mem_append] at h
    rcases h with here | later
    · by_cases must : mustEscape x = true
      · simp only [escaped, must, if_true, List.mem_cons, List.not_mem_nil, or_false] at here
        rcases here with rfl | rfl
        · decide
        · rcases mustEscape_iff.1 must with rfl | rfl | rfl | rfl <;> decide
      · simp only [escaped, must, Bool.false_eq_true, if_false, List.mem_cons, List.not_mem_nil, or_false] at here
        subst here
        have plain := mt mustEscape_iff.2 must
        tauto
    · exact ih later

/-! ### Receiving (R198) -/

/-- A byte sent with its escape is restored, and the frame goes on or ends with it. -/
theorem receivedBodies_byte (r : List Byte) (x : Byte) (rest : List Byte) :
    receivedBodies (.inFrame r false) (escaped [x] ++ rest) =
      if frameEnded (r ++ [x]) then (checkedBody (r ++ [x])).toList ++ receivedBodies .idle rest
      else receivedBodies (.inFrame (r ++ [x]) false) rest := by
  by_cases must : mustEscape x = true
  · have restored : x ^^^ escapeMask ^^^ escapeMask = x := by rw [BitVec.xor_assoc, BitVec.xor_self, BitVec.xor_zero]
    have masked : x ^^^ escapeMask ≠ delimiter := by
      rcases mustEscape_iff.1 must with rfl | rfl | rfl | rfl <;> decide
    have first : (Receiver.inFrame r false).take escapeByte = (.inFrame r true, none) := rfl
    have second : (Receiver.inFrame r true).take (x ^^^ escapeMask) =
        if frameEnded (r ++ [x]) then (.idle, checkedBody (r ++ [x])) else (.inFrame (r ++ [x]) false, none) := by
      simp [Receiver.take, masked, restored]
    simp only [escaped, must, if_true, List.cons_append, List.nil_append, receivedBodies, first, second]
    cases frameEnded (r ++ [x])
    · rfl
    · cases checkedBody (r ++ [x]) <;> rfl
  · have plain := mt mustEscape_iff.2 must
    have notDelimiter : x ≠ delimiter := fun h => plain (.inl h)
    have notEscape : x ≠ escapeByte := fun h => plain (.inr (.inr (.inr h)))
    have taken : (Receiver.inFrame r false).take x =
        if frameEnded (r ++ [x]) then (.idle, checkedBody (r ++ [x])) else (.inFrame (r ++ [x]) false, none) := by
      simp [Receiver.take, notDelimiter, notEscape]
    simp only [escaped, must, List.cons_append, List.nil_append, receivedBodies, taken, Bool.false_eq_true, if_false]
    cases frameEnded (r ++ [x])
    · rfl
    · cases checkedBody (r ++ [x]) <;> rfl

theorem frameEnded_iff {len : Byte} {rest : List Byte} :
    frameEnded (len :: rest) = true ↔ rest.length = len.toNat + 1 := by
  simp [frameEnded]

/-- The rest of a frame, received byte by byte. -/
theorem receivedBodies_inFrame {len : Byte} {fields : List Byte} (whole : fields.length = len.toNat + 1) (rest : List Byte) :
    ∀ (xs r : List Byte), xs ≠ [] → r ++ xs = len :: fields →
      receivedBodies (.inFrame r false) (escaped xs ++ rest) =
        (checkedBody (len :: fields)).toList ++ receivedBodies .idle rest := by
  intro xs
  induction xs with
  | nil => exact fun _ h => absurd rfl h
  | cons x xs ih =>
    intro r _ split
    rw [escaped_cons, List.append_assoc, receivedBodies_byte]
    by_cases last : xs = []
    · subst last
      rw [split, if_pos (frameEnded_iff.2 whole)]
      rfl
    · have longer : (r ++ [x]) ++ xs = len :: fields := by simpa using split
      have going : ¬frameEnded (r ++ [x]) = true := by
        cases r with
        | nil =>
          simp only [List.nil_append, List.cons_append, List.cons.injEq] at longer ⊢
          rw [frameEnded_iff]
          simp
        | cons y ys =>
          obtain ⟨rfl, tail⟩ : y = len ∧ ys ++ [x] ++ xs = fields := by simpa using split
          have pos := List.length_pos_iff.2 last
          have lengths := congrArg List.length tail
          rw [List.cons_append, frameEnded_iff]
          simp at lengths ⊢
          omega
      rw [if_neg going]
      exact ih (r ++ [x]) last longer

/-- A frame is received whatever came before it, its body where its CRC is right. -/
theorem receivedBodies_frame {len hi lo : Byte} {fields : List Byte} (whole : fields.length + 1 = len.toNat) (r : Receiver)
    (rest : List Byte) : receivedBodies r (0xC3 :: (escaped (len :: fields ++ [hi, lo]) ++ rest)) =
      (if [hi, lo] = crcBytes (len :: fields) then [len :: fields] else []) ++ receivedBodies .idle rest := by
  have opened : r.take 0xC3 = (.inFrame [] false, none) := by simp [Receiver.take, delimiter]
  have checked : checkedBody (len :: (fields ++ [hi, lo])) =
      if [hi, lo] = crcBytes (len :: fields) then some (len :: fields) else none := by
    have split : len :: (fields ++ [hi, lo]) = (len :: fields) ++ [hi, lo] := rfl
    have cut : ((len :: fields) ++ [hi, lo]).length - 2 = (len :: fields).length := by simp
    rw [split, checkedBody, cut, List.take_left, List.drop_left]
  rw [receivedBodies, opened]
  refine (receivedBodies_inFrame (fields := fields ++ [hi, lo]) (by simp; omega) rest _ [] (by simp) rfl).trans ?_
  rw [checked]
  split <;> rfl

theorem receivedBodies_wireBytes {len : Byte} {fields : List Byte} (whole : fields.length + 1 = len.toNat) (r : Receiver)
    (rest : List Byte) :
    receivedBodies r (wireBytes (len :: fields) ++ rest) = (len :: fields) :: receivedBodies .idle rest := by
  have framed := receivedBodies_frame whole r rest (hi := highByte (crc16 (len :: fields))) (lo := lowByte (crc16 (len :: fields)))
  have own : [highByte (crc16 (len :: fields)), lowByte (crc16 (len :: fields))] = crcBytes (len :: fields) := rfl
  rw [if_pos own] at framed
  exact framed

theorem receivedBodies_noise {noise : List Byte} (quiet : ∀ b ∈ noise, b ≠ 0xC3) (rest : List Byte) :
    receivedBodies .idle (noise ++ rest) = receivedBodies .idle rest := by
  induction noise with
  | nil => rfl
  | cons b bs ih =>
    obtain ⟨here, later⟩ := List.forall_mem_cons.1 quiet
    have dropped : Receiver.idle.take b = (.idle, none) := if_neg here
    rw [List.cons_append, receivedBodies, dropped]
    exact ih later

/-- A frame sent alone is received as it was. -/
theorem received_wireBytes {len : Byte} {fields : List Byte} (whole : fields.length + 1 = len.toNat) :
    receivedBodies .idle (wireBytes (len :: fields)) = [len :: fields] := by
  simpa [receivedBodies] using receivedBodies_wireBytes whole .idle []

/-! ### The frames of each connection (R198, R199) -/

theorem trunkFrames_received : ∀ fs : List (List Byte × TrunkFrame),
    (∀ q ∈ fs, (∀ b ∈ q.1, b ≠ 0xC3) ∧ q.2.body.payload.length ≤ 249) →
    receivedBodies .idle (fs.flatMap fun q => q.1 ++ wireBytes q.2.bodyBytes) = fs.map fun q => q.2.bodyBytes
  | [], _ => rfl
  | (noise, f) :: fs, within => by
    obtain ⟨⟨quiet, short⟩, later⟩ := List.forall_mem_cons.1 within
    rw [List.flatMap_cons, List.append_assoc, receivedBodies_noise quiet, TrunkFrame.bodyBytes, receivedBodies_wireBytes,
      trunkFrames_received fs later]
    · rfl
    · rw [byte_toNat (by omega)]
      simp
      omega

theorem trunkFrameOf_bodyBytes (f : TrunkFrame) : trunkFrameOf f.bodyBytes = some f := rfl

/-- A lane frame of five fixed bytes and a payload is received whole. -/
theorem received_laneFrame (ty tag x y : Byte) {p : List Byte} (short : p.length ≤ 60) :
    receivedBodies .idle (wireBytes ([byte (5 + p.length), ty, tag, x, y] ++ p)) =
      [[byte (5 + p.length), ty, tag, x, y] ++ p] := by
  refine received_wireBytes ?_
  rw [byte_toNat (by omega)]
  simp
  omega

theorem laneCommands_completion (lane : SlotId) {ty tag x code : Byte} {p : List Byte} (short : p.length ≤ 16) :
    laneCommands lane (wireBytes ([byte (5 + p.length), ty, tag, x, code] ++ p)) =
      (laneCommandOf lane ([byte (5 + p.length), ty, tag, x, code] ++ p)).toList := by
  rw [laneCommands, received_laneFrame _ _ _ _ (by omega)]
  simp only [List.filterMap]
  cases laneCommandOf lane ([byte (5 + p.length), ty, tag, x, code] ++ p) <;> rfl

/-- Settles O59. -/
theorem framesRoundTrip : Obligations.FramesRoundTrip := by
  refine ⟨fun fs within => ?_, fun lane tag code p short => ⟨?_, ?_, ?_, ?_, ?_⟩, fun n node seq x y z => ?_,
    fun a short => received_laneFrame _ _ _ _ short, by decide, fun op tag kind p short => ⟨?_, ?_⟩, rfl, rfl,
    fun body => ⟨_, rfl, fun b => mem_escaped⟩, crc16_check, crc16_own, fun len hi lo fields whole wrong => ?_⟩
  · rw [trunkFrames, trunkFrames_received fs within, List.filterMap_map]
    exact List.filterMap_eq_map' ▸ rfl
  · rw [laneCommands_completion lane short]
    simp [laneCommandOf, Config.payloadMax, short]
  · rw [laneCommands_completion lane short]
    simp [laneCommandOf, Config.payloadMax, short]
  · rw [laneCommands_completion lane short]
    simp [laneCommandOf, Config.payloadMax, short]
  · rw [laneCommands, received_wireBytes rfl]
    rfl
  · rw [laneCommands, received_wireBytes rfl]
    rfl
  · rw [sampleCommands, received_wireBytes rfl]
    simp [sampleCommandOf, wordOf_bytes]
  · exact received_wireBytes rfl
  · exact received_laneFrame _ _ _ _ (by omega)
  · simpa [receivedBodies, wrong] using receivedBodies_frame (hi := hi) (lo := lo) whole .idle []

end Sys2Proof.Machine
end

section
/-! PROOFS. The sizes of the answers (12.3, R148, R150): every read answer and every group answer fits its payload. -/

namespace Sys2Proof.Machine

section
variable {s : State}

/-! ### Lengths of the fields (R200) -/

@[simp] theorem length_one (n : Nat) : (one n).length = 1 := rfl
@[simp] theorem length_two (n : Nat) : (two n).length = 2 := rfl
@[simp] theorem length_signedTwo (t : Int) : (signedTwo t).length = 2 := rfl
@[simp] theorem length_optOne (n : Option Nat) : (optOne n).length = 1 := rfl
@[simp] theorem length_optTwo (n : Option Nat) : (optTwo n).length = 2 := rfl
@[simp] theorem length_flagByte (b : Bool) : (flagByte b).length = 1 := rfl
@[simp] theorem length_set4Byte (zs : Set4) : (set4Byte zs).length = 1 := rfl
@[simp] theorem length_tagField (t : Byte) : (tagField t).length = 2 := rfl

@[simp] theorem length_optSigned (t : Option Int) : (optSigned t).length = 2 := by cases t <;> rfl
@[simp] theorem length_activeField (now : Nat) (a : Option ActiveRequest) : (activeField now a).length = 8 := by cases a <;> rfl
@[simp] theorem length_causeField (c : Option FaultCause) : (causeField c).length = 2 := by cases c <;> rfl
@[simp] theorem length_governedField (now : Nat) (g : Option GovernedRecord) : (governedField now g).length = 6 := by
  cases g <;> rfl
@[simp] theorem length_preemptingField (now : Nat) (p : Option PreemptingRecord) : (preemptingField now p).length = 5 := by
  cases p <;> rfl
@[simp] theorem length_plainField (now : Nat) (p : Option PlainRecord) : (plainField now p).length = 5 := by cases p <;> rfl
@[simp] theorem length_preemptedField (p : Option PreemptedOutcome) : (preemptedField p).length = 6 := by cases p <;> rfl

theorem length_flatMap_of_length {α β : Type} {f : α → List β} {n : Nat} (h : ∀ a, (f a).length = n) (l : List α) :
    (l.flatMap f).length = n * l.length := by
  induction l with
  | nil => rfl
  | cons a l ih => rw [List.flatMap_cons, List.length_append, h, ih, List.length_cons]; ring

/-! ### Reads (R193, R194) -/

theorem length_recordPart (s : State) (i : SlotId) : (s.recordPart i).length = 35 := by
  unfold State.recordPart
  generalize s.slot i = r
  simp only [List.length_append, length_one, length_two, length_optOne, length_optTwo, length_flagByte, length_activeField,
    length_causeField]

theorem length_lanePart (s : State) (i : SlotId) : (s.lanePart i).length = 26 + 2 * (s.lane i).retired.length := by
  simp [State.lanePart, length_flatMap_of_length length_tagField]
  omega

theorem length_nodeReadPayload (s : State) (n : NodeId) : (s.nodeReadPayload n).length = 25 := by
  simp [State.nodeReadPayload]

theorem length_generalSection (s : State) : s.generalSection.length ≤ 56 := by
  have inUse : ((List.finRange 4).filter fun g => (s.group g).isSome).length ≤ 4 :=
    (List.length_filter_le _ _).trans (by simp)
  simp [State.generalSection, length_flatMap_of_length fun _ => length_one _]
  omega

theorem length_queueField (q : List QueueEntry) : (queueField q).length = 1 + 2 * q.length := by
  simp [queueField, length_flatMap_of_length (n := 2)]

/-- The queues hold a slot at most once, so at most 24 entries in all (R29). -/
theorem length_examined (account : AccountKept s) : s.examined.length ≤ 24 := by
  have once : (s.examined.map (·.slot)).Nodup := by
    rw [List.nodup_iff_count_le_one]
    intro i
    have here : s.entriesOf i ≤ 1 := by
      rw [(account.slots i).queued]
      split <;> omega
    rw [List.count, List.countP_map]
    exact here
  simpa using once.length_le_card

theorem length_queuesSection (account : AccountKept s) : s.queuesSection.length ≤ 56 := by
  have entries := length_examined account
  simp [State.examined] at entries
  simp [State.queuesSection, length_queueField]
  omega

theorem length_classesSection (s : State) : s.classesSection.length = 24 := by
  simp [State.classesSection, length_flatMap_of_length (n := 3)]

/-- The remaining members of a record, listed in ascending slot number. -/
theorem length_listed {is : List SlotId} (once : is.Nodup) : (allSlots.filter fun i => decide (i ∈ is)).length = is.length := by
  refine List.Perm.length_eq ((List.perm_ext_iff_of_nodup ((List.nodup_finRange 24).filter _) once).2 fun i => ?_)
  simp

theorem length_slotList {is : List SlotId} (once : is.Nodup) : (slotList is).length = 1 + is.length := by
  simp only [slotList, List.length_append, length_one, length_flatMap_of_length fun i : SlotId => length_one i.val,
    length_listed once, Nat.one_mul]

theorem length_groupSection {g : GroupId} {r : GroupRecord} (open_ : s.group g = some r) (once : r.remaining.Nodup) :
    (s.groupSection g).length = 9 + r.remaining.length + 2 * r.results.length := by
  simp [State.groupSection, open_, length_slotList once, length_flatMap_of_length (n := 2)]
  omega

theorem length_groupSection_free {g : GroupId} (free : s.group g = none) : (s.groupSection g).length = 2 := by
  simp [State.groupSection, free]

theorem GroupKept.remaining_nodup {r : GroupRecord} (kept : GroupKept r) : r.remaining.Nodup :=
  (List.nodup_append.1 kept.once).1

theorem length_groupSection_le (groups : GroupsKept s) (g : GroupId) : (s.groupSection g).length ≤ 56 := by
  cases group : s.group g with
  | none => rw [length_groupSection_free group]; decide
  | some r =>
    have kept := groups.records g r group
    have figures := kept.figures
    have members := kept.members
    have open_ := List.length_pos_iff.2 kept.open_
    rw [length_groupSection group kept.remaining_nodup]
    omega

/-! ### Table entries (R187) -/

theorem length_tablePayload (s : State) (tb : Table) (index : Byte) : (s.tablePayload tb index).length ≤ 56 := by
  have entry : (s.entryBytes tb index.toNat).length ≤ 15 := by
    cases tb with
    | ceilings | stagger | timing => simp [State.entryBytes]
    | priorityMap =>
      simp only [State.entryBytes]
      split <;> simp
    | kindMap | drawProfiles | slotConfiguration | nodeConfiguration | motionRules | classes =>
      simp only [State.entryBytes, indexBelow]
      split <;> simp [DrawProfile.bytes, NodeConfig.bytes, MotionRule.fieldBytes, ClassRecord.fieldBytes]
  simp only [State.tablePayload, List.length_cons]
  omega

/-! ### Group answers (R148, R150) -/

theorem length_groupPayload (r : GroupRecord) : r.payload.length = 3 + 2 * r.results.length := by
  simp [GroupRecord.payload, length_flatMap_of_length (n := 2)]
  omega

/-- Outcomes of distinct remaining members never leave a record with more results than its fan-out. -/
theorem results_length_le : ∀ (outcomes : List (SlotId × AnswerCode)) (r : GroupRecord),
    (outcomes.map (·.1)).Nodup → (∀ o ∈ outcomes, o.1 ∈ r.remaining) → r.results.length + r.remaining.length ≤ 24 →
    (outcomes.foldl (fun r o => r.withOutcome o.1 o.2) r).results.length ≤ 24
  | [], _, _, _, room => (Nat.le_add_right _ _).trans room
  | (i, code) :: outcomes, r, once, within, room => by
    rw [List.map_cons, List.nodup_cons] at once
    obtain ⟨here, later⟩ := List.forall_mem_cons.1 within
    obtain ⟨remaining, -, figures⟩ := r.withOutcome_figures i code here
    refine results_length_le outcomes (r.withOutcome i code) once.2 (fun o member => ?_) ?_
    · rw [remaining]
      refine (List.mem_erase_of_ne fun same => once.1 ?_).2 (later o member)
      exact List.mem_map.2 ⟨o, member, same⟩
    · have grown : (r.withOutcome i code).results.length ≤ r.results.length + 1 := by
        unfold GroupRecord.withOutcome
        split <;> simp
      have shrunk := List.length_erase_of_mem here
      have pos := List.length_pos_of_mem here
      rw [remaining, shrunk]
      omega

/-- Settles O18. -/
theorem readPayloadsFit : Obligations.ReadPayloadsFit := by
  intro s account lanes groups
  refine ⟨fun i => ⟨?_, ?_⟩, fun n => ?_, fun part => ?_, fun g r open_ results remaining => ?_, length_tablePayload s,
    fun r source outcomes once within => ?_⟩
  · rw [length_recordPart]; decide
  · have retired := (lanes i).retired.2
    simp [Config.retiredMax] at retired
    rw [length_lanePart]
    omega
  · rw [length_nodeReadPayload]; decide
  · match part with
    | 0 => exact length_generalSection s
    | 1 => exact length_queuesSection account
    | 2 => exact (length_classesSection s).trans_le (by decide)
    | 3 => exact length_groupSection_le groups 0
    | 4 => exact length_groupSection_le groups 1
    | 5 => exact length_groupSection_le groups 2
    | 6 => exact length_groupSection_le groups 3
  · have section_ : s.statusReadPayload (3 + g.val) = s.groupSection g := by
      rw [Nat.add_comm, State.statusReadPayload, indexBelow_eq_some rfl]
      rfl
    rw [section_, length_groupSection open_ (groups.records g r open_).remaining_nodup]
    omega
  · have room : r.results.length + r.remaining.length ≤ 24 := by
      rcases source with ⟨g, open_⟩ | ⟨d, f, a, rfl⟩
      · have kept := groups.records g r open_
        have figures := kept.figures
        have members := kept.members
        omega
      · simpa [State.openedRecord] using s.members_length d
    have results := results_length_le outcomes r once within room
    rw [length_groupPayload]
    omega

end

end Sys2Proof.Machine
end

section
/-! PROOFS. Plain frames taken by the lane (R62), and the transmitter's end of frame (R136, R137). -/

namespace Sys2Proof.Machine

section
variable {s : State}

/-! ### A plain frame taken (R62) -/

theorem takePlain_taken {i : SlotId} {f : FrameBody} {a : Action}
    (open_ : ¬(a = .forwardIfClear ∧ (s.covered i || s.frozen i) = true)) (idle : (s.lane i).plain = none) :
    s.takePlain i f a = s.takeReservation.modifyLane i fun r =>
      r.issuePlain f.tag (frameKind f.kind) f.payload s.now (s.mgmt.timing.plainDeadline * 10) := by
  simp only [Bool.or_eq_true] at open_
  simp [State.takePlain, open_, idle]

/-- Settles O11. -/
theorem plainFrameTaken : Obligations.PlainFrameTaken := by
  intro s i f c k command room form present kind action idle lane
  have plain : s.kindMap[k] = .forward ∨ s.kindMap[k] = .forwardIfClear := action.imp_right (·.1)
  have open_ : ¬(s.kindMap[k] = .forwardIfClear ∧ (s.covered i || s.frozen i) = true) := by
    rcases action with forward | ⟨-, covered, frozen⟩
    · rw [forward]; simp
    · simp [covered, frozen]
  have taken := (takeSlotFrame_plain form present kind plain).trans (takePlain_taken open_ idle)
  refine ⟨_, slotFrame_exec command room, ?_⟩
  rw [taken, concludeEvent_of_quiet (by simp) (by simp) (by simp) (by simp), frameKind_eq kind]
  have tag := LaneRecord.freshTag_firstFree (s.lane i) lane.retired.2
  refine ⟨State.eq_of_fields (by simp), by simp, by simp, by simpa [LaneRecord.issuePlain] using tag, ?_, fun j other => ?_⟩
  · simp [LaneRecord.issuePlain, LaneRecord.send, Nat.mul_comm]
  · exact (State.lane_modifyLane_of_ne _ other _).trans (by simp [State.lane])

/-! ### The end of a frame (R136, R137) -/

/-- The head frame has left and the waiting symbols have gone out, whether the transmitter had begun it already or not. -/
theorem headSent_symbols {a : AnswerFrame} {rest : List AnswerFrame} (queue : s.trunk.queue = a :: rest)
    (running : s.trunk.restartPending = none) :
    s.startTransmission.headSent.sendSymbols = { s with trunk := ⟨rest, false, s.trunk.reservations, s.trunk.hold, [], none,
      s.trunk.transmitted ++ (if s.trunk.transmitting then .answer a :: s.trunk.flowDue.map .symbol
        else s.trunk.flowDue.map .symbol ++ [.answer a])⟩ } := by
  cases sends : s.trunk.transmitting <;>
    simp [State.startTransmission, State.headSent, State.sendSymbols, sends, queue, running]

/-- An idle transmitter over which HOLD is left: GO goes out at once. -/
theorem refreshFlow_idle (idle : s.trunk.transmitting = false) (symbols : s.trunk.flowDue = [])
    (hold : s.freeEntries < 8 → s.trunk.hold = true) : s.refreshFlow = { s with trunk := { s.trunk with
      hold := decide (s.freeEntries < 8)
      transmitted := s.trunk.transmitted ++ (if s.trunk.hold && decide (8 ≤ s.freeEntries) then [.symbol .go] else []) } } := by
  by_cases short : s.freeEntries < 8
  · have held := hold short
    have unchanged : s.refreshFlow = s := by simp [State.refreshFlow, Config.holdMargin, short, held]
    have same : decide (s.freeEntries < 8) = s.trunk.hold := by simp [short, held]
    rw [unchanged, same, if_neg (by simp [short]), List.append_nil]
  · have free : 8 ≤ s.freeEntries := by omega
    cases held : s.trunk.hold
    · have unchanged : s.refreshFlow = s := by simp [State.refreshFlow, Config.holdMargin, short, held]
      have same : decide (s.freeEntries < 8) = s.trunk.hold := by simp [short, held]
      rw [unchanged, same, if_neg (by simp), List.append_nil]
    · simp [State.refreshFlow, Config.holdMargin, State.dueSymbol, State.sendSymbols, held, idle, symbols, short, free]

/-- Between frames, with no symbol waiting and no RESTART pending, the frame at the head is begun. -/
theorem startTransmission_next (idle : s.trunk.transmitting = false) (symbols : s.trunk.flowDue = [])
    (running : s.trunk.restartPending = none) :
    s.startTransmission = { s with trunk := { s.trunk with transmitting := !s.trunk.queue.isEmpty } } := by
  cases queue : s.trunk.queue with
  | nil =>
    rw [startTransmission_of_not (.inr (.inr queue)), show (!([] : List AnswerFrame).isEmpty) = s.trunk.transmitting from idle.symm]
  | cons a rest =>
    refine State.eq_of_fields ?_
    simp [startTransmission_of_idle idle running (by simp [queue]), symbols, queue]

/-- Settles O7. -/
theorem answerSentFreesEntry : Obligations.AnswerSentFreesEntry := by
  intro s a rest kept running
  refine ⟨fun queue => ?_, fun empty => ?_⟩
  · have sends : s.startTransmission.trunk.transmitting = true := by
      cases sends : s.trunk.transmitting
      · rw [startTransmission_of_idle sends running (by simp [queue])]
      · rw [startTransmission_of_not (.inl sends), sends]
    have sent := headSent_symbols queue running
    generalize moved : ({ s with trunk := _ } : State) = v at sent
    have hold : v.freeEntries < 8 → v.trunk.hold = true := fun short => by
      subst moved
      refine kept.hold.2 ?_
      simp only [State.freeEntries, Config.egressCapacity, Config.holdMargin, queue, List.length_cons] at short ⊢
      omega
    have flow := refreshFlow_idle (s := v) (by rw [← moved]) (by rw [← moved]) hold
    have begun := startTransmission_next (s := v.refreshFlow) (by rw [flow, ← moved]) (by rw [flow, ← moved])
      (by rw [flow, ← moved])
    have still : s.startTransmission.headSent.trunk.restartPending = none := by
      rw [State.headSent_port _ a rest (by simp [queue])]
      simpa using running
    refine ⟨v.refreshFlow.startTransmission, ?_, ?_, ?_⟩
    · change execAnswerSent s = _
      simp only [execAnswerSent, sends, still, sent, if_true]
    · rw [begun, flow, ← moved]
      rfl
    · rw [begun, flow, ← moved]
      rfl
  · change execAnswerSent s = _
    have idle : s.trunk.transmitting = false := by
      cases sends : s.trunk.transmitting
      · rfl
      · exact absurd empty (kept.head sends)
    simp [execAnswerSent, State.startTransmission, empty, idle]

end

end Sys2Proof.Machine
end

section
/-! PROOFS. The execution of a RESTART (R181): the lanes' tags, the marking of the PROBING slots, the records. -/

namespace Sys2Proof.Machine

section
variable {s : State}

/-! ### Tags retired in turn (R52, R61) -/

theorem suffix_retireTag {xs l : List Byte} {t : Byte} (h : xs <:+ l) (short : xs.length < Config.retiredMax) :
    xs ++ [t] <:+ retireTag l t := by
  have kept : xs <:+ if Config.retiredMax ≤ l.length then l.drop (l.length + 1 - Config.retiredMax) else l := by
    split
    · rw [List.suffix_iff_eq_drop.1 h]
      refine List.drop_suffix_drop_left l ?_
      simp only [Config.retiredMax] at *
      omega
    · exact h
  exact (List.suffix_append_inj_of_length_eq rfl).2 ⟨kept, rfl⟩

/-- Up to eight tags retired in turn are all held. -/
theorem suffix_foldl_retireTag : ∀ (tags xs l : List Byte), xs <:+ l → xs.length + tags.length ≤ Config.retiredMax →
    xs ++ tags <:+ tags.foldl retireTag l
  | [], xs, l, h, _ => by simpa using h
  | t :: tags, xs, l, h, short => by
    rw [List.length_cons] at short
    have next := suffix_foldl_retireTag tags (xs ++ [t]) (retireTag l t) (suffix_retireTag h (by omega)) (by simp; omega)
    simpa using next

theorem LaneRecord.abandonAll_retires (r : LaneRecord) : ∀ t ∈ r.outstanding, t ∈ r.abandonAll.retired := by
  intro t out
  have short : r.tagsInIssueOrder.length ≤ 8 := by
    rw [r.tagsInIssueOrder_perm.length_eq]
    simp only [LaneRecord.outstanding, List.length_append, Option.length_toList]
    cases r.governed <;> cases r.preempting <;> cases r.plain <;> simp
  have held := suffix_foldl_retireTag r.tagsInIssueOrder [] r.retired (List.nil_suffix) (by simpa [Config.retiredMax] using short)
  exact held.subset (by simpa using r.tagsInIssueOrder_perm.mem_iff.2 out)

/-! ### Marking PROBING slots (R161, R162) -/

/-- A PROBING slot without a request whose standing target is STOPPED: what a RESTART leaves of a slot whose switch is on. -/
structure Probing (s : State) (i : SlotId) : Prop where
  state : (s.slot i).state = .probing
  active : (s.slot i).active = none
  standing : (s.slot i).standing = .stopped
  reservation : (s.slot i).reservation = 8

theorem Probing.shedMarkSlot {i : SlotId} (h : Probing s i) :
    s.shedMarkSlot i = s.modifySlot i fun r => { r with shedMark := true } := by
  have marked : (s.modifySlot i fun r => { r with shedMark := true, standing := .stopped }) =
      s.modifySlot i fun r => { r with shedMark := true } := modifySlot_congr (by simp [← h.standing])
  have quiet : ((s.modifySlot i fun r => { r with shedMark := true }).slot i).active = none := by simp [h.active]
  have rests : ((s.modifySlot i fun r => { r with shedMark := true }).slot i).state = .probing := by simp [h.state]
  rw [State.shedMarkSlot, marked, State.giveOutcome_of_none _ quiet, State.proceed, rests]

theorem Probing.modify_mark {i j : SlotId} (h : Probing s i) :
    Probing (s.modifySlot j fun r => { r with shedMark := true }) i := by
  obtain ⟨state, active, standing, reservation⟩ := h
  by_cases same : i = j
  · subst same
    exact ⟨by simp [state], by simp [active], by simp [standing], by simp [reservation]⟩
  · exact ⟨by simp [same, state], by simp [same, active], by simp [same, standing], by simp [same, reservation]⟩

/-- Marking a list of PROBING slots from the highest slot number down: those before which the relief does not yet cover the
shortfall are marked, and nothing else changes. -/
theorem shedRun_probing : ∀ (order : List SlotId) {s : State} (relief : Nat), (∀ i ∈ order, Probing s i) →
    order.Pairwise (fun i j => j < i) → s.ceilingInForce < s.arbiter.reservationTotal - relief →
    (s.shedRun order relief = { s with slots := (s.shedRun order relief).slots }) ∧
      ∀ j, (s.shedRun order relief).slot j = if j ∈ order ∧ s.ceilingInForce < s.arbiter.reservationTotal -
        (relief + 8 * order.countP fun i => decide (j < i)) then { s.slot j with shedMark := true } else s.slot j
  | [], s, relief, _, _, _ => ⟨rfl, fun j => by simp [State.shedRun]⟩
  | i :: rest, s, relief, probing, sorted, short => by
    obtain ⟨here, later⟩ := List.forall_mem_cons.1 probing
    obtain ⟨below, sorted⟩ := List.pairwise_cons.1 sorted
    have slot : ∀ j, (s.modifySlot i fun r => { r with shedMark := true }).slot j =
        if j = i then { s.slot j with shedMark := true } else s.slot j := fun j => by
      by_cases same : j = i
      · subst same; simp
      · simp [same]
    have first : ∀ j, ¬j < i → (i :: rest).countP (fun k => decide (j < k)) = 0 := fun j low => by
      simp only [List.countP_eq_zero, List.mem_cons, decide_eq_true_eq]
      rintro k (rfl | later)
      · exact low
      · exact fun above => low (above.trans (below k later))
    have next : ∀ j ∈ rest, (i :: rest).countP (fun k => decide (j < k)) = 1 + rest.countP fun k => decide (j < k) :=
      fun j later => by simp [below j later, Nat.add_comm]
    rw [State.shedRun, here.shedMarkSlot, here.reservation]
    generalize marked : (s.modifySlot i fun r => { r with shedMark := true }) = m at slot ⊢
    have total : m.arbiter.reservationTotal = s.arbiter.reservationTotal := by subst marked; simp
    have ceiling : m.ceilingInForce = s.ceilingInForce := by subst marked; simp
    simp only [total, ceiling]
    split
    next covered =>
      refine ⟨by subst marked; rfl, fun j => ?_⟩
      rw [slot]
      by_cases same : j = i
      · subst same
        simp only [if_true, List.mem_cons, true_or, true_and, first j (lt_irrefl _), Nat.mul_zero, Nat.add_zero, short]
      · rw [if_neg same, if_neg]
        rintro ⟨member, above⟩
        have after := List.mem_of_ne_of_mem same member
        rw [next j after] at above
        omega
    next uncovered =>
      obtain ⟨only, slots⟩ := shedRun_probing rest (s := m) (relief + 8) (fun k after => marked ▸ (later k after).modify_mark) sorted
        (by omega)
      refine ⟨by rw [only]; subst marked; rfl, fun j => ?_⟩
      rw [slots, slot, total, ceiling]
      by_cases same : j = i
      · subst same
        have out : j ∉ rest := fun back => lt_irrefl _ (below j back)
        simp only [out, false_and, if_false, List.mem_cons, true_or, true_and, first j (lt_irrefl _), Nat.mul_zero, Nat.add_zero,
          short, if_true]
      · by_cases after : j ∈ rest
        · simp only [after, same, true_and, List.mem_cons, or_true, next j after, if_false]
          rw [show relief + 8 * (1 + rest.countP fun k => decide (j < k)) =
            relief + 8 + 8 * rest.countP fun k => decide (j < k) by omega]
        · simp [after, same]

theorem mem_allSlots (i : SlotId) : i ∈ allSlots := List.mem_finRange i

theorem SlotRecord.unmark {r : SlotRecord} (h : r.shedMark = false) : { r with shedMark := false } = r := by
  rw [← h]

/-- A state that a RESTART's records make: the slots of `p` are PROBING, the others hold no reservation, and nothing is marked. -/
structure JustRestarted (s : State) (p : SlotId → Bool) : Prop where
  probing : ∀ i, p i = true → Probing s i
  others : ∀ i, p i = false → (s.slot i).reservation = 0
  unmarked : ∀ i, (s.slot i).shedMark = false
  shedClass : ∀ i, (s.slot i).shedClass = 0
  total : s.arbiter.reservationTotal = 8 * allSlots.countP p

theorem countP_split (p : SlotId → Bool) (i : SlotId) :
    allSlots.countP p = allSlots.countP (fun j => p j && decide (j ≤ i)) + (allSlots.filter p).countP fun j => decide (i < j) := by
  have above : (allSlots.filter p).countP (fun j => decide (i < j)) = allSlots.countP fun j => p j && decide (i < j) := by
    rw [List.countP_filter]
    simp [Bool.and_comm]
  rw [above]
  generalize allSlots = l
  induction l with
  | nil => rfl
  | cons j l ih =>
    simp only [List.countP_cons, ih]
    rcases le_or_gt j i with low | high
    · simp [low, not_lt.2 low]
      omega
    · simp [high, not_le.2 high]
      omega

section
variable {p : SlotId → Bool} (h : JustRestarted s p)
include h

theorem JustRestarted.shedOrder : s.shedOrder = allSlots.reverse.filter p := by
  have candidate : ∀ i, s.shedCandidate i = p i := fun i => by
    cases chosen : p i
    · simp [State.shedCandidate, h.others i chosen]
    · simp [State.shedCandidate, (h.probing i chosen).reservation, (h.probing i chosen).state, h.unmarked, h.shedClass]
  simp [State.shedOrder, h.shedClass, candidate]

theorem JustRestarted.markedRelief : s.markedRelief = 0 := by
  simp [State.markedRelief, h.unmarked]

theorem JustRestarted.congr {t : State} (slots : t.slots = s.slots)
    (total : t.arbiter.reservationTotal = s.arbiter.reservationTotal) : JustRestarted t p := by
  have slot : ∀ i, t.slot i = s.slot i := fun i => by simp only [State.slot, slots]
  refine ⟨fun i chosen => ?_, fun i out => ?_, fun i => ?_, fun i => ?_, total.trans h.total⟩
  · obtain ⟨state, active, standing, reservation⟩ := h.probing i chosen
    exact ⟨slot i ▸ state, slot i ▸ active, slot i ▸ standing, slot i ▸ reservation⟩
  · rw [slot]; exact h.others i out
  · rw [slot]; exact h.unmarked i
  · rw [slot]; exact h.shedClass i

/-- The shed selector takes the PROBING slots from the highest down until the rest fit (R160, R161). -/
theorem JustRestarted.considerShed (exceeds : s.ceilingInForce < s.arbiter.reservationTotal) :
    s.considerShed = { s with slots := s.considerShed.slots } ∧ ∀ i, s.considerShed.slot i = { s.slot i with
      shedMark := p i && decide (s.ceilingInForce < 8 * allSlots.countP fun j => p j && decide (j ≤ i)) } := by
  have runs : s.considerShed = s.shedRun (allSlots.reverse.filter p) 0 := by
    rw [State.considerShed, h.markedRelief, Nat.sub_zero, if_pos exceeds, h.shedOrder]
  have sorted : (allSlots.reverse.filter p).Pairwise fun i j => j < i :=
    (List.pairwise_reverse.2 (List.pairwise_lt_finRange 24)).filter _
  obtain ⟨only, slots⟩ := shedRun_probing (allSlots.reverse.filter p) (s := s) 0
    (fun i member => h.probing i (by simpa using (List.mem_filter.1 member).2)) sorted (by simpa using exceeds)
  rw [runs]
  refine ⟨only, fun i => ?_⟩
  have figure : s.arbiter.reservationTotal - (0 + 8 * (allSlots.reverse.filter p).countP fun j => decide (i < j)) =
      8 * allSlots.countP fun j => p j && decide (j ≤ i) := by
    have split := countP_split p i
    rw [List.filter_reverse, List.countP_reverse, h.total]
    omega
  rw [slots, figure]
  have every : i ∈ allSlots.reverse.filter p ↔ p i = true := by
    simp [mem_allSlots]
  have same := SlotRecord.unmark (h.unmarked i)
  simp only [every]
  cases chosen : p i
  · simp [same]
  · by_cases short : s.ceilingInForce < 8 * allSlots.countP fun j => p j && decide (j ≤ i)
    · simp [short]
    · simp [short, same]

/-- The over-ceiling test of a RESTART (R158). -/
theorem JustRestarted.overCeilingTest (below : s.supply.overCeiling = false) :
    s.overCeilingTest = { s with
      slots := s.overCeilingTest.slots
      supply := { s.supply with overCeiling := decide (s.ceilingInForce < s.arbiter.reservationTotal) }
      mgmt := if s.ceilingInForce < s.arbiter.reservationTotal then (s.setFlag .overCeiling).mgmt else s.mgmt } ∧
      ∀ i, s.overCeilingTest.slot i = { s.slot i with
        shedMark := p i && decide (s.ceilingInForce < s.arbiter.reservationTotal) &&
          decide (s.ceilingInForce < 8 * allSlots.countP fun j => p j && decide (j ≤ i)) } := by
  by_cases exceeds : s.ceilingInForce < s.arbiter.reservationTotal
  · have tested : s.overCeilingTest = ((s.setOverCeiling true).setFlag .overCeiling).considerShed := by
      simp [State.overCeilingTest, exceeds, below]
    have raised := h.congr (t := (s.setOverCeiling true).setFlag .overCeiling) (by simp) (by simp)
    obtain ⟨only, slots⟩ := raised.considerShed (by simpa using exceeds)
    rw [tested]
    refine ⟨?_, fun i => ?_⟩
    · refine State.eq_of_fields ?_
      rw [only]
      simp [exceeds]
      exact ⟨rfl, rfl⟩
    · rw [slots]
      simp [exceeds]
      rfl
  · rw [State.overCeilingTest_of_le _ (Nat.not_lt.1 exceeds)]
    have same := fun i => SlotRecord.unmark (h.unmarked i)
    simp [exceeds, State.setOverCeiling, same]

end

/-! ### The records and the lanes (R181 steps 1 to 5) -/

theorem restartRecords_slot (s : State) (i : SlotId) : s.restartRecords.slot i = (s.slot i).restarted i s.now := by
  simp [State.slot, State.restartRecords]

theorem restartRecords_lane (s : State) (i : SlotId) : s.restartRecords.lane i = (s.lane i).restarted := by
  simp [State.lane, State.restartRecords]

theorem restartState_eq (s : State) (i : SlotId) : (s.slot i).restartState =
    if probes s i then .probing else if (s.slot i).present then .stopped else .empty := by
  cases present : (s.slot i).present <;> cases switch : (s.slot i).powerSwitch <;>
    simp [SlotRecord.restartState, probes, present, switch]

theorem restartState_probing (s : State) (i : SlotId) : (s.slot i).restartState = .probing ↔ probes s i = true := by
  rw [restartState_eq]
  cases probes s i <;> cases (s.slot i).present <;> simp

theorem restarted_reservation (s : State) (i : SlotId) :
    ((s.slot i).restarted i s.now).reservation = if probes s i then 8 else 0 := by
  simp [SlotRecord.restarted, restartState_probing, defaultProfile]

theorem restart_total (s : State) : s.restartRecords.arbiter.reservationTotal = probingTotal s := by
  simp [State.restartRecords, restarted_reservation, probingTotal, countP_eq_sum, ← List.sum_map_mul_left]

theorem restart_ceiling (s : State) : s.restartRecords.ceilingInForce = restartCeiling s := by
  cases source : s.supply.source <;>
    simp [State.ceilingInForce, State.restartRecords, restartCeiling, source, defaultArbiter]

/-- What the records of a RESTART hold before its over-ceiling test. -/
theorem justRestarted (s : State) : JustRestarted s.restartRecords.sendQueries (probes s) := by
  have slot : ∀ i, s.restartRecords.sendQueries.slot i = (s.slot i).restarted i s.now := fun i => by
    rw [← restartRecords_slot]
    simp [State.slot]
  refine ⟨fun i chosen => ⟨?_, ?_, ?_, ?_⟩, fun i out => ?_, fun i => ?_, fun i => ?_, ?_⟩
  · rw [slot]; exact (restartState_probing s i).2 chosen
  · rw [slot]; rfl
  · rw [slot]; rfl
  · rw [slot, restarted_reservation, chosen]; rfl
  · rw [slot, restarted_reservation, out]; rfl
  · rw [slot]; rfl
  · rw [slot]; rfl
  · exact (by simp : _ = s.restartRecords.arbiter.reservationTotal).trans (restart_total s)

/-! ### The execution (R181) -/

/-- What the execution of a RESTART leaves, block by block. -/
structure Restarted (s t : State) (sent : List TrunkOutput) (tag : Byte) : Prop where
  defaults : AtDefaults t s.now
  now : t.now = s.now
  total : t.arbiter.reservationTotal = probingTotal s
  supply : t.supply = { s.supply with
    debounceExpiry := resetDebounce s.now (sourceOf s.supply.line != s.supply.source)
    overCeiling := decide (restartCeiling s < probingTotal s) }
  flags : t.mgmt.flags = ⟨false, false, false, decide (restartCeiling s < probingTotal s), false, false⟩
  trunk : t.trunk = ⟨[⟨31, 11, tag, .done, []⟩], false, 0, false, [.go], none, sent⟩
  slot : ∀ i, t.slot i = { (s.slot i).restarted i s.now with
    shedMark := probes s i && decide (restartCeiling s < probingTotal s) &&
      decide (restartCeiling s < 8 * allSlots.countP fun j => probes s j && decide (j ≤ i)) }
  lane : ∀ i, t.lane i = if probes s i then (s.lane i).restarted.issueGoverned .query s.now 250 else (s.lane i).restarted

theorem done_emptied {o : State} {p : TrunkPort} (trunk : o.trunk = p.restarted) (kind : Nat) (tag : Byte) :
    o.done kind tag [] =
      { o with trunk := ⟨[⟨31, byte kind, tag, .done, []⟩], false, 0, false, [.go], none, p.transmitted⟩ } := by
  simp [State.done, State.answer, State.refreshFlow, State.freeEntries, trunk, TrunkPort.restarted, Config.egressCapacity,
    Config.holdMargin, manageAnswer, Config.gatewayAddress]

theorem restarted_executeRestart (s : State) (tag : Byte) : Restarted s (s.executeRestart tag) s.trunk.transmitted tag := by
  obtain ⟨only, slots⟩ := (justRestarted s).overCeilingTest (by simp [State.restartRecords])
  have ceiling : s.restartRecords.sendQueries.ceilingInForce = restartCeiling s := by
    rw [← restart_ceiling]
    simp [State.ceilingInForce]
  have total : s.restartRecords.sendQueries.arbiter.reservationTotal = probingTotal s := by
    rw [← restart_total]
    simp
  simp only [ceiling, total] at only slots
  have slot : ∀ i, s.restartRecords.sendQueries.slot i = (s.slot i).restarted i s.now := fun i => by
    rw [← restartRecords_slot]
    simp [State.slot]
  have lane : ∀ i, s.restartRecords.sendQueries.lane i =
      if probes s i then (s.lane i).restarted.issueGoverned .query s.now 250 else (s.lane i).restarted := fun i => by
    have free : (s.lane i).restarted.governed = none := by simp [LaneRecord.restarted]
    rw [State.sendQueries_lane, restartRecords_slot, restartRecords_lane, LaneRecord.ask_of_free _ free]
    simp only [show ((s.slot i).restarted i s.now).state = (s.slot i).restartState from rfl, restartState_probing]
    rfl
  rw [State.executeRestart]
  generalize s.restartRecords.sendQueries.overCeilingTest = o at only slots
  have port : o.trunk = s.trunk.restarted := by rw [only]; simp [State.restartRecords]
  have mgmt : o.mgmt = { defaultManagement with
      flags := ⟨false, false, false, decide (restartCeiling s < probingTotal s), false, false⟩ } := by
    have start : s.restartRecords.sendQueries.mgmt = defaultManagement := by simp [State.restartRecords]
    rw [only]
    by_cases exceeds : restartCeiling s < probingTotal s
    · simp only [exceeds, if_true, State.setFlag, State.setEvents, start, decide_true]
      rfl
    · simp only [exceeds, if_false, start, decide_false]
      rfl
  rw [done_emptied port]
  refine { defaults := ?_, now := ?_, total := ?_, supply := ?_, flags := ?_, trunk := rfl, slot := fun i => ?_, lane := fun i => ?_ }
  · have records : o.kindMap = defaultKindMap ∧ o.profiles = defaultProfiles ∧
        o.nodes = Vector.replicate 4 (defaultNode s.now) ∧ o.rules = defaultRules ∧ o.classes = defaultClasses ∧
        o.zones = defaultZones ∧ o.groups = Vector.replicate 4 none := by
      rw [only]; simp [State.restartRecords]
    obtain ⟨kindMap, profiles, nodes, rules, classes, zones, groups⟩ := records
    refine ⟨kindMap, ?_, profiles, nodes, rules, classes, zones, groups, ?_⟩
    · have arbiter : o.arbiter = s.restartRecords.arbiter := by rw [only]; simp
      change o.arbiter = { defaultArbiter with reservationTotal := o.arbiter.reservationTotal }
      rw [arbiter]
      rfl
    · simp only [mgmt]
  · rw [only]; simp [State.restartRecords]
  · rw [only]; simpa using total
  · rw [only]; simp [State.restartRecords]
  · simp only [mgmt]
  · refine (slots i).trans ?_
    rw [slot]
  · refine Eq.trans ?_ (lane i)
    have lanes : o.lanes = s.restartRecords.sendQueries.lanes := by rw [only]
    change o.lane i = _
    rw [State.lane, lanes, State.lane]

/-- The command that executes a RESTART does so over the records as they stand, its trunk port aside. -/
theorem executesRestart_exec {c : Instr} {tag : Byte} (h : ExecutesRestart s c tag) : ∃ port : TrunkPort,
    exec c s = .next (State.executeRestart { s with trunk := port } tag) ∧ port.transmitted =
      s.trunk.transmitted ++ (if c = .answerSent then (s.trunk.queue.take 1).map .answer else []) := by
  rcases h with ⟨rfl, idle⟩ | ⟨rfl, idle, pending⟩ | ⟨rfl, sends, pending⟩
  · refine ⟨{ s.trunk with restartPending := some tag }, ?_, by simp⟩
    change execRestart tag [] s = _
    simp [execRestart, managementMalformed, restartKind, State.requestRestart, State.restartIfIdle, idle]
  · refine ⟨s.trunk, ?_, by simp⟩
    change execRestartExecution s = _
    simp [execRestartExecution, State.restartIfIdle, idle, pending]
  · have begun := startTransmission_of_not (s := s) (.inl sends)
    refine ⟨s.headSent.trunk, ?_, ?_⟩
    · have sent : ({ s with trunk := s.headSent.trunk } : State) = s.headSent := by
        unfold State.headSent
        split <;> rfl
      have waits : s.headSent.trunk.restartPending = some tag := by
        unfold State.headSent
        split <;> exact pending
      change execAnswerSent s = _
      simp only [execAnswerSent, begun, sends, if_true, waits, sent]
    · unfold State.headSent
      split <;> simp [*]

/-- What a RESTART leaves depends on the records alone: the trunk port that it found does not matter. -/
theorem Restarted.of_trunk {t : State} {port : TrunkPort} {sent : List TrunkOutput} {tag : Byte}
    (h : Restarted { s with trunk := port } t sent tag) : Restarted s t sent tag :=
  ⟨h.defaults, h.now, h.total, h.supply, h.flags, h.trunk, h.slot, h.lane⟩

theorem resetDebounce_bne {α : Type} [DecidableEq α] (now : Nat) (a b : α) :
    resetDebounce now (a != b) = if a = b then none else some (now + 100) := by
  by_cases same : a = b <;> simp [resetDebounce, same, defaultDebounceTime]

theorem firstFree_congr {r t : LaneRecord} (last : t.lastTag = r.lastTag) (retired : t.retired = r.retired)
    (outstanding : t.outstanding = r.outstanding) {tag : Byte} (h : FirstFree r tag) : FirstFree t tag := by
  rw [FirstFree, last, retired, outstanding]
  exact h

/-- Settles O6. -/
theorem restartExecution : Obligations.RestartExecution := by
  intro s c tag executes lanes
  obtain ⟨port, run, sent⟩ := executesRestart_exec executes
  have done := (restarted_executeRestart { s with trunk := port } tag).of_trunk
  generalize State.executeRestart { s with trunk := port } tag = t at run done
  refine ⟨t, run, done.defaults.held, done.now, done.total, ?_, done.flags, ?_, ?_, fun i => ⟨?_, ?_, ?_⟩⟩
  · rw [done.supply, resetDebounce_bne]
  · rw [done.trunk, sent]
  · obtain ⟨u, tick, -, begins, -⟩ := idleStepIsTick { t with pending := [] } rfl
    refine ⟨u, tick, ?_⟩
    rw [begins (by rw [done.trunk]) (by rw [done.trunk]) (by rw [done.trunk]; simp), done.trunk]
    rfl
  · rw [done.slot]; rfl
  · rw [done.slot]
    have reservation := restarted_reservation s i
    simp only [SlotRecord.restarted, powerOnSlot, restartState_eq, resetDebounce_bne] at reservation ⊢
    rw [reservation]
  · have retires := (s.lane i).abandonAll_retires
    have kept := (laneKept_iff.1 (lanes i)).1.restarted.1.retired.2
    have tag := LaneRecord.freshTag_firstFree (s.lane i).restarted kept
    rw [done.lane]
    cases chosen : probes s i
    · simp [LaneRecord.restarted]
      exact retires
    · simp [LaneRecord.issueGoverned, LaneRecord.send]
      refine ⟨by simp [LaneRecord.restarted], by simp [LaneRecord.restarted], by simp [LaneRecord.restarted], rfl, retires, ?_,
        by simp [LaneRecord.restarted]⟩
      refine firstFree_congr ?_ rfl ?_ tag
      · simp
      · simp [LaneRecord.outstanding]

end

end Sys2Proof.Machine
end

section
/-! PROOFS. An accepted sample and a silence: the node's record, the rules' counters and the classes (R72 to R93, R100 to R111). -/

namespace Sys2Proof.Machine

/-! ### The event flags under an event (R158, R195) -/

/-- Of what concludes an event only the over-ceiling test writes the management unit, and there it raises its own flag. -/
theorem concludeEvent_mgmt (before after : State) : (concludeEvent before after).mgmt = after.mgmt ∨
    (concludeEvent before after).mgmt = (after.setFlag .overCeiling).mgmt := by
  refine concludeEvent_induct (P := fun u => u.mgmt = after.mgmt ∨ u.mgmt = (after.setFlag .overCeiling).mgmt) before after
    (.inl rfl) (fun u i h _ _ _ => by simpa using h) (fun u i h _ _ _ => h) (fun u i h => by simpa using h)
    (fun u b h => h) fun u h => ?_
  have twice : ∀ e : EventFlags, (e.raise .overCeiling).raise .overCeiling = e.raise .overCeiling := fun _ => rfl
  rcases h with h | h
  · exact .inr (by simp [State.setFlag, State.setEvents, h])
  · exact .inr (by simp [State.setFlag, State.setEvents, h, twice])

/-- Every flag but OVER_CEILING stands after an event as its own effects leave it. -/
theorem concludeEvent_flag (before after : State) {f : Flag} (other : f ≠ .overCeiling) :
    (concludeEvent before after).mgmt.flags.get f = after.mgmt.flags.get f := by
  rcases concludeEvent_mgmt before after with e | e <;> rw [e]
  simp [EventFlags.get_raise, other]

theorem activate_flag (s : State) (c : ClassId) {f : Flag} (other : f ≠ .holdChange) :
    (s.activate c).mgmt.flags.get f = s.mgmt.flags.get f := by
  unfold State.activate State.onset
  split
  · rfl
  · simp [EventFlags.get_raise, other]

theorem activate_keeps_flag {s : State} {f : Flag} (c : ClassId) (set : s.mgmt.flags.get f = true) :
    (s.activate c).mgmt.flags.get f = true := by
  unfold State.activate State.onset
  split
  · exact set
  · simp [EventFlags.get_raise, set]

/-- A flag that is set stays set in the hold unit's events. -/
theorem flagSet_unit (f : Flag) : HoldUnitKeeps fun u => u.mgmt.flags.get f = true where
  node _ _ _ h := h
  counters _ _ _ h := h
  zero _ _ h := h
  flag s h := by simp [EventFlags.get_raise, h]
  fire s c h := activate_keeps_flag c h
  join s n c h := activate_keeps_flag c h
  leave s n c h := by simpa using h

/-! ### What a firing and a leave make of a class (R105, R111) -/

/-- A class record after `count` firings at `now`. -/
def ClassRecord.fired (r : ClassRecord) (now count : Nat) : ClassRecord :=
  if count = 0 then r
  else
    { r with
      active := true, expiry := some (laterExpiry r.expiry (now + r.holdTime * 10))
      fireCount := min (r.fireCount + count) 65535 }

theorem ClassRecord.fired_fired (r : ClassRecord) (now count : Nat) :
    (r.fired now 1).fired now count = r.fired now (1 + count) := by
  unfold ClassRecord.fired
  by_cases more : count = 0
  · simp [more]
  · simp only [more, if_false, one_ne_zero, Nat.add_eq_zero_iff, false_and]
    congr 1
    · simp [laterExpiry]
    · omega

section
variable (s : State) (n : NodeId) (x : Results)

theorem State.evaluateRule_fired (k : Fin 16) (c : ClassId) : (s.evaluateRule n x k).cls c =
    (s.cls c).fired s.now (if (s.rule k).fires n x = true ∧ (s.rule k).cls = c then 1 else 0) := by
  rw [State.evaluateRule_cls]
  by_cases fires : (s.rule k).fires n x = true ∧ (s.rule k).cls = c
  · rw [if_pos ⟨fires.1, fires.2.symm⟩, if_pos fires]; rfl
  · rw [if_neg fun h => fires ⟨h.1, h.2.symm⟩, if_neg fires]; rfl

/-- How many of the rules of a list fire into class `c` at a sample of node `n`. -/
def State.firings (ks : List (Fin 16)) (c : ClassId) : Nat :=
  ks.countP fun k => (s.rule k).fires n x && decide ((s.rule k).cls = c)

theorem State.firings_evaluateRule {ks : List (Fin 16)} {k : Fin 16} (fresh : k ∉ ks) (c : ClassId) :
    (s.evaluateRule n x k).firings n x ks c = s.firings n x ks c := by
  refine List.countP_congr fun j m => ?_
  have other : j ≠ k := fun e => fresh (e ▸ m)
  rw [State.evaluateRule_rule, if_neg fun h => other h.1]

/-- A class after the evaluation of a sample by the rules of a list without repetition: a count for each that fires. -/
theorem foldl_evaluateRule_cls (ks : List (Fin 16)) (once : ks.Nodup) (c : ClassId) :
    (ks.foldl (fun t k => t.evaluateRule n x k) s).cls c = (s.cls c).fired s.now (s.firings n x ks c) := by
  induction ks generalizing s with
  | nil => rfl
  | cons k ks ih =>
    obtain ⟨fresh, once⟩ := List.nodup_cons.1 once
    rw [List.foldl_cons, ih _ once, State.firings_evaluateRule s n x fresh, State.evaluateRule_fired]
    by_cases fires : (s.rule k).fires n x = true ∧ (s.rule k).cls = c
    · rw [if_pos fires, (s.evaluateRule_frame n x k).1, ClassRecord.fired_fired]
      congr 1
      simp [State.firings, fires, Nat.add_comm]
    · rw [if_neg fires, (s.evaluateRule_frame n x k).1]
      congr 1
      unfold State.firings
      rw [List.countP_cons_of_neg (by simpa using fires)]

/-- An onset of a class at a sample sets HOLD_CHANGE (R106). -/
theorem foldl_evaluateRule_onset (ks : List (Fin 16)) (once : ks.Nodup) (c : ClassId) (idle : (s.cls c).active = false)
    (fires : 0 < s.firings n x ks c) :
    (ks.foldl (fun t k => t.evaluateRule n x k) s).mgmt.flags.get .holdChange = true := by
  have rest : ∀ (ks : List (Fin 16)) (t : State), t.mgmt.flags.get .holdChange = true →
      (ks.foldl (fun t k => t.evaluateRule n x k) t).mgmt.flags.get .holdChange = true := by
    intro ks
    induction ks with
    | nil => exact fun _ h => h
    | cons k ks ih =>
      refine fun t h => ih _ ?_
      unfold State.evaluateRule
      dsimp only
      split
      · split
        · exact activate_keeps_flag _ h
        · exact h
      · exact h
  induction ks generalizing s with
  | nil => simp [State.firings] at fires
  | cons k ks ih =>
    obtain ⟨fresh, once⟩ := List.nodup_cons.1 once
    by_cases first : (s.rule k).fires n x = true ∧ (s.rule k).cls = c
    · refine rest ks _ ?_
      obtain ⟨fired, rfl⟩ := first
      simp only [MotionRule.fires, Bool.and_eq_true, decide_eq_true_eq] at fired
      unfold State.evaluateRule
      dsimp only
      rw [if_pos fired.1, if_pos fired.2]
      exact State.activate_holdChange _ _ (by simpa using idle)
    · refine ih _ once ?_ ?_
      · rw [State.evaluateRule_fired, if_neg first]; exact idle
      · unfold State.firings at fires
        rw [List.countP_cons_of_neg (by simpa using first)] at fires
        rwa [State.firings_evaluateRule s n x fresh]

end

theorem Set4.isEmpty_set (holders : Set4) (n : NodeId) : Set4.isEmpty (holders.set n.val false n.isLt) = true ↔
    ∀ m : NodeId, m ≠ n → holders[m] = false := by
  rw [Set4.isEmpty_iff]
  refine forall_congr' fun m => ?_
  by_cases own : m = n
  · subst own; simp
  · simp [Fin.val_inj, own, Ne.symm own]

/-- A class record that node `n` has left: the last holder's leave extends its expiry (R111). -/
def ClassRecord.leftBy (r : ClassRecord) (now : Nat) (n : NodeId) : ClassRecord :=
  { r with
    holders := r.holders.set n.val false n.isLt
    expiry := if r.holders[n] = true ∧ ∀ m : NodeId, m ≠ n → r.holders[m] = false
      then some (laterExpiry r.expiry (now + r.holdTime * 10)) else r.expiry }

theorem State.leaveBlind_cls (s : State) (n : NodeId) (b : Option ClassId) (c : ClassId) :
    (s.leaveBlind n b).cls c = if b = some c then (s.cls c).leftBy s.now n else s.cls c := by
  cases b with
  | none => simp [State.leaveBlind]
  | some d =>
    unfold State.leaveBlind State.leaveClass
    by_cases own : c = d
    · subst own
      simp only [State.cls_modifyClass_self, Bool.and_eq_true, Set4.isEmpty_set, if_true, ClassRecord.leftBy]
      split <;> simp_all
    · simp [own, Ne.symm own]

theorem State.joinBlind_cls (s : State) (n : NodeId) (b : Option ClassId) (c : ClassId) :
    (s.joinBlind n b).cls c =
      if b = some c then { s.cls c with active := true, holders := (s.cls c).holders.set n.val true n.isLt }
      else s.cls c := by
  cases b with
  | none => simp [State.joinBlind]
  | some d =>
    rw [State.joinBlind, State.joinClass_cls]
    by_cases own : c = d
    · subst own; simp
    · simp [own, Ne.symm own]

/-! ### An accepted sample (R72 to R81, R85 to R89, R100 to R105) -/

theorem takeSample_accepted {s : State} {n : NodeId} {node seq : Byte} (h : Accepts s n node seq) (x y z : Int) :
    s.takeSample n node seq x y z = s.acceptSample n seq (isGap s n seq) x y z := by
  obtain ⟨lane, on, fresh, lapsed⟩ := h
  rw [State.takeSample, if_neg (by simp [lane, on, NodeRecord.repeatsLapsed, lapsed])]
  cases last : (s.node n).lastSequence with
  | none => simp [classify, isGap, last]
  | some l =>
    have other : seq ≠ l := fun e => fresh (by rw [last, e])
    by_cases next : seq = l + 1
    · simp only [classify, if_neg other, if_pos next, isGap, last, Option.any_some]
      simp [next]
    · simp only [classify, if_neg other, if_neg next, isGap, last, Option.any_some]
      simp only [decide_eq_true (show seq ≠ l + 1 from next)]

/-- The settled state of an accepted sample. -/
theorem exec_sample_accepted {s : State} {n : NodeId} {node seq : Byte} (h : Accepts s n node seq) (x y z : Word16) :
    exec (.sample n node seq x y z) s =
      .next (concludeEvent s (s.acceptSample n seq (isGap s n seq) x.toInt y.toInt z.toInt)) := by
  change execSample n node seq x y z s = _
  rw [execSample, takeSample_accepted h]

theorem evaluateRules_nodeSilent (s : State) (n : NodeId) (x : Results) :
    (s.evaluateRules n x).mgmt.flags.get .nodeSilent = s.mgmt.flags.get .nodeSilent := by
  unfold State.evaluateRules
  generalize List.finRange 16 = ks
  induction ks generalizing s with
  | nil => rfl
  | cons k ks ih =>
    rw [List.foldl_cons, ih]
    unfold State.evaluateRule
    dsimp only
    split
    · split
      · exact activate_flag _ _ (by decide)
      · rfl
    · rfl

theorem acceptSample_nodeSilent (s : State) (n : NodeId) (seq : Byte) (gap : Bool) (x y z : Int) :
    (s.acceptSample n seq gap x y z).mgmt.flags.nodeSilent = s.mgmt.flags.nodeSilent := by
  unfold State.acceptSample
  dsimp only
  split
  · rw [(State.leaveBlind_frame ..).2.2.2.2.2.2.2.2.2.2.2.2.1]
    exact evaluateRules_nodeSilent _ n _
  · exact evaluateRules_nodeSilent _ n _

/-- The results of a sample, in the terms of R73 to R80. -/
theorem computeSample_eq (cfg : NodeConfig) (v a b c : Nat) (x y z : Int) (low : c ≤ b) (high : b ≤ a)
    (sorted : [a, b, c].Perm [(clampAxis x).natAbs, (clampAxis y).natAbs, (clampAxis z).natAbs]) :
    computeSample cfg v x y z = ⟨a + 3 * (b + c) / 8, deviation (a + 3 * (b + c) / 8) cfg.g,
      vibration v (deviation (a + 3 * (b + c) / 8) cfg.g) cfg.k,
      tiltRatio (upComponent cfg.up (clampAxis x) (clampAxis y) (clampAxis z)) cfg.g⟩ := by
  have m := (magnitude_of_perm sorted).trans (magnitude_of_sorted low high)
  simp only [computeSample, m]

theorem vibration_toInt (v d k : Nat) : (vibration v d k : Int) = v + Int.tdiv ((d : Int) - v) (2 ^ k) := by
  refine Int.toNat_of_nonneg ?_
  rcases le_total v d with up | down
  · have := Int.tdiv_nonneg (a := (d : Int) - v) (b := 2 ^ k) (by omega) (by positivity)
    omega
  · have fall : Int.tdiv ((d : Int) - v) (2 ^ k) = -Int.tdiv ((v : Int) - d) (2 ^ k) := by
      rw [← Int.neg_tdiv]; congr 1; omega
    have below : Int.tdiv ((v : Int) - d) (2 ^ k) ≤ (v : Int) - d := by
      rw [Int.tdiv_eq_ediv_of_nonneg (by omega)]
      exact Int.ediv_le_self _ (by omega)
    omega

/-- Settles O42: the record of an accepted sample, its results read off the sorted axes. -/
theorem sampleUpdatesNode : Obligations.SampleUpdatesNode := by
  intro s n node seq x y z a b c taken old cx cy cz m d gap low high sorted
  refine ⟨_, exec_sample_accepted taken x y z, ?_⟩
  set t := concludeEvent s (s.acceptSample n seq (isGap s n seq) x.toInt y.toInt z.toInt) with ht
  have results := computeSample_eq old.config old.v a b c x.toInt y.toInt z.toInt low high sorted
  have record : t.node n = (old.accepted s.now seq gap).withResults
      ⟨m, d, vibration old.v d old.config.k, tiltRatio (upComponent old.config.up cx cy cz) old.config.g⟩ := by
    rw [ht, (concludeEvent_frame s _).2.2.2.2.2.2.2.2.1, State.acceptSample_node, if_pos rfl]
    exact congrArg _ results
  have level : (t.node n).v = vibration old.v d old.config.k := by rw [record]; rfl
  refine ⟨by rw [level, vibration_toInt], ?_, fun j other => ?_, ?_⟩
  · rw [record, NodeRecord.accepted_eq _ _ _ taken.2.1]
    simp only [NodeRecord.withResults]
    cases up : old.config.up <;> rfl
  · rw [ht, (concludeEvent_frame s _).2.2.2.2.2.2.2.2.1, State.acceptSample_node, if_neg other]
  · exact (concludeEvent_flag s _ (f := .nodeSilent) (by decide)).trans (acceptSample_nodeSilent s n seq _ _ _ _)

theorem compares_iff (r : MotionRule) (x : Results) : compares r x.m x.d x.v x.t ↔ r.satisfied x = true := by
  unfold compares MotionRule.satisfied
  cases r.metric <;> exact decide_eq_true_iff.symm

section
variable (s : State) (n : NodeId) (seq : Byte) (gap : Bool) (x y z : Int)

/-- Every rule that watches the node counts an accepted sample (R101). -/
theorem State.acceptSample_rule (k : Fin 16) : (s.acceptSample n seq gap x y z).rule k =
    if (s.rule k).watches n = true then
      { s.rule k with
        counters := (s.rule k).counters.set n.val
          ((s.rule k).counterAfter n (computeSample (s.node n).config (s.node n).v x y z)) n.isLt }
    else s.rule k := by
  unfold State.rule
  rw [State.acceptSample_rules]
  exact State.evaluateRules_rule _ n _ k

/-- A class takes the firings of an accepted sample, and a node that comes to be trusted leaves its blind class. -/
theorem State.acceptSample_cls (c : ClassId) :
    let fired := (s.cls c).fired s.now
      (s.firings n (computeSample (s.node n).config (s.node n).v x y z) (List.finRange 16) c)
    (s.acceptSample n seq gap x y z).cls c =
      if ((s.node n).status.blind && !((s.acceptSample n seq gap x y z).node n).status.blind &&
          decide ((s.node n).config.blindClass = some c)) = true
      then fired.leftBy s.now n else fired := by
  intro fired
  have node := State.acceptSample_node s n n seq gap x y z
  rw [if_pos rfl] at node
  rw [node]
  set r := ((s.node n).accepted s.now seq gap).withResults (computeSample (s.node n).config (s.node n).v x y z) with hr
  set u := (s.modifyNode n fun r => (r.accepted s.now seq gap).withResults
    (computeSample (s.node n).config (s.node n).v x y z)).evaluateRules n
      (computeSample (s.node n).config (s.node n).v x y z) with hu
  have evaluated : u.cls c = fired := foldl_evaluateRule_cls _ n _ (List.finRange 16) (List.nodup_finRange 16) c
  have now : u.now = s.now := by simp [hu]
  have record : u.node n = r := by simp [hu, hr]
  change (if ((s.node n).status.blind && !(u.node n).status.blind) = true then u.leaveBlind n (s.node n).config.blindClass
    else u).cls c = _
  rw [record]
  by_cases leaves : ((s.node n).status.blind && !r.status.blind) = true
  · rw [if_pos leaves, State.leaveBlind_cls, evaluated, now, leaves, Bool.true_and]
    simp only [decide_eq_true_eq]
  · rw [if_neg leaves, evaluated, if_neg fun h => leaves (Bool.and_eq_true _ _ ▸ h).1]

theorem State.acceptSample_cases (s : State) (n : NodeId) (seq : Byte) (gap : Bool) (x y z : Int) :
    ∃ (f : NodeRecord → NodeRecord) (u : State),
      u = (s.modifyNode n f).evaluateRules n (computeSample (s.node n).config (s.node n).v x y z) ∧
      (s.acceptSample n seq gap x y z = u ∨ s.acceptSample n seq gap x y z = u.leaveBlind n (s.node n).config.blindClass) := by
  refine ⟨fun r => (r.accepted s.now seq gap).withResults (computeSample (s.node n).config (s.node n).v x y z), _, rfl, ?_⟩
  unfold State.acceptSample
  dsimp only
  split
  · exact .inr rfl
  · exact .inl rfl

/-- An onset at an accepted sample sets HOLD_CHANGE. -/
theorem State.acceptSample_onset (c : ClassId) (idle : (s.cls c).active = false)
    (fires : 0 < s.firings n (computeSample (s.node n).config (s.node n).v x y z) (List.finRange 16) c) :
    (s.acceptSample n seq gap x y z).mgmt.flags.get .holdChange = true := by
  obtain ⟨f, u, hu, cases⟩ := s.acceptSample_cases n seq gap x y z
  generalize computeSample (s.node n).config (s.node n).v x y z = res at fires hu
  have set : u.mgmt.flags.get .holdChange = true := by
    rw [hu]
    unfold State.evaluateRules
    refine foldl_evaluateRule_onset _ n res (List.finRange 16) (List.nodup_finRange 16) c (by simpa using idle) ?_
    rwa [show (s.modifyNode n f).firings n res (List.finRange 16) c = s.firings n res (List.finRange 16) c from rfl]
  rcases cases with e | e <;> rw [e]
  · exact set
  · exact (flagSet_unit .holdChange).leaveBlind n _ set

end

theorem laterExpiry_eq (e : Option Nat) (now hold : Nat) : laterExpiry e (now + hold * 10) = max (e.getD 0) (now + 10 * hold) := by
  rw [laterExpiry, Nat.mul_comm]

/-- Settles O44: the rules' counters, then the firings that each class takes, then the leave of a node that has come to be
trusted. -/
theorem rulesCountAndFire : Obligations.RulesCountAndFire := by
  intro s n node seq x y z taken
  refine ⟨_, exec_sample_accepted taken x y z, ?_⟩
  set o := s.acceptSample n seq (isGap s n seq) x.toInt y.toInt z.toInt with ho
  set res := computeSample (s.node n).config (s.node n).v x.toInt y.toInt z.toInt with hres
  obtain ⟨t, ht⟩ : ∃ t, t = concludeEvent s o := ⟨_, rfl⟩
  have rule : ∀ k, t.rule k = if (s.rule k).watches n = true then
      { s.rule k with counters := (s.rule k).counters.set n.val ((s.rule k).counterAfter n res) n.isLt }
    else s.rule k := fun k => by
    rw [ht, ← s.acceptSample_rule n seq (isGap s n seq)]
    simp [State.rule, ← ho]
  have record : t.node n = ((s.node n).accepted s.now seq (isGap s n seq)).withResults res := by
    rw [ht, (concludeEvent_frame s _).2.2.2.2.2.2.2.2.1, ho, State.acceptSample_node, if_pos rfl]
  have cls := fun c => s.acceptSample_cls n seq (isGap s n seq) x.toInt y.toInt z.toInt c
  rw [← ht]
  refine ⟨fun k => ⟨?_, fun m other => ?_, fun idle => ?_, fun used watched m hm d hd tilt htilt => ?_⟩, fun c => ?_⟩
  · rw [rule]; split <;> rfl
  · rw [rule]
    split
    · simp [Fin.val_inj, Ne.symm other]
    · rfl
  · rw [rule, if_neg (by rcases idle with e | e <;> simp [MotionRule.watches, e])]
  · have both : (s.rule k).watches n = true := by simp [MotionRule.watches, used, watched]
    have counter : (t.rule k).counters[n] = (s.rule k).counterAfter n res := by rw [rule, if_pos both]; simp
    rw [record] at hm hd htilt ⊢
    simp only [NodeRecord.withResults, Option.mem_some_iff] at hm hd htilt
    subst hm hd htilt
    rw [counter, show (((s.node n).accepted s.now seq (isGap s n seq)).withResults res).v = res.v from rfl, compares_iff]
    exact ⟨fun h => if_pos h, fun h => if_neg h⟩
  · intro firings left
    have count : firings = s.firings n res (List.finRange 16) c := by
      refine List.countP_congr fun k _ => ?_
      rw [rule]
      by_cases both : (s.rule k).watches n = true
      · have parts : (s.rule k).inUse = true ∧ (s.rule k).nodes[n] = true := by simpa [MotionRule.watches] using both
        simp [both, MotionRule.fires, parts.1, parts.2]
        tauto
      · have parts : ((s.rule k).inUse && (s.rule k).nodes[n]) = false := by simpa [MotionRule.watches] using both
        simp only [MotionRule.fires, both, parts, Bool.false_and]
    have here : t.cls c = if left = true then ((s.cls c).fired s.now firings).leftBy s.now n
        else (s.cls c).fired s.now firings := by
      have node : t.node n = o.node n := by rw [ht]; simp
      have same : t.cls c = o.cls c := by rw [ht]; simp
      rw [same, count, ho, cls c]
      simp only [left, node, ho]
      rfl
    have onset : 0 < firings → (s.cls c).active = false → t.mgmt.flags.holdChange = true := fun fires idle => by
      rw [ht]
      exact concludeEvent_keeps_flag s o .holdChange (s.acceptSample_onset n seq _ _ _ _ c idle (count ▸ fires))
    have full : 0 < firings → (s.cls c).fired s.now firings = { s.cls c with
        active := true, expiry := some (laterExpiry (s.cls c).expiry (s.now + (s.cls c).holdTime * 10))
        fireCount := min ((s.cls c).fireCount + firings) 65535 } := fun fires => if_neg (by omega)
    have empty : firings = 0 → (s.cls c).fired s.now firings = s.cls c := fun none => if_pos none
    have later := laterExpiry_eq (s.cls c).expiry s.now (s.cls c).holdTime
    have again : laterExpiry (some (laterExpiry (s.cls c).expiry (s.now + (s.cls c).holdTime * 10)))
        (s.now + (s.cls c).holdTime * 10) = laterExpiry (s.cls c).expiry (s.now + (s.cls c).holdTime * 10) := by
      simp [laterExpiry]
    rw [here]
    refine ⟨?_, fun fires => ⟨?_, ?_, onset fires⟩, fun none stays => ?_, fun leaves => ?_⟩
    · rcases Nat.eq_zero_or_pos firings with none | fires
      · rw [empty none, if_pos none]; split <;> rfl
      · rw [full fires, if_neg fires.ne']; split <;> rfl
    · rw [full fires, ← later]
      split
      · simp only [ClassRecord.leftBy, again]
        split <;> rfl
      · rfl
    · rw [full fires]; split <;> rfl
    · rw [empty none, if_neg (by simp [stays])]
    · rw [if_pos leaves]
      refine ⟨by simp [ClassRecord.leftBy], fun held last => ?_⟩
      rw [← later]
      rcases Nat.eq_zero_or_pos firings with none | fires
      · rw [empty none]
        exact if_pos ⟨held, last⟩
      · rw [full fires]
        simp only [ClassRecord.leftBy, again]
        split <;> rfl

/-! ### The silence (R90, R91, R93, R110) -/

theorem silence_nodeSilent (s : State) (n : NodeId) : (s.silence n).mgmt.flags.get .nodeSilent = true := by
  unfold State.silence
  dsimp only
  have set : ∀ u : State, (u.setFlag .nodeSilent).mgmt.flags.get .nodeSilent = true := fun u => by
    simp [EventFlags.get_raise]
  split
  · exact (flagSet_unit .nodeSilent).joinBlind n _ (set _)
  · exact set _

theorem silence_rule (s : State) (n : NodeId) (k : Fin 16) : (s.silence n).rule k =
    { s.rule k with counters := (s.rule k).counters.set n.val 0 n.isLt } := by
  unfold State.silence
  dsimp only
  split <;> simp [State.zeroCounters_rule]

/-- The state of a silence before its node joins its blind class. -/
def State.silent (s : State) (n : NodeId) : State :=
  ((s.modifyNode n fun r => r.silenced s.now).zeroCounters n).setFlag .nodeSilent

theorem State.silence_eq (s : State) (n : NodeId) : s.silence n =
    if (s.node n).status = .live then (s.silent n).joinBlind n (s.node n).config.blindClass else s.silent n := rfl

/-- Settles O45: a LIVE node's record becomes SILENT and the node a blind holder; another node's record becomes SILENT. -/
theorem silenceExpires : Obligations.SilenceExpires := by
  intro s n
  refine ⟨fun wait => ?_, fun e expiry due => ?_⟩
  · change execSilenceTimerExpiry n s = _
    rw [execSilenceTimerExpiry, not_reached wait]
    rfl
  have taken : reached s.now (s.node n).silenceExpiry = true := by
    rw [Option.mem_def] at expiry
    simpa [reached, expiry] using due
  refine ⟨concludeEvent s (s.silence n), ?_, ?_, fun m other => ?_, ?_, fun k m => ?_, fun idle => ⟨?_, ?_⟩,
    fun live c => ⟨fun other => ?_, fun own => ⟨?_, fun idle => ?_⟩⟩⟩
  · change execSilenceTimerExpiry n s = _
    rw [execSilenceTimerExpiry, if_pos taken]
  · rw [(concludeEvent_frame s _).2.2.2.2.2.2.2.2.1, State.silence_node, if_pos rfl]
    rfl
  · rw [(concludeEvent_frame s _).2.2.2.2.2.2.2.2.1, State.silence_node, if_neg other]
  · exact concludeEvent_keeps_flag s _ .nodeSilent (silence_nodeSilent s n)
  · have rule : (concludeEvent s (s.silence n)).rule k = (s.silence n).rule k := by simp
    rw [rule, silence_rule]
    by_cases own : m = n
    · subst own; simp
    · simp [Fin.val_inj, own, Ne.symm own]
  · have classes : (concludeEvent s (s.silence n)).classes = (s.silence n).classes := by simp
    rw [classes, State.silence_eq, if_neg idle]
    simp [State.silent]
  · have flag := concludeEvent_flag s (s.silence n) (f := .holdChange) (by decide)
    rw [State.silence_eq, if_neg idle] at flag ⊢
    exact flag.trans (by simp [State.silent, EventFlags.get_raise]; rfl)
  · have cls : (concludeEvent s (s.silence n)).cls c = (s.silence n).cls c := by simp
    rw [cls, State.silence_eq, if_pos live, State.joinBlind_cls, if_neg other]
    simp [State.silent]
  · have cls : (concludeEvent s (s.silence n)).cls c = (s.silence n).cls c := by simp
    rw [cls, State.silence_eq, if_pos live, State.joinBlind_cls, if_pos own]
    simp [State.silent]
  · refine concludeEvent_keeps_flag s _ .holdChange ?_
    rw [State.silence_eq, if_pos live, own]
    exact State.activate_holdChange _ c (by simpa [State.silent] using idle)

end Sys2Proof.Machine
end

section
/-! PROOFS. What an event of the slots leaves as it was, and what its conclusion may add: grants, and marks (R37 to R42,
R158 to R162). -/

namespace Sys2Proof.Machine

/-! ### Events of the slots -/

section
variable {s t u : State}

/-- What an event of the slots leaves as it was, field by field. -/
theorem slotEvent_iff : SlotEvent s t ↔ t.now = s.now ∧ t.kindMap = s.kindMap ∧ t.profiles = s.profiles ∧
    t.nodes = s.nodes ∧ t.rules = s.rules ∧ t.classes = s.classes ∧ t.zones = s.zones ∧ t.pending = s.pending ∧
    t.arbiter.priorityMap = s.arbiter.priorityMap ∧ t.arbiter.groupQueue = s.arbiter.groupQueue ∧
    t.arbiter.groupByPriority = s.arbiter.groupByPriority ∧ t.arbiter.mainsCeiling = s.arbiter.mainsCeiling ∧
    t.arbiter.batteryCeiling = s.arbiter.batteryCeiling ∧ t.arbiter.staggerInterval = s.arbiter.staggerInterval ∧
    t.supply.line = s.supply.line ∧ t.supply.source = s.supply.source ∧
    t.supply.debounceExpiry = s.supply.debounceExpiry ∧ t.mgmt.mode = s.mgmt.mode ∧ t.mgmt.timing = s.mgmt.timing ∧
    t.mgmt.enables = s.mgmt.enables := by
  unfold SlotEvent
  refine ⟨fun e => ?_, fun e => ?_⟩
  · rw [e]; simp
  · obtain ⟨now, trunk, kindMap, slots, profiles, lanes, arbiter, nodes, rules, classes, zones, groups, supply, mgmt, pending⟩ := t
    obtain ⟨queues, priorityMap, groupQueue, groupByPriority, mains, battery, total, lastGrant, interval, expiry⟩ := arbiter
    obtain ⟨line, source, debounce, above⟩ := supply
    obtain ⟨mode, timing, flags, enables, attn⟩ := mgmt
    simp only at e
    obtain ⟨rfl, rfl, rfl, rfl, rfl, rfl, rfl, rfl, rfl, rfl, rfl, rfl, rfl, rfl, rfl, rfl, rfl, rfl, rfl, rfl⟩ := e
    rfl

theorem SlotEvent.trans (h : SlotEvent s t) (k : SlotEvent t u) : SlotEvent s u := by
  rw [slotEvent_iff] at h k ⊢
  simp only [k, h, and_self]

theorem SlotEvent.refl (s : State) : SlotEvent s s := slotEvent_iff.2 (by simp)

theorem SlotEvent.profileOf (h : SlotEvent s t) {j : SlotId} (profile : (t.slot j).profile = (s.slot j).profile) :
    t.profileOf j = s.profileOf j := by
  simp only [State.profileOf, profile, (slotEvent_iff.1 h).2.2.1]

theorem SlotEvent.standingOf (h : SlotEvent s t) {j : SlotId} (zone : (t.slot j).zone = (s.slot j).zone) :
    t.standingOf j = s.standingOf j := by
  obtain ⟨-, -, -, -, -, -, zones, -⟩ := slotEvent_iff.1 h
  simp only [State.standingOf, zone, zones]

theorem SlotEvent.ceiling (h : SlotEvent s t) : t.ceilingInForce = s.ceilingInForce := by
  obtain ⟨-, -, -, -, -, -, -, -, -, -, -, mains, battery, -, -, source, -⟩ := slotEvent_iff.1 h
  rw [State.ceilingInForce, State.ceilingInForce, mains, battery, source]

section
variable (s : State) (i : SlotId)

theorem slotEvent_modifySlot (f : SlotRecord → SlotRecord) : SlotEvent s (s.modifySlot i f) := slotEvent_iff.2 (by simp)
theorem slotEvent_modifyLane (f : LaneRecord → LaneRecord) : SlotEvent s (s.modifyLane i f) := slotEvent_iff.2 (by simp)
theorem slotEvent_proceed (onset : Bool) : SlotEvent s (s.proceed i onset) := slotEvent_iff.2 (by simp)
theorem slotEvent_giveOutcome (code : AnswerCode) : SlotEvent s (s.giveOutcome i code) := slotEvent_iff.2 (by simp)
theorem slotEvent_completeIfReached : SlotEvent s (s.completeIfReached i) := slotEvent_iff.2 (by simp)
theorem slotEvent_arrive (st : SlotState) : SlotEvent s (s.arrive i st) := slotEvent_iff.2 (by simp)
theorem slotEvent_enterFault (cause : FaultCause) : SlotEvent s (s.enterFault i cause) := slotEvent_iff.2 (by simp)
theorem slotEvent_setFlag (f : Flag) : SlotEvent s (s.setFlag f) := slotEvent_iff.2 (by simp)
theorem slotEvent_answer (a : AnswerFrame) : SlotEvent s (s.answer a) := slotEvent_iff.2 (by simp)
theorem slotEvent_grant : SlotEvent s (s.grant i) := slotEvent_iff.2 (by simp)
theorem slotEvent_setOverCeiling (b : Bool) : SlotEvent s (s.setOverCeiling b) :=
  slotEvent_iff.2 (by simp [State.setOverCeiling])
theorem slotEvent_shedMarkSlot : SlotEvent s (s.shedMarkSlot i) := slotEvent_iff.2 (by simp)

end

theorem Untouched.trans {j : SlotId} (h : Untouched s t j) (k : Untouched t u j) : Untouched s u j :=
  ⟨k.1.trans h.1, k.2.trans h.2⟩

theorem untouched_of_eq {j : SlotId} (slots : t.slots = s.slots) (lanes : t.lanes = s.lanes) : Untouched s t j := by
  refine ⟨?_, ?_⟩
  · unfold State.slot; rw [slots]
  · unfold State.lane; rw [lanes]

end

/-! ### Grants (R37 to R42) -/

/-- Slot `j` waited for a grant and has been granted: its record, its lane, the time of last grant and its entry. -/
structure GrantedFrom (s t : State) (j : SlotId) : Prop where
  waited : (s.slot j).state = .queued
  slot : t.slot j = { s.slot j with
    state := .spinningUp, powerSwitch := true, reservation := (s.profileOf j).spinUpDraw
    spinUps := countUp (s.slot j).spinUps }
  lane : t.lane j = (s.lane j).ask .spin s.now (opDuration (s.profileOf j) .spin)
  last : t.arbiter.lastGrant = some s.now

/-- The state `u` differs from `s` by grants, by the stagger timer and by the over-ceiling condition at most. -/
structure GrantsOnly (s u : State) : Prop where
  event : SlotEvent s u
  trunk : u.trunk = s.trunk
  groups : u.groups = s.groups
  mgmt : u.mgmt = s.mgmt
  account : AccountKept u
  slots : ∀ j, Untouched s u j ∨ GrantedFrom s u j
  fits : u.arbiter.reservationTotal = s.arbiter.reservationTotal ∨ u.arbiter.reservationTotal ≤ s.ceilingInForce
  last : u.arbiter.lastGrant = s.arbiter.lastGrant ∨ u.arbiter.lastGrant = some s.now
  queues : (∀ j, (u.slot j).state = (s.slot j).state) →
    u.arbiter.queues = s.arbiter.queues ∧ u.arbiter.lastGrant = s.arbiter.lastGrant

section
variable {s t u : State} {i j : SlotId}

theorem GrantsOnly.refl (h : AccountKept s) : GrantsOnly s s :=
  ⟨.refl s, rfl, rfl, rfl, h, fun _ => .inl ⟨rfl, rfl⟩, .inl rfl, .inl rfl, fun _ => ⟨rfl, rfl⟩⟩

theorem GrantsOnly.now (h : GrantsOnly s u) : u.now = s.now := (slotEvent_iff.1 h.event).1

theorem GrantsOnly.configured (h : GrantsOnly s u) (j : SlotId) : (u.slot j).profile = (s.slot j).profile ∧
    (u.slot j).zone = (s.slot j).zone ∧ (u.slot j).shedMark = (s.slot j).shedMark := by
  rcases h.slots j with e | e
  · rw [e.1]; simp
  · rw [e.slot]; simp

/-- A grant of the arbiter's candidate. -/
theorem GrantsOnly.grant (h : GrantsOnly s u) (c : u.candidate = some i) (fits : u.drawFits i = true) :
    GrantsOnly s (u.grant i) := by
  have waits := queued_of_candidate h.account c
  have now := h.now
  have profile : u.profileOf i = s.profileOf i := h.event.profileOf (h.configured i).1
  have own : Untouched s u i := by
    rcases h.slots i with e | e
    · exact e
    · rw [e.slot] at waits; cases waits
  have total := grant_total h.account waits
  refine ⟨h.event.trans (slotEvent_grant u i), by simpa using h.trunk, by simpa using h.groups, by simpa using h.mgmt,
    accountKept_grant h.account waits, fun j => ?_, .inr ?_, .inr ?_, fun same => ?_⟩
  · by_cases same : j = i
    · subst same
      refine .inr ⟨own.1 ▸ waits, ?_, ?_, ?_⟩
      · rw [State.grant_slot, if_pos rfl, own.1, profile]
      · rw [State.grant_lane, if_pos rfl, own.2, profile, now]
      · rw [(State.grant_arbiter u j).1, now]
    · have slot : (u.grant i).slot j = u.slot j := by rw [State.grant_slot, if_neg same]
      have lane : (u.grant i).lane j = u.lane j := by rw [State.grant_lane, if_neg same]
      rcases h.slots j with e | e
      · exact .inl ⟨slot.trans e.1, lane.trans e.2⟩
      · exact .inr ⟨e.waited, slot.trans e.slot, lane.trans e.lane, by rw [(State.grant_arbiter u i).1, now]⟩
  · rw [total, ← h.event.ceiling]
    exact (u.drawFits_iff i).1 fits
  · rw [(State.grant_arbiter u i).1, now]
  · have up := same i
    rw [State.grant_slot, if_pos rfl, ← own.1, waits] at up
    cases up

theorem GrantsOnly.timer (h : GrantsOnly s u) (e : Option Nat) :
    GrantsOnly s { u with arbiter := { u.arbiter with staggerExpiry := e } } := by
  refine ⟨h.event.trans (slotEvent_iff.2 (by simp)), h.trunk, h.groups, h.mgmt,
    accountKept_congr h.account rfl rfl rfl rfl, fun j => ?_, h.fits, h.last, h.queues⟩
  exact (h.slots j).imp id fun ⟨waited, slot, lane, last⟩ => ⟨waited, slot, lane, last⟩

theorem GrantsOnly.overCeiling (h : GrantsOnly s u) (b : Bool) : GrantsOnly s (u.setOverCeiling b) := by
  refine ⟨h.event.trans (slotEvent_setOverCeiling u b), h.trunk, h.groups, h.mgmt,
    accountKept_congr h.account rfl rfl rfl rfl, fun j => ?_, h.fits, h.last, h.queues⟩
  exact (h.slots j).imp id fun ⟨waited, slot, lane, last⟩ => ⟨waited, slot, lane, last⟩

theorem GrantsOnly.lookUpTo (h : GrantsOnly s u) (n : Nat) : GrantsOnly s (u.lookUpTo n) :=
  State.lookUpTo_induct n h (fun _ _ hv c fits _ => hv.grant c fits) fun _ _ hv _ _ _ => hv.timer _

theorem GrantsOnly.look (h : GrantsOnly s u) : GrantsOnly s u.look :=
  State.look_induct h (fun _ _ hv c fits _ => hv.grant c fits) fun _ _ hv _ _ _ => hv.timer _

/-! #### A state that an event's own effects leave, and the grants that conclude it -/

theorem GrantsOnly.spared (h : GrantsOnly t u) (own : Untouched s t j) : SparedOrGranted s u j := by
  rcases h.slots j with e | e
  · exact .inl (own.trans e)
  · exact .inr ⟨own.1 ▸ e.waited, by rw [e.slot]⟩

theorem GrantsOnly.effectiveTarget (h : GrantsOnly s u) (j : SlotId) : u.effectiveTarget j = s.effectiveTarget j := by
  have zone := h.event.standingOf (h.configured j).2.1
  simp only [State.effectiveTarget, State.covered, zone]
  rcases h.slots j with e | e
  · rw [e.1]
  · rw [e.slot]

theorem GrantsOnly.moved (h : GrantsOnly t u) {r : SlotRecord} (own : MovedFrom s t i r) : MovedFrom s u i r := by
  obtain ⟨slot, lane⟩ := own
  rcases h.slots i with e | e
  · exact ⟨by rw [e.1]; exact slot, by rw [e.2]; exact lane⟩
  · refine ⟨?_, ?_⟩
    · rw [e.slot, slot]
    · rw [e.lane, LaneRecord.ask_eq, lane]

theorem GrantsOnly.proceeded (h : GrantsOnly t u) (event : SlotEvent s t) {st : SlotState}
    (own : (t.slot i).state = afterRecompute (decide (s.mgmt.mode = .run)) st (t.effectiveTarget i)) :
    Proceeded s u i st := by
  unfold Proceeded
  rw [h.effectiveTarget, ← own]
  rcases h.slots i with e | e
  · exact .inl (by rw [e.1])
  · exact .inr ⟨e.waited, by rw [e.slot], by rw [e.last, (slotEvent_iff.1 event).1]⟩

theorem GrantsOnly.laneKept (h : GrantsOnly s u) (kept : LaneKept s i) : LaneKept u i := by
  rcases h.slots i with e | e
  · exact laneKept_congr kept e.2 (by rw [e.1])
  · obtain ⟨lane, awaited⟩ := laneKept_iff.1 kept
    rw [e.waited] at awaited
    rw [laneKept_iff, e.lane, e.slot]
    exact lane.ask (.inl awaited) _ _

theorem LaneRecord.mem_outstanding_ask (r : LaneRecord) (op : GovernedOp) (now duration : Nat) {x : Byte}
    (m : x ∈ r.outstanding) : x ∈ (r.ask op now duration).outstanding := by
  unfold LaneRecord.ask
  split
  · rename_i free
    simp only [LaneRecord.outstanding, free, LaneRecord.issueGoverned, LaneRecord.send] at m ⊢
    simp_all
  · rename_i g governed
    split
    · split
      · rename_i pair
        simp only [Bool.and_eq_true, Option.isNone_iff_eq_none] at pair
        simp only [LaneRecord.outstanding, governed, pair.1, LaneRecord.issuePreempting, LaneRecord.send] at m ⊢
        simp at m ⊢
        tauto
      · exact m
    · exact m
    · split
      · exact m
      · split
        · exact m
        · exact m

theorem GrantsOnly.outstanding (h : GrantsOnly s u) {x : Byte} (m : x ∈ (s.lane i).outstanding) :
    x ∈ (u.lane i).outstanding := by
  rcases h.slots i with e | e
  · rwa [e.2]
  · rw [e.lane]; exact LaneRecord.mem_outstanding_ask _ _ _ _ m

theorem GrantsOnly.emergency (h : GrantsOnly s u) (j : SlotId) :
    (u.slot j).emergencyUnloads = (s.slot j).emergencyUnloads := by
  rcases h.slots j with e | e
  · rw [e.1]
  · rw [e.slot]

theorem GrantsOnly.entries (h : GrantsOnly s u) (out : (s.slot j).state ≠ .queued) : u.entriesOf j = 0 := by
  rw [(h.account.slots j).queued]
  rcases h.slots j with e | e
  · rw [e.1, if_neg out]
  · exact absurd e.waited out

/-- The candidate of a look, where its entry is the first whose slot is not frozen. -/
theorem candidate_of_split {front back : List QueueEntry} {c : QueueEntry} (split : s.examined = front ++ c :: back)
    (blocked : ∀ x ∈ front, s.frozen x.slot = true) (free : s.frozen c.slot = false) : s.candidate = some c.slot := by
  have found : s.examined.find? (fun e => !s.frozen e.slot) = some c := by
    rw [split, List.find?_append, List.find?_eq_none.2 (by simpa using blocked)]
    simp [free]
  rw [State.candidate, found, Option.map_some]

theorem candidate_of_next {w : State} (queues : t.arbiter.queues = s.arbiter.queues)
    (frozen : ∀ j, t.frozen j = w.frozen j) (h : NextGrant s w i) : t.candidate = some i := by
  obtain ⟨-, -, free, front, back, c, split, rfl, blocked⟩ := h
  refine candidate_of_split (front := front) (back := back) ?_ (fun x m => ?_) ?_
  · unfold State.examined; rw [queues]; exact split
  · rw [frozen]; exact blocked x m
  · rw [frozen]; exact free

theorem look_of_candidate (run : s.mgmt.mode = .run) (c : s.candidate = some i) (fits : s.drawFits i = true)
    (passed : s.staggerPassed = true) : s.look = (s.grant i).lookUpTo s.examined.length := by
  simp [State.look, run, State.lookUpTo, c, fits, passed]

/-- A look that grants its candidate. -/
theorem granted_of_look (h : AccountKept s) (run : s.mgmt.mode = .run) (c : s.candidate = some i)
    (fits : s.drawFits i = true) (passed : s.staggerPassed = true) : Granted s s.look i := by
  rw [look_of_candidate run c fits passed]
  have granted := (GrantsOnly.refl h).grant c fits
  have more := (GrantsOnly.refl granted.account).lookUpTo s.examined.length
  have slot : ((s.grant i).lookUpTo s.examined.length).slot i = (s.grant i).slot i := by
    rcases more.slots i with e | e
    · exact e.1
    · have up := e.waited
      rw [State.grant_slot, if_pos rfl] at up
      cases up
  refine ⟨by rw [slot, State.grant_slot, if_pos rfl], by rw [slot, State.grant_slot, if_pos rfl], ?_⟩
  rcases more.last with e | e
  · rw [e, (State.grant_arbiter s i).1]
  · rw [e, (slotEvent_iff.1 (slotEvent_grant s i)).1]

end

/-! ### Marks (R158 to R162) -/

/-- Slot `j` has been shed-marked: its reservation and its count of emergency unloads are as they were. -/
structure MarkedFrom (s t : State) (j : SlotId) : Prop where
  unmarked : (s.slot j).shedMark = false
  marked : (t.slot j).shedMark = true
  powered : 0 < (s.slot j).reservation
  reservation : (t.slot j).reservation = (s.slot j).reservation
  emergency : (t.slot j).emergencyUnloads = (s.slot j).emergencyUnloads

/-- The state `u` differs from `s` by marks, with what a mark does, and by the over-ceiling condition at most. -/
structure MarksOnly (s u : State) : Prop where
  event : SlotEvent s u
  account : AccountKept u
  slots : ∀ j, Untouched s u j ∨ MarkedFrom s u j
  queue : s.trunk.queue <+: u.trunk.queue
  still : u.trunk = s.trunk ∧ u.groups = s.groups ∨ ∃ j, MarkedFrom s u j
  last : u.arbiter.lastGrant = s.arbiter.lastGrant

section
variable {s t u : State} {i j : SlotId}

theorem answerOwed_queue (s : State) (a : AnswerFrame) : (s.answerOwed a).trunk.queue = s.trunk.queue ++ [a] := by
  simp

theorem giveOutcome_queue (s : State) (i : SlotId) (code : AnswerCode) :
    s.trunk.queue <+: (s.giveOutcome i code).trunk.queue := by
  cases active : (s.slot i).active with
  | none => rw [s.giveOutcome_of_none active]
  | some a =>
    cases origin : a.origin with
    | controller => rw [giveOutcome_eq_answerOwed active origin]; simp
    | group g =>
      rw [s.giveOutcome_group active origin]
      unfold State.recordOutcome
      split
      · split
        · unfold State.closeIfEmpty
          split
          · split <;> simp
          · simp
        · simp
      · simp

/-- What a move counts of emergency unloads: a fall out of LOADING or LOADED at an onset (R15). -/
theorem proceed_emergency (s : State) (i j : SlotId) (onset : Bool) : ((s.proceed i onset).slot j).emergencyUnloads =
    if j = i ∧ onset = true ∧ ((s.slot i).state = .loading ∨ (s.slot i).state = .loaded) ∧ s.effectiveTarget i ≠ .loaded
    then countUp (s.slot i).emergencyUnloads else (s.slot j).emergencyUnloads := by
  by_cases own : j = i
  swap
  · rw [if_neg (fun h => own h.1), (s.proceed_other own onset).1]
  subst own
  have taken := proceedStep s j onset
  generalize s.proceed j onset = t at taken ⊢
  cases taken with
  | stays same =>
    rw [if_neg]
    rintro ⟨-, -, on, low⟩
    rcases on with st | st <;> rw [st] at same <;> revert same <;> cases target : s.effectiveTarget j <;>
      simp_all [afterRecompute]
  | raised st => simp [st, State.enterState_slot]
  | withdrawn st => simp [st, State.enterState_slot]
  | spunDown kept st => rcases st with ⟨st, -⟩ | ⟨st, -⟩ <;> simp [st, State.spinDown_slot]
  | loads st => simp [st, State.enterState_slot]
  | unloads st low => simp [st, low, State.unloadHeads_slot]

theorem MarksOnly.refl (h : AccountKept s) : MarksOnly s s :=
  ⟨.refl s, h, fun _ => .inl ⟨rfl, rfl⟩, List.prefix_rfl, .inl ⟨rfl, rfl⟩, rfl⟩

theorem shedMarkSlot_unmarked (h : AccountKept s) (i : SlotId) : ((s.shedMarkSlot i).slot i).shedMark = true ∧
    ((s.shedMarkSlot i).slot i).reservation = (s.slot i).reservation ∧
    ((s.shedMarkSlot i).slot i).emergencyUnloads = (s.slot i).emergencyUnloads := by
  have before := accountKept_giveOutcome (accountKept_modify_other h i
    (fun r => { r with shedMark := true, standing := .stopped }) (by simp)) i .shed
  unfold State.shedMarkSlot
  refine ⟨?_, ?_, ?_⟩
  · rw [(State.proceed_moved _ i false).1]; simp [State.giveOutcome_slot]
  · rw [proceed_reservation (before.slots i)]; simp [State.giveOutcome_slot]
  · rw [proceed_emergency]; simp [State.giveOutcome_slot]

theorem shedMarkSlot_queue (s : State) (i : SlotId) : s.trunk.queue <+: (s.shedMarkSlot i).trunk.queue := by
  unfold State.shedMarkSlot
  simpa using giveOutcome_queue (s.modifySlot i fun r => { r with shedMark := true, standing := .stopped }) i .shed

theorem shedMarkSlot_lastGrant (s : State) (i : SlotId) :
    (s.shedMarkSlot i).arbiter.lastGrant = s.arbiter.lastGrant := by
  unfold State.shedMarkSlot
  rw [State.proceed_lastGrant]
  simp

theorem MarksOnly.mark (h : MarksOnly s u) (candidate : i ∈ s.shedOrder) : MarksOnly s (u.shedMarkSlot i) := by
  obtain ⟨powered, unmarked, -, -⟩ := (State.mem_shedOrder s i).1 candidate
  obtain ⟨marked, reservation, emergency⟩ := shedMarkSlot_unmarked h.account i
  have own : MarkedFrom s (u.shedMarkSlot i) i := by
    rcases h.slots i with e | e
    · exact ⟨unmarked, marked, powered, reservation.trans (by rw [e.1]), emergency.trans (by rw [e.1])⟩
    · exact ⟨unmarked, marked, powered, reservation.trans e.reservation, emergency.trans e.emergency⟩
  refine ⟨h.event.trans (slotEvent_shedMarkSlot u i), accountKept_mark h.account i, fun j => ?_,
    h.queue.trans (shedMarkSlot_queue u i), .inr ⟨i, own⟩, (shedMarkSlot_lastGrant u i).trans h.last⟩
  by_cases same : j = i
  · exact .inr (same ▸ own)
  · obtain ⟨slot, lane⟩ := State.shedMarkSlot_other u same
    rcases h.slots j with e | e
    · exact .inl ⟨slot.trans e.1, lane.trans e.2⟩
    · refine .inr ⟨e.unmarked, ?_, e.powered, ?_, ?_⟩ <;> rw [slot]
      · exact e.marked
      · exact e.reservation
      · exact e.emergency

theorem MarksOnly.congr (h : MarksOnly s u) (event : SlotEvent u t) (trunk : t.trunk = u.trunk)
    (slots : t.slots = u.slots) (lanes : t.lanes = u.lanes) (arbiter : t.arbiter = u.arbiter) (groups : t.groups = u.groups) :
    MarksOnly s t := by
  have slot : ∀ j, t.slot j = u.slot j := fun j => by unfold State.slot; rw [slots]
  have marked : ∀ {j}, MarkedFrom s u j → MarkedFrom s t j := fun {j} ⟨a, b, c, d, e⟩ =>
    ⟨a, by rwa [slot], c, by rwa [slot], by rwa [slot]⟩
  refine ⟨h.event.trans event, accountKept_congr h.account slots (slotEvent_iff.1 event).2.2.1 (by rw [arbiter])
    (by rw [arbiter]), fun j => (h.slots j).imp (fun e => e.trans (untouched_of_eq slots lanes)) marked,
    by rw [trunk]; exact h.queue, ?_, by rw [arbiter]; exact h.last⟩
  exact h.still.imp (fun ⟨x, y⟩ => ⟨trunk.trans x, groups.trans y⟩) fun ⟨j, m⟩ => ⟨j, marked m⟩

theorem marksOnly_considerShed (h : AccountKept s) : MarksOnly s s.considerShed := by
  rcases s.considerShed_cases with e | ⟨-, e⟩ <;> rw [e]
  · exact .refl h
  · exact State.shedRun_induct _ _ (.refl h) fun i candidate v hv => hv.mark candidate

theorem marksOnly_of_same (event : SlotEvent s t) (trunk : t.trunk = s.trunk) (slots : t.slots = s.slots)
    (lanes : t.lanes = s.lanes) (arbiter : t.arbiter = s.arbiter) (groups : t.groups = s.groups) (h : MarksOnly t u) :
    MarksOnly s u := by
  have slot : ∀ j, t.slot j = s.slot j := fun j => by unfold State.slot; rw [slots]
  have marked : ∀ {j}, MarkedFrom t u j → MarkedFrom s u j := fun {j} ⟨a, b, c, d, e⟩ => by
    rw [slot] at a c d e
    exact ⟨a, b, c, d, e⟩
  obtain ⟨after, account, each, queue, still, last⟩ := h
  rw [trunk, groups] at still
  rw [trunk] at queue
  rw [arbiter] at last
  exact ⟨event.trans after, account, fun j => (each j).imp (fun e => (untouched_of_eq slots lanes).trans e) marked, queue,
    still.imp id fun ⟨j, m⟩ => ⟨j, marked m⟩, last⟩

/-- The over-ceiling test marks at most; where the total is within the ceiling it only ends the condition. -/
theorem marksOnly_overCeilingTest (h : AccountKept s) : MarksOnly s s.overCeilingTest := by
  unfold State.overCeilingTest
  split
  · split
    · exact marksOnly_considerShed h
    · exact marksOnly_of_same ((slotEvent_setOverCeiling s true).trans (slotEvent_setFlag _ _)) rfl rfl rfl rfl rfl
        (marksOnly_considerShed (accountKept_congr h rfl rfl rfl rfl))
  · exact (MarksOnly.refl h).congr (slotEvent_setOverCeiling s false) rfl rfl rfl rfl rfl

theorem MarksOnly.reservation (h : MarksOnly s u) (j : SlotId) : (u.slot j).reservation = (s.slot j).reservation := by
  rcases h.slots j with e | e
  · rw [e.1]
  · exact e.reservation

theorem MarksOnly.total (h : MarksOnly s u) (account : AccountKept s) :
    u.arbiter.reservationTotal = s.arbiter.reservationTotal := total_congr account h.account h.reservation

/-- A slot that has no reservation is not marked. -/
theorem MarksOnly.untouched (h : MarksOnly s u) (none : (s.slot j).reservation = 0) : Untouched s u j := by
  rcases h.slots j with e | e
  · exact e
  · exact absurd e.powered (by omega)

end

/-! ### The conclusion of an event -/

section
variable {before after : State}

/-- An event concludes with grants at most, and then with marks at most. -/
theorem concludeEvent_stages (before : State) (h : AccountKept after) :
    ∃ u, GrantsOnly after u ∧ MarksOnly u (concludeEvent before after) ∧
      (u = after ∧ grantOpportunity before after = false ∨ u = after.look ∧ grantOpportunity before after = true) ∧
      (concludeEvent before after = u ∧ figuresChanged before u = false ∨
        concludeEvent before after = u.overCeilingTest ∧ figuresChanged before u = true) := by
  obtain ⟨u, looked, e⟩ := concludeEvent_cases before after
  have grants : GrantsOnly after u := by
    rcases looked with ⟨rfl, -⟩ | ⟨rfl, -⟩
    · exact .refl h
    · exact (GrantsOnly.refl h).look
  refine ⟨u, grants, ?_, looked, ?_⟩ <;> rw [e] <;>
    rcases testIfChanged_cases before u with ⟨changed, test⟩ | ⟨same, test⟩ <;> rw [test]
  · exact marksOnly_overCeilingTest grants.account
  · exact .refl grants.account
  · exact .inr ⟨rfl, changed⟩
  · exact .inl ⟨rfl, same⟩

/-- The test after grants from a state whose figures are as they were, or whose total is within the ceiling, only ends the
condition. -/
theorem testIfChanged_calm {u : State} (grants : GrantsOnly after u)
    (calm : after.arbiter.reservationTotal ≤ after.ceilingInForce ∨
      after.arbiter.reservationTotal = before.arbiter.reservationTotal ∧ after.ceilingInForce = before.ceilingInForce) :
    testIfChanged before u = u ∨ testIfChanged before u = u.setOverCeiling false := by
  rcases testIfChanged_cases before u with ⟨changed, e⟩ | ⟨-, e⟩
  · refine .inr (e.trans (u.overCeilingTest_of_le ?_))
    rw [grants.event.ceiling]
    rcases grants.fits with same | fits
    · rcases calm with low | ⟨total, ceiling⟩
      · omega
      · rw [figuresChanged_eq_false.2 ⟨same.trans total, grants.event.ceiling.trans ceiling⟩] at changed
        cases changed
    · exact fits
  · exact .inl e

/-- An event that leaves the figures as they were, or the total within the ceiling, concludes with grants at most. -/
theorem concludeEvent_calm (h : AccountKept after) (calm : after.arbiter.reservationTotal ≤ after.ceilingInForce ∨
    after.arbiter.reservationTotal = before.arbiter.reservationTotal ∧ after.ceilingInForce = before.ceilingInForce) :
    GrantsOnly after (concludeEvent before after) := by
  obtain ⟨u, looked, concluded⟩ := concludeEvent_cases before after
  have grants : GrantsOnly after u := by
    rcases looked with ⟨rfl, -⟩ | ⟨rfl, -⟩
    · exact .refl h
    · exact (GrantsOnly.refl h).look
  rw [concluded]
  rcases testIfChanged_calm grants calm with e | e <;> rw [e]
  · exact grants
  · exact grants.overCeiling false

/-- A slot that the event's own effects leave as it was is spared by the event. -/
theorem concludeEvent_spared {s : State} {j : SlotId} (h : AccountKept after) (own : Untouched s after j) :
    Spared s (concludeEvent before after) j := by
  obtain ⟨u, grants, marks, -⟩ := concludeEvent_stages before h
  rcases marks.slots j with e | e
  · refine .inl ?_
    rcases grants.spared own with still | ⟨waited, up⟩
    · exact .inl (still.trans e)
    · exact .inr ⟨waited, by rw [e.1, up]⟩
  · exact .inr ⟨by rw [← own.1, ← (grants.configured j).2.2]; exact e.unmarked, e.marked⟩

theorem concludeEvent_event (before after : State) : SlotEvent after (concludeEvent before after) :=
  slotEvent_iff.2 (by simp)

end

end Sys2Proof.Machine
end

section
/-! PROOFS. The one outcome that a request receives, on the trunk link or in its group's record (R4, R128, R148, R150). -/

namespace Sys2Proof.Machine

/-! ### The answers and the records of a list of outcomes -/

section
variable {s t u : State} {i : SlotId} {is : List SlotId} {c : AnswerCode}

theorem answersFrom_append (s : State) (c : AnswerCode) (earlier xs ys : List SlotId) :
    answersFrom s c earlier (xs ++ ys) = answersFrom s c earlier xs ++ answersFrom s c (earlier ++ xs) ys := by
  induction xs generalizing earlier with
  | nil => simp [answersFrom]
  | cons x xs ih => simp [answersFrom, ih]

theorem outcomeAnswers_append (s : State) (c : AnswerCode) (xs ys : List SlotId) :
    outcomeAnswers s (xs ++ ys) c = outcomeAnswers s xs c ++ answersFrom s c xs ys := by
  simp [outcomeAnswers, answersFrom_append]

theorem recordAfter_nil (r : GroupRecord) (c : AnswerCode) : recordAfter r [] c = r := by
  simp [recordAfter]

/-- One more member's outcome. -/
theorem withOutcome_recordAfter (r : GroupRecord) (once : r.remaining.Nodup) (is : List SlotId) (i : SlotId)
    (c : AnswerCode) : (recordAfter r is c).withOutcome i c = recordAfter r (is ++ [i]) c := by
  have left : (r.remaining.filter fun j => decide (j ∉ is)).erase i = r.remaining.filter fun j => decide (j ∉ is ++ [i]) := by
    rw [(once.filter _).erase_eq_filter, List.filter_filter]
    refine List.filter_congr fun j _ => ?_
    by_cases own : j = i <;> by_cases earlier : j ∈ is <;> simp [own, earlier]
  unfold GroupRecord.withOutcome recordAfter
  dsimp only
  rw [left]
  by_cases done : c = .done <;> simp [done, Nat.add_assoc]

/-- The slots `is` have received the outcome `c`: their groups' records and the trunk port stand as that leaves them. -/
structure OutcomesGiven (s : State) (is : List SlotId) (c : AnswerCode) (u : State) : Prop where
  group : ∀ g, u.group g = groupAfter s is c g
  queue : u.trunk.queue = s.trunk.queue ++ outcomeAnswers s is c
  spent : u.trunk.reservations = s.trunk.reservations - (outcomeAnswers s is c).length

theorem groupAfter_nil (h : GroupsKept s) (c : AnswerCode) (g : GroupId) : groupAfter s [] c g = s.group g := by
  unfold groupAfter
  cases open_ : s.group g with
  | none => rfl
  | some r => simp [recordAfter_nil, (h.records g r open_).open_]

theorem OutcomesGiven.refl (h : GroupsKept s) (c : AnswerCode) : OutcomesGiven s [] c s :=
  ⟨fun g => (groupAfter_nil h c g).symm, by simp [outcomeAnswers, answersFrom], by simp [outcomeAnswers, answersFrom]⟩

theorem OutcomesGiven.congr (h : OutcomesGiven s is c u) (trunk : t.trunk = u.trunk) (groups : t.groups = u.groups) :
    OutcomesGiven s is c t :=
  ⟨fun g => (State.group_congr groups g).trans (h.group g), by rw [trunk]; exact h.queue, by rw [trunk]; exact h.spent⟩

theorem groupAfter_append_of_not_member {g : GroupId} (other : memberOf s g i = false) :
    groupAfter s (is ++ [i]) c g = groupAfter s is c g := by
  simp [groupAfter, List.filter_append, other]

theorem State.recordOutcome_trunk {g : GroupId} {r : GroupRecord} (open_ : s.group g = some r) (m : i ∈ r.remaining)
    (c : AnswerCode) : (s.recordOutcome g i c).trunk.queue =
        s.trunk.queue ++ (if (r.withOutcome i c).remaining = [] then [groupAnswer (r.withOutcome i c)] else []) ∧
      (s.recordOutcome g i c).trunk.reservations =
        s.trunk.reservations - (if (r.withOutcome i c).remaining = [] then 1 else 0) := by
  unfold State.recordOutcome
  rw [open_]
  dsimp only
  rw [if_pos m, State.closeIfEmpty, State.group_setGroup_self]
  dsimp only
  split
  · simp
    rfl
  · simp

/-- As OutcomesGiven, for the group records `old` and a trunk port that had the queue and the reservations named. -/
structure OutcomesFrom (s : State) (old : GroupId → Prop) (queue : List AnswerFrame) (reservations : Nat) (is : List SlotId)
    (c : AnswerCode) (u : State) : Prop where
  group : ∀ g, old g → u.group g = groupAfter s is c g
  queue : u.trunk.queue = queue ++ outcomeAnswers s is c
  spent : u.trunk.reservations = reservations - (outcomeAnswers s is c).length

/-- One more slot receives its outcome. -/
theorem OutcomesFrom.give {old : GroupId → Prop} {queue : List AnswerFrame} {reservations : Nat}
    (h : OutcomesFrom s old queue reservations is c u) (kept : GroupsKept s) (new : i ∉ is)
    (active : (u.slot i).active = (s.slot i).active) (members : ∀ g, memberOf s g i = true → old g) :
    OutcomesFrom s old queue reservations (is ++ [i]) c (u.giveOutcome i c) := by
  cases request : (s.slot i).active with
  | none =>
    rw [request] at active
    have other : ∀ g, memberOf s g i = false := fun g => by simp [memberOf, request]
    rw [State.giveOutcome_of_none _ active]
    have same : outcomeAnswers s (is ++ [i]) c = outcomeAnswers s is c := by
      rw [outcomeAnswers_append]; simp [answersFrom, request]
    exact ⟨fun g there => (h.group g there).trans (groupAfter_append_of_not_member (other g)).symm, by rw [same]; exact h.queue,
      by rw [same]; exact h.spent⟩
  | some a =>
    rw [request] at active
    cases origin : a.origin with
    | controller =>
      have other : ∀ g, memberOf s g i = false := fun g => by simp [memberOf, request, origin]
      have more : outcomeAnswers s (is ++ [i]) c = outcomeAnswers s is c ++ [slotAnswer i a c] := by
        rw [outcomeAnswers_append]; simp [answersFrom, request, origin, slotAnswer]
      have groups := (u.giveOutcome_controller active origin c).2.2
      refine ⟨fun g there => ((State.group_congr groups g).trans (h.group g there)).trans
        (groupAfter_append_of_not_member (other g)).symm, ?_, ?_⟩
      · rw [giveOutcome_eq_answerOwed active origin, answerOwed_queue, more, ← List.append_assoc, ← h.queue]
        simp
      · rw [giveOutcome_eq_answerOwed active origin, more, List.length_append, ← Nat.sub_sub, ← h.spent]
        simp
    | group g =>
      obtain ⟨r, open_, m⟩ := (kept.members g i).2 ⟨a, request, origin⟩
      have member : memberOf s g i = true := by simp [memberOf, request, origin]
      have others : ∀ k, k ≠ g → memberOf s k i = false := fun k other => by
        simp [memberOf, request, origin, Ne.symm other]
      obtain ⟨before, hbefore⟩ : ∃ x, x = recordAfter r (is.filter (memberOf s g)) c := ⟨_, rfl⟩
      have waits : i ∈ before.remaining := by
        rw [hbefore]
        simpa [recordAfter, m] using Or.inl new
      have here : u.group g = some before := by
        rw [h.group g (members g member)]
        have some_ : before.remaining ≠ [] := List.ne_nil_of_mem waits
        simp only [groupAfter, open_, ← hbefore, if_neg some_]
      have after : before.withOutcome i c = recordAfter r ((is ++ [i]).filter (memberOf s g)) c := by
        rw [hbefore, withOutcome_recordAfter r (List.nodup_append.1 (kept.records g r open_).once).1,
          List.filter_append, List.filter_cons_of_pos member, List.filter_nil]
      have more : outcomeAnswers s (is ++ [i]) c = outcomeAnswers s is c ++
          if (before.withOutcome i c).remaining = [] then [groupAnswer (before.withOutcome i c)] else [] := by
        rw [outcomeAnswers_append, after]
        simp [answersFrom, request, origin, open_]
      rw [u.giveOutcome_group active origin]
      obtain ⟨queue, spent⟩ := (u.modifySlot i fun r => { r with active := none }).recordOutcome_trunk
        (by simpa using here) waits c
      refine ⟨fun k there => ?_, ?_, ?_⟩
      · rw [State.recordOutcome_group (s := u.modifySlot i fun r => { r with active := none }) (by simpa using here) waits]
        split
        · rename_i own
          subst own
          rw [after]
          simp [groupAfter, open_, GroupRecord.place]
        · rename_i other
          rw [groupAfter_append_of_not_member (others k other), ← h.group k there]
          simp
      · rw [queue, more, ← List.append_assoc, ← h.queue]
        simp
      · rw [spent, more, List.length_append, ← Nat.sub_sub, ← h.spent]
        split <;> simp

theorem OutcomesGiven.give (h : OutcomesGiven s is c u) (kept : GroupsKept s) (new : i ∉ is)
    (active : (u.slot i).active = (s.slot i).active) : OutcomesGiven s (is ++ [i]) c (u.giveOutcome i c) := by
  have from_ : OutcomesFrom s (fun _ => True) s.trunk.queue s.trunk.reservations is c u :=
    ⟨fun g _ => h.group g, h.queue, h.spent⟩
  obtain ⟨group, queue, spent⟩ := from_.give kept new active fun _ _ => trivial
  exact ⟨fun g => group g trivial, queue, spent⟩

/-- The outcome of one slot's request. -/
theorem outcomesGiven_one (kept : GroupsKept s) (i : SlotId) (c : AnswerCode) (trunk : t.trunk = s.trunk)
    (groups : t.groups = s.groups) (active : (t.slot i).active = (s.slot i).active) :
    OutcomesGiven s [i] c (t.giveOutcome i c) :=
  ((OutcomesGiven.refl kept c).congr trunk groups).give kept (by simp) active

end

end Sys2Proof.Machine
end

section
/-! PROOFS. The stagger timer's expiry (R38 to R42). -/

namespace Sys2Proof.Machine

section
variable {s t u : State} {i j : SlotId}

theorem look_of_none (none : s.candidate = none) : s.look = s := by
  unfold State.look State.lookUpTo
  rw [none]
  cases s.mgmt.mode <;> rfl

theorem look_of_not_fits (c : s.candidate = some i) (fits : s.drawFits i = false) : s.look = s := by
  unfold State.look State.lookUpTo
  rw [c]
  dsimp only
  rw [fits]
  cases s.mgmt.mode <;> rfl

theorem look_of_stagger (run : s.mgmt.mode = .run) (c : s.candidate = some i) (fits : s.drawFits i = true)
    (early : s.staggerPassed = false) : s.look = { s with arbiter := { s.arbiter with staggerExpiry := s.staggerEnd } } := by
  unfold State.look State.lookUpTo
  rw [run, c]
  dsimp only
  rw [fits, early]
  rfl

theorem look_of_config (config : s.mgmt.mode = .config) : s.look = s := by
  unfold State.look
  rw [config]

/-- While the stagger refuses, a look grants nothing. -/
theorem lookUpTo_of_early (early : s.staggerPassed = false) (n : Nat) :
    ∃ e, s.lookUpTo n = { s with arbiter := { s.arbiter with staggerExpiry := e } } := by
  cases n with
  | zero => exact ⟨s.arbiter.staggerExpiry, rfl⟩
  | succ n =>
    unfold State.lookUpTo
    split
    · exact ⟨s.arbiter.staggerExpiry, rfl⟩
    · split
      · rw [early]; exact ⟨_, rfl⟩
      · exact ⟨s.arbiter.staggerExpiry, rfl⟩

theorem look_of_early (early : s.staggerPassed = false) :
    ∃ e, s.look = { s with arbiter := { s.arbiter with staggerExpiry := e } } := by
  unfold State.look
  split
  · exact lookUpTo_of_early early _
  · exact ⟨s.arbiter.staggerExpiry, rfl⟩

/-- A look that grants its candidate, with the grant's record. -/
theorem grantedFrom_look (h : AccountKept s) (run : s.mgmt.mode = .run) (c : s.candidate = some i)
    (fits : s.drawFits i = true) (passed : s.staggerPassed = true) : GrantedFrom s s.look i := by
  obtain ⟨up, -, -⟩ := granted_of_look h run c fits passed
  rcases (GrantsOnly.refl h).look.slots i with e | e
  · rw [e.1, queued_of_candidate h c] at up
    cases up
  · exact e

theorem testIfChanged_of_same (total : u.arbiter.reservationTotal = s.arbiter.reservationTotal)
    (ceiling : u.ceilingInForce = s.ceilingInForce) : testIfChanged s u = u := by
  rw [testIfChanged, figuresChanged_eq_false.2 ⟨total, ceiling⟩]
  rfl

end

/-- The state with the stagger timer off. -/
def State.untimed (s : State) : State := { s with arbiter := { s.arbiter with staggerExpiry := none } }

theorem exec_staggerTimerExpiry {s : State} {e : Nat} (expiry : s.arbiter.staggerExpiry = some e) (due : e ≤ s.now) :
    exec .staggerTimerExpiry s =
      .next (testIfChanged s s.untimed.look) := by
  change execStaggerTimerExpiry s = _
  rw [execStaggerTimerExpiry, if_pos (by simpa [reached, expiry] using due)]
  rfl

/-- Settles O41: the look from the state without its timer, by its candidate, its draw and the stagger. -/
theorem staggerExpiryGrants : Obligations.StaggerExpiryGrants := by
  intro s e front back c expiry account quiet
  have named : quiet = s.untimed := rfl
  clear_value quiet
  subst named
  have kept : AccountKept s.untimed := accountKept_congr account rfl rfl rfl rfl
  have still : testIfChanged s s.untimed = s.untimed := testIfChanged_of_same rfl rfl
  refine ⟨fun early => ?_, fun due config => ?_, fun due run frozen => ?_, fun due run split blocked free => ?_⟩
  · change execStaggerTimerExpiry s = _
    rw [execStaggerTimerExpiry, not_reached (by simpa [expiry] using early)]
    rfl
  · rw [exec_staggerTimerExpiry expiry due]
    exact congrArg _ ((congrArg _ (look_of_config (s := s.untimed) config)).trans still)
  · rw [exec_staggerTimerExpiry expiry due]
    have none : s.untimed.candidate = none := s.untimed.candidate_eq_none.2 fun x m => by
      simp only [State.examined, List.mem_append] at m
      rcases m with ((m | m) | m) | m
      · exact frozen 3 x m
      · exact frozen 2 x m
      · exact frozen 1 x m
      · exact frozen 0 x m
    exact congrArg _ ((congrArg _ (look_of_none none)).trans still)
  have candidate : s.untimed.candidate = some c.slot := candidate_of_split (s := s.untimed) split blocked free
  refine ⟨fun above => ?_, fun below => ⟨fun last granted early => ?_, fun passed => ?_⟩⟩
  · rw [exec_staggerTimerExpiry expiry due]
    have fits : s.untimed.drawFits c.slot = false := by
      rw [Bool.eq_false_iff, ne_eq, s.untimed.drawFits_iff]
      exact Nat.not_le.2 above
    exact congrArg _ ((congrArg _ (look_of_not_fits candidate fits)).trans still)
  · rw [exec_staggerTimerExpiry expiry due]
    have refused : s.untimed.staggerPassed = false := by
      rw [Bool.eq_false_iff, ne_eq, s.untimed.staggerPassed_iff]
      intro all
      have := all last granted
      simp only [State.untimed] at this
      omega
    have end_ : s.untimed.staggerEnd = some (last + 10 * s.arbiter.staggerInterval) := by
      simp [State.staggerEnd, State.untimed, granted, Nat.mul_comm]
    refine congrArg _ ((congrArg _ (look_of_stagger (s := s.untimed) run candidate ((s.untimed.drawFits_iff _).2 below) refused)).trans ?_)
    rw [end_]
    exact testIfChanged_of_same (s := s) rfl rfl
  · have fits := (s.untimed.drawFits_iff c.slot).2 below
    have ready : s.untimed.staggerPassed = true := s.untimed.staggerPassed_iff.2 fun last m => by
      rw [Nat.mul_comm]; exact passed last m
    have grants := (GrantsOnly.refl kept).look
    have granted := grantedFrom_look kept run candidate fits ready
    have calm := testIfChanged_calm (before := s) grants (.inr ⟨rfl, rfl⟩)
    obtain ⟨t, ht⟩ : ∃ t, t = testIfChanged s s.untimed.look := ⟨_, rfl⟩
    have concluded : GrantsOnly s.untimed t ∧ t.slots = s.untimed.look.slots ∧ t.lanes = s.untimed.look.lanes ∧
        t.arbiter = s.untimed.look.arbiter := by
      rcases calm with e | e <;> rw [ht, e]
      · exact ⟨grants, rfl, rfl, rfl⟩
      · exact ⟨grants.overCeiling false, rfl, rfl, rfl⟩
    obtain ⟨only, slots, lanes, arbiter⟩ := concluded
    have slot : ∀ j, t.slot j = s.untimed.look.slot j := fun j => by unfold State.slot; rw [slots]
    have lane : ∀ j, t.lane j = s.untimed.look.lane j := fun j => by unfold State.lane; rw [lanes]
    refine ⟨t, (exec_staggerTimerExpiry expiry due).trans (ht ▸ rfl), ?_, only.mgmt, only.trunk, ?_, ⟨rfl, ?_⟩, ?_, ?_,
      fun lane => ?_, fun j other => ?_, fun interval => ?_⟩
    · exact SlotEvent.trans (t := s.untimed) (slotEvent_iff.2 (by simp [State.untimed])) only.event
    · rw [slot, granted.slot]; rfl
    · rw [lane, granted.lane, LaneRecord.ask_eq]; rfl
    · rw [arbiter, granted.last]; rfl
    · rw [(only.account.slots c.slot).queued, slot, granted.slot]; rfl
    · have after := only.laneKept (i := c.slot) (laneKept_congr lane rfl rfl)
      rw [after.awaited, slot, granted.slot]; rfl
    · exact only.spared (s := s) ⟨rfl, rfl⟩
    · have early : (s.untimed.grant c.slot).staggerPassed = false := by
        rw [Bool.eq_false_iff, ne_eq, State.staggerPassed_iff]
        intro all
        have := all s.now (State.grant_arbiter s.untimed c.slot).1
        rw [(slotEvent_iff.1 (slotEvent_grant s.untimed c.slot)).1] at this
        have same : (s.untimed.grant c.slot).arbiter.staggerInterval = s.arbiter.staggerInterval := by
          simp [State.untimed]
        simp only [State.untimed] at this same
        omega
      obtain ⟨x, looked⟩ := lookUpTo_of_early early s.untimed.examined.length
      rw [← look_of_candidate (s := s.untimed) run candidate fits ready] at looked
      refine ⟨fun j other => ⟨?_, ?_⟩, ?_⟩
      · rw [slot, looked]
        exact (State.grant_slot s.untimed c.slot j).trans (if_neg other)
      · rw [lane, looked]
        exact (State.grant_lane s.untimed c.slot j).trans (if_neg other)
      · rw [arbiter, looked]
        change (s.untimed.grant c.slot).arbiter.reservationTotal =
          s.untimed.arbiter.reservationTotal + (s.untimed.profileOf c.slot).spinUpDraw
        exact grant_total kept (queued_of_candidate kept candidate)

end Sys2Proof.Machine
end

section
/-! PROOFS. Events that write one slot's record and apply the rule of its state: its configuration, the self-park hold and
the wait deadline (R2, R6, R12, R22, R130, R131). -/

namespace Sys2Proof.Machine

/-! ### What an answer of its own leaves as it was -/

section
variable {s t u : State} {i j : SlotId}

theorem OnlyTrunk.slots (h : OnlyTrunk u t) : t.slots = u.slots := by rw [h]
theorem OnlyTrunk.lanes (h : OnlyTrunk u t) : t.lanes = u.lanes := by rw [h]
theorem OnlyTrunk.mgmt (h : OnlyTrunk u t) : t.mgmt = u.mgmt := by rw [h]
theorem OnlyTrunk.groups (h : OnlyTrunk u t) : t.groups = u.groups := by rw [h]
theorem OnlyTrunk.arbiter (h : OnlyTrunk u t) : t.arbiter = u.arbiter := by rw [h]
theorem OnlyTrunk.event (h : OnlyTrunk u t) : SlotEvent u t := slotEvent_iff.2 (by rw [h]; simp)

theorem OnlyTrunk.slot (h : OnlyTrunk u t) (j : SlotId) : t.slot j = u.slot j := by unfold State.slot; rw [h.slots]

theorem OnlyTrunk.lane (h : OnlyTrunk u t) (j : SlotId) : t.lane j = u.lane j := by unfold State.lane; rw [h.lanes]

theorem OnlyTrunk.untouched (h : OnlyTrunk u t) (j : SlotId) : Untouched u t j := ⟨h.slot j, h.lane j⟩

theorem OnlyTrunk.effectiveTarget (h : OnlyTrunk u t) (j : SlotId) : t.effectiveTarget j = u.effectiveTarget j := by
  rw [h]; rfl

theorem OnlyTrunk.spared (h : OnlyTrunk u t) (own : SparedOrGranted s u j) : SparedOrGranted s t j := by
  unfold SparedOrGranted Untouched at own ⊢
  rwa [h.slot, h.lane]

theorem OnlyTrunk.moved (h : OnlyTrunk u t) {r : SlotRecord} (own : MovedFrom s u i r) : MovedFrom s t i r := by
  unfold MovedFrom at own ⊢
  rwa [h.slot, h.lane]

theorem OnlyTrunk.proceeded (h : OnlyTrunk u t) {st : SlotState} (own : Proceeded s u i st) : Proceeded s t i st := by
  unfold Proceeded at own ⊢
  rwa [h.slot, h.effectiveTarget, h.arbiter]

/-! ### A record written, and the rule of its state -/

/-- What an event does that writes slot `i`'s record, maybe gives its request's outcome, and applies the rule of its state:
everything up to the event's conclusion. -/
structure Rewritten (s : State) (i : SlotId) (r : SlotRecord) (o : State) : Prop where
  event : SlotEvent s o
  moved : MovedFrom s o i r
  state : (o.slot i).state = afterRecompute (decide (s.mgmt.mode = .run)) r.state (o.effectiveTarget i)
  others : ∀ j, j ≠ i → Untouched s o j
  lane : LaneKept s i → r.state.waitsOn = (s.slot i).state.waitsOn → LaneKept o i
  tags : ∀ x ∈ (s.lane i).outstanding, x ∈ (o.lane i).outstanding

theorem proceed_outstanding (s : State) (i : SlotId) (onset : Bool) {x : Byte} (m : x ∈ (s.lane i).outstanding) :
    x ∈ ((s.proceed i onset).lane i).outstanding := by
  have taken := proceedStep s i onset
  generalize s.proceed i onset = t at taken ⊢
  have asks : ∀ op now duration, x ∈ ((s.lane i).ask op now duration).outstanding :=
    fun op now duration => LaneRecord.mem_outstanding_ask _ op now duration m
  cases taken with
  | stays => exact m
  | raised => simpa using m
  | withdrawn => simpa using m
  | spunDown kept => rw [State.spinDown_lane, if_pos rfl]; exact asks ..
  | loads => rw [State.ask_lane, if_pos rfl]; simpa using asks ..
  | unloads => rw [State.unloadHeads_lane, if_pos rfl]; exact asks ..

/-- The rule of the state of a record just written. -/
theorem rewritten_proceed {r : SlotRecord} (event : SlotEvent s u) (slot : u.slot i = r)
    (lanes : u.lanes = s.lanes) (others : ∀ j, j ≠ i → u.slot j = s.slot j) (onset : Bool) :
    Rewritten s i r (u.proceed i onset) := by
  have lane : ∀ j, u.lane j = s.lane j := fun j => by unfold State.lane; rw [lanes]
  obtain ⟨-, -, -, -, -, -, -, -, -, -, -, -, -, -, -, -, -, mode, -, -⟩ := slotEvent_iff.1 event
  obtain ⟨record, issued⟩ := u.proceed_moved i onset
  refine ⟨event.trans (slotEvent_proceed u i onset), ⟨by rw [record, slot], by rw [issued, lane]⟩,
    ?_, fun j other => ?_, fun kept same => ?_, fun x m => ?_⟩
  · rw [State.proceed_state, State.proceed_effectiveTarget, mode, slot]
  · obtain ⟨still, quiet⟩ := u.proceed_other other onset
    exact ⟨still.trans (others j other), quiet.trans (lane j)⟩
  · exact laneKept_proceed (laneKept_congr kept (lane i) (by rw [slot, same])) onset
  · exact proceed_outstanding u i onset (by rwa [lane])

section
variable {r : SlotRecord} {o : State}

theorem Rewritten.movedBy (h : Rewritten s i r o) (g : GrantsOnly o t) : MovedFrom s t i r := g.moved h.moved

theorem Rewritten.proceeded (h : Rewritten s i r o) (g : GrantsOnly o t) : Proceeded s t i r.state :=
  g.proceeded h.event h.state

theorem Rewritten.spared (h : Rewritten s i r o) (g : GrantsOnly o t) {j : SlotId} (other : j ≠ i) :
    SparedOrGranted s t j := g.spared (h.others j other)

theorem Rewritten.concluded (h : Rewritten s i r o) (g : GrantsOnly o t) : SlotEvent s t := h.event.trans g.event

theorem Rewritten.awaits (h : Rewritten s i r o) (g : GrantsOnly o t) (kept : LaneKept s i)
    (same : r.state.waitsOn = (s.slot i).state.waitsOn) : (t.lane i).awaited = (t.slot i).state.waitsOn :=
  (g.laneKept (h.lane kept same)).awaited

end

/-- The total does not change where each reservation stays. -/
theorem calm_of_reservations {o : State} (h : AccountKept s) (after : AccountKept o) (event : SlotEvent s o)
    (same : ∀ j, (o.slot j).reservation = (s.slot j).reservation) : GrantsOnly o (concludeEvent s o) :=
  concludeEvent_calm after (.inr ⟨total_congr h after same, event.ceiling⟩)

theorem reservation_proceed_of_modify (f : SlotRecord → SlotRecord)
    (kept : AccountKept (s.modifySlot i f)) (reservation : (f (s.slot i)).reservation = (s.slot i).reservation)
    (onset : Bool) (j : SlotId) : (((s.modifySlot i f).proceed i onset).slot j).reservation = (s.slot j).reservation := by
  rw [proceed_reservation (kept.slots i)]
  by_cases own : j = i
  · subst own; simpa using reservation
  · simp [own]

end

/-! ### The slot configuration (R2, R188) -/

theorem afterRecompute_rest {st : SlotState} (rest : st.atRest = true) (run : Bool) (tgt : Target) :
    ∀ (p : DrawProfile) (kept : DrawKept), reservationIn p kept (afterRecompute run st tgt) = 0 := by
  intro p kept
  cases st <;> cases tgt <;> cases run <;> first | rfl | cases rest

/-- Settles O23: the record is written, and the slot goes by the rule of its state. -/
theorem slotConfigurationWriteStored : Obligations.SlotConfigurationWriteStored := by
  intro s tag index b0 b1 b2 i z p sc room at_ zone profile shed account rest
  have resting : (s.slot i).state.atRest = true := by rcases rest with e | e | e <;> rw [e] <;> rfl
  have z' : clampIndex 3 b0 = z := Fin.ext zone.symm
  have p' : clampIndex 7 b1 = p := Fin.ext profile.symm
  have sc' : clampIndex 3 b2 = sc := Fin.ext shed.symm
  obtain ⟨o, ho⟩ : ∃ o, o = (s.modifySlot i fun r => { r with zone := z, profile := p, shedClass := sc }).proceed i false :=
    ⟨_, rfl⟩
  have written : Rewritten s i { s.slot i with zone := z, profile := p, shedClass := sc } o := by
    rw [ho]
    exact rewritten_proceed (slotEvent_modifySlot ..) (by simp) rfl (fun j other => by simp [other]) false
  have kept : AccountKept o := ho ▸ accountKept_slotEntry account z p sc resting
  have grants : GrantsOnly o (concludeEvent s o) := by
    refine calm_of_reservations account kept written.event fun j => ?_
    by_cases own : j = i
    · subst own
      rw [(kept.slots j).reservation, (account.slots j).reservation, written.state, afterRecompute_rest resting]
      rcases rest with e | e | e <;> rw [e] <;> rfl
    · rw [(written.others j own).1]
  have stored : ((concludeEvent s o).slot i).zone = z ∧ ((concludeEvent s o).slot i).profile = p ∧
      ((concludeEvent s o).slot i).shedClass = sc := by
    rw [(written.movedBy grants).1]
    exact ⟨rfl, rfl, rfl⟩
  obtain ⟨t, run, only, queue, -, -⟩ := write_answered (s := s) (tb := .slotConfiguration) (index := index)
    (entry := [b0, b1, b2]) (bytes := [byte z.val, byte p.val, byte sc.val]) (v := concludeEvent s o) room rfl
    (at_ ▸ i.isLt) (by simp [written_slotConfiguration at_, State.writeSlot, slotEntry, resting, z', p', sc', ho])
    (by rw [← at_, entryBytes_slotConfiguration, stored.1, stored.2.1, stored.2.2]) tag
  refine ⟨t, run, (written.concluded grants).trans only.event, only.mgmt.trans (grants.mgmt.trans (by rw [ho]; simp)), ?_,
    only.moved (written.movedBy grants),
    only.proceeded (written.proceeded grants), fun j other => only.spared (written.spared grants other)⟩
  have trunk : (concludeEvent s o).trunk = s.trunk := by rw [grants.trunk, ho]; simp
  rw [queue, trunk]
  rfl

/-! ### The self-park hold (R6, R22) -/

/-- A carrier that parks itself: the beacon counted, the hold started, the flag set. -/
def State.parkedItself (s : State) (i : SlotId) : State :=
  ((s.modifySlot i fun r => { r with selfParks := countUp r.selfParks }).startSelfPark i).setFlag .selfPark

theorem exec_selfParked_loaded {s : State} {i : SlotId} (loaded : (s.slot i).state = .loaded) :
    exec (.selfParked i) s = .next (concludeEvent s ((s.parkedItself i).arrive i .parked)) := by
  change execSelfParked i s = _
  rw [execSelfParked, if_pos loaded]
  rfl

theorem parkedItself_slot (s : State) (i j : SlotId) : (s.parkedItself i).slot j =
    if j = i then { s.slot i with
      selfParks := countUp (s.slot i).selfParks
      selfParkExpiry := if s.mgmt.timing.selfParkHold = 0 then (s.slot i).selfParkExpiry
        else some (s.now + 100 * s.mgmt.timing.selfParkHold) } else s.slot j := by
  unfold State.parkedItself State.startSelfPark
  by_cases own : j = i
  · subst own
    split
    · rename_i holds
      have some_ : s.mgmt.timing.selfParkHold ≠ 0 := Nat.pos_iff_ne_zero.1 holds
      simp [some_, Nat.mul_comm]
    · rename_i none
      have zero : s.mgmt.timing.selfParkHold = 0 := Nat.eq_zero_of_not_pos none
      simp [zero]
  · split <;> simp [own]

theorem parkedItself_rest (s : State) (i : SlotId) : SlotEvent s (s.parkedItself i) ∧ (s.parkedItself i).lanes = s.lanes ∧
    (s.parkedItself i).mgmt.flags = { s.mgmt.flags with selfPark := true } := by
  unfold State.parkedItself State.startSelfPark
  split <;> exact ⟨slotEvent_iff.2 (by simp), by simp, by simp [EventFlags.raise]⟩

theorem effectiveTarget_ne_loaded {s : State} {i : SlotId} (held : (s.slot i).selfParkExpiry.isSome = true) :
    s.effectiveTarget i ≠ .loaded := by
  have lower : ∀ a b : Target, a.lower b = .loaded → a = .loaded ∧ b = .loaded := by
    intro a b; cases a <;> cases b <;> decide
  intro top
  simp only [State.effectiveTarget, held] at top
  obtain ⟨-, top⟩ := lower _ _ top
  obtain ⟨-, top⟩ := lower _ _ top
  obtain ⟨top, -⟩ := lower _ _ top
  cases top

theorem accountKept_parkedItself {s : State} (h : AccountKept s) (i : SlotId) : AccountKept (s.parkedItself i) := by
  have counted := accountKept_modify_other h i (fun r => { r with selfParks := countUp r.selfParks }) (by simp)
  have started : AccountKept ((s.modifySlot i fun r => { r with selfParks := countUp r.selfParks }).startSelfPark i) := by
    unfold State.startSelfPark
    split
    · exact accountKept_modify_other counted i _ (by simp)
    · exact counted
  exact accountKept_congr started rfl rfl rfl rfl

/-- Settles O38: the arrival in PARKED, which changes no figure and raises no slot, and the rule of the state after the
hold. -/
theorem selfParkStartsAndEnds : Obligations.SelfParkStartsAndEnds := by
  intro s i
  refine ⟨fun down => ?_, fun loaded account lane => ?_, fun wait => ?_, fun e expiry due account => ?_⟩
  · change execSelfParked i s = _
    rw [execSelfParked, if_neg down]
    rfl
  · obtain ⟨event, lanes, flags⟩ := parkedItself_rest s i
    have started := parkedItself_slot s i
    obtain ⟨u, hu⟩ : ∃ u, u = ((s.parkedItself i).enterState i .parked).completeIfReached i := ⟨_, rfl⟩
    obtain ⟨o, ho⟩ : ∃ o, o = u.proceed i false := ⟨_, rfl⟩
    have profile : (s.parkedItself i).profileOf i = s.profileOf i := event.profileOf (by rw [started, if_pos rfl])
    obtain ⟨r, hr⟩ : ∃ r, r = { s.slot i with
        state := .parked, powerSwitch := true, reservation := (s.profileOf i).runningDraw
        selfParks := min ((s.slot i).selfParks + 1) 65535
        selfParkExpiry := if s.mgmt.timing.selfParkHold = 0 then (s.slot i).selfParkExpiry
          else some (s.now + 100 * s.mgmt.timing.selfParkHold)
        active := (s.slot i).active.filter fun a => decide (a.target ≠ Target.parked) } := ⟨_, rfl⟩
    have slot : u.slot i = r := by
      rw [hu, hr, State.completeIfReached_slot, if_pos rfl, State.enterState_slot, if_pos rfl, started, if_pos rfl, profile]
      simp [SlotState.powered, reservationIn, countUp, Config.counterMax, SlotState.asTarget, eq_comm]
    have arrived : Rewritten s i r o := by
      rw [ho]
      refine rewritten_proceed (event.trans ?_) slot ?_ (fun j other => ?_) false
      · rw [hu]; exact slotEvent_iff.2 (by simp)
      · rw [hu]; simpa using lanes
      · rw [hu, State.completeIfReached_slot, if_neg other, State.enterState_slot, if_neg other, started, if_neg other]
    have parked : AccountKept u := by
      rw [hu]
      refine accountKept_completeIfReached (accountKept_moves (accountKept_parkedItself account i) .parked ?_ ?_ (by simp)) i
      · rw [started, if_pos rfl]; simp [loaded]
      · rw [started, if_pos rfl]; simp [loaded]
    have reservation : ∀ j, (o.slot j).reservation = (s.slot j).reservation := fun j => by
      rw [ho, proceed_reservation (parked.slots i)]
      by_cases own : j = i
      · subst own
        rw [slot, hr, (account.slots j).reservation, loaded]
        rfl
      · rw [hu, State.completeIfReached_slot, if_neg own, State.enterState_slot, if_neg own, started, if_neg own]
    have after : AccountKept o := ho ▸ accountKept_proceed parked i false
    have held : r.state = .parked := by rw [hr]
    have state := arrived.state
    rw [held] at state
    have low : (o.slot i).state ≠ .queued := by
      rw [state]; cases o.effectiveTarget i <;> simp [afterRecompute]
    have still : concludeEvent s o = o := by
      refine concludeEvent_of_still (fun j queued => ?_) (fun z => ?_) (total_congr account after reservation)
        arrived.event.ceiling
      · by_cases own : j = i
        · exact absurd (own ▸ queued) low
        · rwa [(arrived.others j own).1] at queued
      · rw [(slotEvent_iff.1 arrived.event).2.2.2.2.2.2.1]; exact id
    have moved := arrived.moved
    rw [hr] at moved
    have waits : LaneKept o i := arrived.lane lane (by rw [held, loaded]; rfl)
    refine ⟨o, ?_, arrived.event, moved, ?_, .inl state, fun starts => ?_, reservation i, ?_, waits.awaited, arrived.others⟩
    · rw [exec_selfParked_loaded loaded, show (s.parkedItself i).arrive i .parked = o by rw [ho, hu]; rfl, still]
    · have mgmt : o.mgmt = (s.parkedItself i).mgmt := by rw [ho, hu]; simp
      rw [mgmt, flags]
    · have holds : (o.slot i).selfParkExpiry.isSome = true := by
        rw [moved.1]
        simp [Nat.pos_iff_ne_zero.1 starts]
      have top := effectiveTarget_ne_loaded holds
      rw [state]
      cases target : o.effectiveTarget i <;> simp [afterRecompute]
      exact top target
    · rw [ho, proceed_emergency, slot, hr]
      simp
  · change execSelfParkHoldExpiry i s = _
    rw [execSelfParkHoldExpiry, not_reached wait]
    rfl
  · have reachedNow : reached s.now (s.slot i).selfParkExpiry = true := by
      rw [Option.mem_def] at expiry
      simpa [reached, expiry] using due
    obtain ⟨o, ho⟩ : ∃ o, o = (s.modifySlot i fun r => { r with selfParkExpiry := none }).proceed i false := ⟨_, rfl⟩
    have lifted : AccountKept (s.modifySlot i fun r => { r with selfParkExpiry := none }) :=
      accountKept_modify_other account i _ (by simp)
    have written : Rewritten s i { s.slot i with selfParkExpiry := none } o := by
      rw [ho]
      exact rewritten_proceed (slotEvent_modifySlot ..) (by simp) rfl (fun j other => by simp [other]) false
    have grants : GrantsOnly o (concludeEvent s o) :=
      calm_of_reservations account (ho ▸ accountKept_proceed lifted i false) written.event fun j =>
        ho ▸ reservation_proceed_of_modify _ lifted rfl false j
    refine ⟨concludeEvent s o, ?_, written.concluded grants, ?_, ?_, written.movedBy grants, written.proceeded grants,
      fun kept => written.awaits grants kept rfl, fun j other => written.spared grants other⟩
    · change execSelfParkHoldExpiry i s = _
      rw [execSelfParkHoldExpiry, if_pos reachedNow, ho]
    · rw [grants.trunk, ho]; simp
    · rw [grants.mgmt, ho]; simp

end Sys2Proof.Machine
end

section
/-! PROOFS. The wait deadline, WITHDRAW, RESTORE and CLEAR_FAULT (R27, R130, R131, R176 to R178, R192). -/

namespace Sys2Proof.Machine

section
variable {s t u : State} {i j : SlotId}

theorem effectiveTarget_of_standing (low : (s.slot i).standing = .stopped) : s.effectiveTarget i = .stopped := by
  have bottom : ∀ a : Target, Target.lower .stopped a = .stopped := by intro a; cases a <;> rfl
  simp [State.effectiveTarget, low, bottom]

theorem effectiveTarget_of_withdrawn (out : (s.slot i).inService = false) : s.effectiveTarget i = .stopped := by
  have left : ∀ a : Target, Target.lower .stopped a = .stopped := by intro a; cases a <;> rfl
  have right : ∀ a : Target, Target.lower a .stopped = .stopped := by intro a; cases a <;> rfl
  simp [State.effectiveTarget, out, cap, left, right]

/-- An event of one slot that does not wait after it, and whose reservation stays, has no conclusion. -/
theorem Rewritten.still {r : SlotRecord} {o : State} (h : Rewritten s i r o) (account : AccountKept s)
    (after : AccountKept o) (reservation : (o.slot i).reservation = (s.slot i).reservation)
    (up : (o.slot i).state = .queued → (s.slot i).state = .queued) : concludeEvent s o = o := by
  have same : ∀ j, (o.slot j).reservation = (s.slot j).reservation := fun j => by
    by_cases own : j = i
    · rw [own, reservation]
    · rw [(h.others j own).1]
  refine concludeEvent_of_still (fun j queued => ?_) (fun z => ?_) (total_congr account after same) h.event.ceiling
  · by_cases own : j = i
    · subst own; exact up queued
    · rwa [(h.others j own).1] at queued
  · rw [(slotEvent_iff.1 h.event).2.2.2.2.2.2.1]; exact id

end

/-! ### The wait deadline (R130, R131) -/

section
variable {s : State} {i : SlotId}

theorem waiting_iff (a : ActiveRequest) : s.waiting i a = true ↔ (s.slot i).state = .queued ∨
    (((s.slot i).state = .parked ∨ (s.slot i).state = .unloading) ∧
      (s.effectiveTarget i).rank < a.target.rank ∧ (s.covered i = true ∨ (s.slot i).selfParkExpiry ≠ none)) := by
  unfold State.waiting
  cases st : (s.slot i).state <;> simp [State.heldBelow, Option.isSome_iff_ne_none]

/-- Settles O40: outside a waiting position the deadline goes; in one the request receives WAIT_EXPIRED and the slot goes by
the rule of its state to the target it has settled in, which raises no slot and changes no figure. -/
theorem waitDeadlineTested : Obligations.WaitDeadlineTested := by
  intro s i a e active deadline account groups waits
  have run : exec (.waitDeadline i) s = if reached s.now a.waitDeadline then
      if s.waiting i a then .next (concludeEvent s (s.waitExpired i)) else .next (s.modifySlot i SlotRecord.withoutDeadline)
      else .next s := by
    change execWaitDeadline i s = _
    rw [execWaitDeadline, active]
  have due_iff : reached s.now a.waitDeadline = true ↔ e ≤ s.now := by simp [reached, deadline]
  refine ⟨fun early => ?_, fun due moves => ⟨_, ?_, rfl⟩, fun due waiting => ?_⟩
  · rw [run, if_neg (by rw [due_iff]; omega)]
  · rw [run, if_pos (due_iff.2 due), if_neg (by rw [waiting_iff]; exact moves)]
    refine congrArg _ (modifySlot_congr ?_)
    simp [SlotRecord.withoutDeadline, active]
  · obtain ⟨u, hu⟩ : ∃ u, u = (s.giveOutcome i .waitExpired).modifySlot i fun r =>
        { r with standing := settledTarget r.state } := ⟨_, rfl⟩
    obtain ⟨o, ho⟩ : ∃ o, o = u.proceed i false := ⟨_, rfl⟩
    have given := accountKept_giveOutcome account i .waitExpired
    have kept : AccountKept u := by rw [hu]; exact accountKept_modify_other given i _ (by simp)
    have after : AccountKept o := by rw [ho]; exact accountKept_proceed kept i false
    have settled : settledTarget (s.slot i).state = if (s.slot i).state = .queued then .stopped else .parked := by
      cases (s.slot i).state <;> rfl
    have slot : u.slot i = { s.slot i with
        active := none, standing := if (s.slot i).state = .queued then .stopped else .parked } := by
      rw [hu, ← settled]; simp [State.giveOutcome_slot]
    have written : Rewritten s i { s.slot i with
        active := none, standing := if (s.slot i).state = .queued then .stopped else .parked } o := by
      rw [ho]
      refine rewritten_proceed ?_ slot ?_ (fun j other => ?_) false
      · rw [hu]; exact (slotEvent_giveOutcome ..).trans (slotEvent_modifySlot ..)
      · rw [hu]; simp
      · rw [hu]; simp [other, State.giveOutcome_slot]
    have reservation : (o.slot i).reservation = (s.slot i).reservation := by
      rw [ho, proceed_reservation (kept.slots i), slot]
    have target : (s.slot i).state = .queued → o.effectiveTarget i = .stopped := fun queued => by
      rw [ho, State.proceed_effectiveTarget]
      exact effectiveTarget_of_standing (by rw [slot]; simp [queued])
    have state : (o.slot i).state = afterRecompute true (s.slot i).state (o.effectiveTarget i) := by
      rw [written.state]
      rcases waiting with st | ⟨st | st, -⟩ <;> simp only [st] <;> cases o.effectiveTarget i <;> rfl
    have down : (o.slot i).state ≠ .queued := by
      rw [state]
      rcases waiting with st | ⟨st | st, -⟩
      · rw [target st, st]; simp [afterRecompute]
      · rw [st]; cases o.effectiveTarget i <;> simp [afterRecompute]
      · rw [st]; cases o.effectiveTarget i <;> simp [afterRecompute]
    have still := written.still account after reservation fun queued => absurd queued down
    have outcomes : OutcomesGiven s [i] .waitExpired o :=
      (outcomesGiven_one groups i .waitExpired rfl rfl rfl).congr (by rw [ho, hu]; simp) (by rw [ho, hu]; simp)
    have entries : o.entriesOf i = 0 := by rw [(after.slots i).queued, if_neg down]
    refine ⟨o, ?_, written.event, ?_, outcomes.queue, outcomes.group, outcomes.spent, written.moved, state,
      fun queued => ⟨?_, entries⟩, written.others⟩
    · rw [run, if_pos (due_iff.2 due), if_pos ((waiting_iff a).2 waiting),
        show s.waitExpired i = o by rw [ho, hu]; rfl, still]
    · rw [ho, hu]; simp
    · rw [state, target queued, queued]; rfl

end

/-! ### CLEAR_FAULT, WITHDRAW and RESTORE (R27, R176 to R178, R192) -/

section
variable {s t u : State} {i : SlotId}

theorem exec_clearFault (room : s.freeEntries ≠ 0) (tag : Byte) (i : SlotId) : exec (.clearFault tag [byte i.val]) s =
    .next ((concludeEvent s (s.clearFaultOf i)).done 6 tag [byte ((concludeEvent s (s.clearFaultOf i)).slot i).state.code]) := by
  change execClearFault tag [byte i.val] s = _
  rw [execClearFault, manage_proper room (.clearFault _)]
  dsimp only
  rw [indexed_taken (slotByte_toNat i).symm]

theorem exec_withdraw (room : s.freeEntries ≠ 0) (tag : Byte) (i : SlotId) : exec (.withdraw tag [byte i.val]) s =
    .next ((concludeEvent s (s.withdrawSlot i)).done 7 tag []) := by
  change execWithdraw tag [byte i.val] s = _
  rw [execWithdraw, manage_proper room (.withdraw _)]
  dsimp only
  rw [indexed_taken (slotByte_toNat i).symm]

theorem exec_restore (room : s.freeEntries ≠ 0) (tag : Byte) (i : SlotId) : exec (.restore tag [byte i.val]) s =
    .next ((concludeEvent s (s.restoreSlot i)).done 8 tag []) := by
  change execRestore tag [byte i.val] s = _
  rw [execRestore, manage_proper room (.restore _)]
  dsimp only
  rw [indexed_taken (slotByte_toNat i).symm]

theorem afterRecompute_down (run : Bool) (st : SlotState) :
    afterRecompute run st .stopped = afterRecompute true st .stopped := by
  cases st <;> rfl

theorem afterRecompute_down_ne (st : SlotState) : afterRecompute true st .stopped ≠ .queued := by
  cases st <;> simp [afterRecompute]

/-- The record that the rule of a slot's state leaves where the slot is to go down. -/
theorem proceed_slot_down (kept : SlotKept s i) (down : s.effectiveTarget i = .stopped) :
    (s.proceed i false).slot i = { s.slot i with
      state := afterRecompute true (s.slot i).state .stopped
      powerSwitch := (afterRecompute true (s.slot i).state .stopped).powered
      drawKept := if (s.slot i).state = .spinningUp then .spinUp
        else if (s.slot i).state = .parked then .running else (s.slot i).drawKept } := by
  have switch := kept.switch
  have reservation := kept.reservation
  have keep : afterRecompute true (s.slot i).state .stopped = (s.slot i).state → (s.slot i).state ≠ .spinningUp →
      (s.slot i).state ≠ .parked → s.slot i = { s.slot i with
        state := afterRecompute true (s.slot i).state .stopped
        powerSwitch := (afterRecompute true (s.slot i).state .stopped).powered
        drawKept := if (s.slot i).state = .spinningUp then .spinUp
          else if (s.slot i).state = .parked then .running else (s.slot i).drawKept } := fun same up parked => by
    rw [same, if_neg up, if_neg parked, ← switch]
  have taken := proceedStep s i false
  generalize s.proceed i false = t at taken ⊢
  cases taken with
  | stays same =>
    rw [down, afterRecompute_down] at same
    refine keep same (fun st => ?_) fun st => ?_ <;> rw [st] at same <;> cases same
  | raised st up => exact absurd down up
  | withdrawn st =>
    rw [st] at reservation
    simp [State.enterState_slot, st, afterRecompute, SlotState.powered, reservationIn, reservation]
  | spunDown kept st =>
    rcases st with ⟨st, rfl⟩ | ⟨st, rfl⟩ <;> rw [st] at reservation <;>
      simp [State.spinDown_slot, st, afterRecompute, SlotState.powered, reservationIn, reservation]
  | loads st up => rw [down] at up; cases up
  | unloads st =>
    rcases st with st | st <;> rw [st] at reservation <;>
      simp [State.unloadHeads_slot, st, afterRecompute, SlotState.powered, reservationIn, reservation]

/-- CLEAR_FAULT takes the state alone: in FAULT the switch is off and nothing is reserved. -/
theorem clearFaultOf_eq (account : AccountKept s) (fault : (s.slot i).state = .fault) :
    s.clearFaultOf i = s.modifySlot i fun r => { r with state := .stopped, standing := .stopped } := by
  have kept := account.slots i
  have switch : (s.slot i).powerSwitch = false := by rw [kept.switch, fault]; rfl
  have reservation : (s.slot i).reservation = 0 := by rw [kept.reservation, fault]; rfl
  have active : (s.slot i).active = none := by
    by_contra some_
    exact (kept.active (Option.isSome_iff_ne_none.2 some_)).2 fault
  obtain ⟨u, hu⟩ : ∃ u, u = (s.modifySlot i fun r => { r with standing := .stopped }).enterState i .stopped := ⟨_, rfl⟩
  have entered : u = s.modifySlot i fun r => { r with state := .stopped, standing := .stopped } := by
    rw [hu]
    refine State.eq_of_fields ?_
    have zero : s.slots[i.val].reservation = 0 := reservation
    have off : s.slots[i.val].powerSwitch = false := switch
    simp [State.enterState, State.setReservation, State.modifySlot, State.slot, reservationIn, SlotState.powered, zero, off]
  have arrived : (s.modifySlot i fun r => { r with standing := .stopped }).arrive i .stopped = u := by
    have none : (u.slot i).active = none := by rw [entered]; simpa using active
    have rests : u.completeIfReached i = u := by simp [State.completeIfReached, none]
    have down : u.effectiveTarget i = .stopped := effectiveTarget_of_standing (by rw [entered]; simp)
    have stopped : (u.slot i).state = .stopped := by rw [entered]; simp
    change State.proceed (State.completeIfReached (State.enterState _ i .stopped) i) i false = u
    rw [← hu, rests]
    simp [State.proceed, stopped, down]
  rw [State.clearFaultOf, if_pos fault, arrived, entered]

/-- Settles O28: each request is the effect on its slot, which raises no slot and changes no figure, and its answer. -/
theorem slotRequests : Obligations.SlotRequests := by
  intro s tag i room account
  refine ⟨fun fault => ?_, fun sound => ?_, fun serves groups => ?_, fun out => ?_, fun out => ?_, fun serves => ?_⟩
  · refine ⟨_, exec_clearFault room tag i, ?_⟩
    have still : concludeEvent s (s.clearFaultOf i) =
        s.modifySlot i fun r => { r with state := .stopped, standing := .stopped } := by
      rw [clearFaultOf_eq account fault]
      refine concludeEvent_of_still (fun j queued => ?_) (fun z => id) rfl rfl
      by_cases own : j = i
      · subst own; simp at queued
      · simpa [own] using queued
    rw [still]
    have stopped : ((s.modifySlot i fun r => { r with state := .stopped, standing := .stopped }).slot i).state = .stopped := by
      simp
    rw [stopped]
    exact State.done_answeredOnly ..
  · refine ⟨_, exec_clearFault room tag i, ?_⟩
    rw [State.clearFaultOf, if_neg sound, concludeEvent_self]
    exact State.done_answeredOnly ..
  · obtain ⟨u, hu⟩ : ∃ u, u = (s.modifySlot i fun r => { r with inService := false }).giveOutcome i .withdrawn := ⟨_, rfl⟩
    obtain ⟨o, ho⟩ : ∃ o, o = u.proceed i false := ⟨_, rfl⟩
    have event : s.withdrawSlot i = o := by rw [ho, hu, State.withdrawSlot, if_pos serves]
    have kept : AccountKept u := by
      rw [hu]; exact accountKept_giveOutcome (accountKept_modify_other account i _ (by simp)) i _
    have after : AccountKept o := by rw [ho]; exact accountKept_proceed kept i false
    have slot : u.slot i = { s.slot i with inService := false, active := none } := by
      rw [hu]; simp [State.giveOutcome_slot]
    have written : Rewritten s i { s.slot i with inService := false, active := none } o := by
      rw [ho]
      refine rewritten_proceed ?_ slot ?_ (fun j other => ?_) false
      · rw [hu]; exact (slotEvent_modifySlot ..).trans (slotEvent_giveOutcome ..)
      · rw [hu]; simp
      · rw [hu]; simp [other, State.giveOutcome_slot]
    have down : u.effectiveTarget i = .stopped := effectiveTarget_of_withdrawn (by rw [slot])
    have record := proceed_slot_down (kept.slots i) down
    rw [← ho, slot] at record
    have low : (o.slot i).state ≠ .queued := by rw [record]; exact afterRecompute_down_ne _
    have reservation : (o.slot i).reservation = (s.slot i).reservation := by rw [record]
    have still := written.still account after reservation fun queued => absurd queued low
    have outcomes : OutcomesGiven s [i] .withdrawn o :=
      (outcomesGiven_one (t := s.modifySlot i fun r => { r with inService := false }) groups i .withdrawn rfl rfl
        (by simp)).congr (by rw [ho, hu]; simp) (by rw [ho, hu]; simp)
    obtain ⟨only, queue, -, -⟩ := State.done_answeredOnly o 7 tag []
    have entries : o.entriesOf i = 0 := by rw [(after.slots i).queued, if_neg low]
    obtain ⟨t, ht⟩ : ∃ t, t = o.done 7 tag [] := ⟨_, rfl⟩
    rw [← ht] at only queue
    refine ⟨t, ?_, written.event.trans only.event, ?_, ?_, fun g => ?_, ?_, ⟨rfl, ?_⟩, fun lane => ?_, fun x m => ?_, ?_,
      fun j other => (written.others j other).trans (only.untouched j)⟩
    · rw [exec_withdraw room, event, still, ht]
    · rw [only.mgmt, ho, hu]; simp
    · rw [queue, outcomes.queue]; rfl
    · exact (State.group_congr only.groups g).trans (outcomes.group g)
    · rw [only.slot, record]
    · exact (only.moved written.moved).2
    · rw [only.lane, only.slot]
      exact (written.lane lane rfl).awaited
    · rw [only.lane]
      exact written.tags x m
    · rw [← entries]
      simp only [State.entriesOf, State.examined, only.arbiter]
  · refine ⟨_, exec_withdraw room tag i, ?_⟩
    rw [State.withdrawSlot, if_neg (by simp [out]), concludeEvent_self]
    exact State.done_answeredOnly ..
  · obtain ⟨o, ho⟩ : ∃ o, o = (s.modifySlot i fun r => { r with inService := true, standing := .stopped }).proceed i false :=
      ⟨_, rfl⟩
    have event : s.restoreSlot i = o := by rw [ho, State.restoreSlot, if_neg (by simp [out])]
    have kept : AccountKept (s.modifySlot i fun r => { r with inService := true, standing := .stopped }) :=
      accountKept_modify_other account i _ (by simp)
    have after : AccountKept o := by rw [ho]; exact accountKept_proceed kept i false
    have written : Rewritten s i { s.slot i with inService := true, standing := .stopped } o := by
      rw [ho]
      exact rewritten_proceed (slotEvent_modifySlot ..) (by simp) rfl (fun j other => by simp [other]) false
    have down : o.effectiveTarget i = .stopped := by
      rw [ho, State.proceed_effectiveTarget]
      exact effectiveTarget_of_standing (by simp)
    have state : (o.slot i).state = afterRecompute true (s.slot i).state .stopped := by
      rw [written.state, down, afterRecompute_down]
    have reservation : (o.slot i).reservation = (s.slot i).reservation := by
      rw [ho, reservation_proceed_of_modify _ kept rfl]
    have still := written.still account after reservation fun queued =>
      absurd (state.symm.trans queued) (afterRecompute_down_ne _)
    obtain ⟨only, queue, -, -⟩ := State.done_answeredOnly o 8 tag []
    obtain ⟨t, ht⟩ : ∃ t, t = o.done 8 tag [] := ⟨_, rfl⟩
    rw [← ht] at only queue
    refine ⟨t, ?_, written.event.trans only.event, ?_, ?_, only.moved written.moved, ?_,
      fun j other => (written.others j other).trans (only.untouched j)⟩
    · rw [exec_restore room, event, still, ht]
    · rw [only.mgmt, ho]; simp
    · rw [queue, show o.trunk = s.trunk by rw [ho]; simp]; rfl
    · rw [only.slot, state]
  · refine ⟨_, exec_restore room tag i, ?_⟩
    rw [State.restoreSlot, if_pos serves, concludeEvent_self]
    exact State.done_answeredOnly ..

end

end Sys2Proof.Machine
end

section
/-! PROOFS. The acceptance of a request: the former request superseded, the slot moved, the request recorded or completed
(R13 to R18, R28, R34, R125 to R129). -/

namespace Sys2Proof.Machine

section
variable {s t u : State} {i j : SlotId} {a : ActiveRequest}

/-! ### Acceptance step by step (R127) -/

/-- The state in which an accepted request has been recorded and the slot has not yet moved. -/
def State.posed (s : State) (i : SlotId) (a : ActiveRequest) : State :=
  ((s.giveOutcome i .superseded).reserveFor a.origin).modifySlot i fun r =>
    { r with active := some a, standing := a.target, lastPriority := some a.priority }

theorem State.accept_eq (s : State) (i : SlotId) (a : ActiveRequest) :
    s.accept i a = ((s.posed i a).proceed i false).completeIfReached i := rfl

theorem posed_slot (s : State) (i j : SlotId) (a : ActiveRequest) : (s.posed i a).slot j =
    if j = i then { s.slot i with active := some a, standing := a.target, lastPriority := some a.priority }
    else s.slot j := by
  have same : ∀ j, ((s.giveOutcome i .superseded).reserveFor a.origin).slot j = (s.giveOutcome i .superseded).slot j := by
    intro j; unfold State.slot; simp
  unfold State.posed
  by_cases own : j = i
  · subst own; simp [same, State.giveOutcome_slot]
  · simp [own, same, State.giveOutcome_slot]

theorem posed_event (s : State) (i : SlotId) (a : ActiveRequest) : SlotEvent s (s.posed i a) := by
  unfold State.posed; exact slotEvent_iff.2 (by simp)

theorem posed_lanes (s : State) (i : SlotId) (a : ActiveRequest) : (s.posed i a).lanes = s.lanes := by
  unfold State.posed; simp

/-- A request that the state taken reaches leaves the record again. -/
theorem Rewritten.completed {r : SlotRecord} (h : Rewritten s i r u) : Rewritten s i { r with
    active := r.active.filter fun b => decide ((u.slot i).state.asTarget ≠ some b.target) } (u.completeIfReached i) := by
  have slot : ∀ j, (u.completeIfReached i).slot j = if j = i then { u.slot i with
      active := (u.slot i).active.filter fun b => decide ((u.slot i).state.asTarget ≠ some b.target) } else u.slot j :=
    fun j => u.completeIfReached_slot i j
  have lane : ∀ j, (u.completeIfReached i).lane j = u.lane j := by simp
  have own := slot i
  rw [if_pos rfl] at own
  obtain ⟨record, issued⟩ := h.moved
  have request : (u.slot i).active = r.active := by rw [record]
  have target : (u.completeIfReached i).effectiveTarget i = u.effectiveTarget i := by
    simp [State.effectiveTarget, own]
  refine ⟨h.event.trans (slotEvent_completeIfReached u i), ⟨?_, ?_⟩, ?_, fun j other => ?_, fun kept same => ?_, fun x m => ?_⟩
  · rw [own, request]
    conv_lhs => rw [record]
  · rw [lane]; exact issued
  · rw [target, own]; exact h.state
  · obtain ⟨still, quiet⟩ := h.others j other
    exact ⟨by rw [slot, if_neg other, still], by rw [lane, quiet]⟩
  · exact laneKept_completeIfReached (h.lane kept same) i
  · rw [lane]; exact h.tags x m

/-- What an acceptance makes of the slot, its lane and the others. -/
theorem accept_rewritten (s : State) (i : SlotId) (a : ActiveRequest) : Rewritten s i { s.slot i with
    standing := a.target, lastPriority := some a.priority
    active := (some a).filter fun b => decide ((((s.posed i a).proceed i false).slot i).state.asTarget ≠ some b.target) }
    (s.accept i a) := by
  have moved : Rewritten s i { s.slot i with active := some a, standing := a.target, lastPriority := some a.priority }
      ((s.posed i a).proceed i false) :=
    rewritten_proceed (posed_event s i a) (by rw [posed_slot, if_pos rfl]) (posed_lanes s i a)
      (fun j other => by rw [posed_slot, if_neg other]) false
  exact moved.completed

theorem accountKept_posed (h : AccountKept s) (present : (s.slot i).present = true) (sound : (s.slot i).state ≠ .fault) :
    SlotKept (s.posed i a) i := by
  obtain ⟨⟨presence, switch, reservation, debounce, -⟩, entries⟩ := slotKept_iff.1 (h.slots i)
  have seated := presence.1 present
  have record := posed_slot s i i a
  rw [if_pos rfl] at record
  have profile : (s.posed i a).profileOf i = s.profileOf i := (posed_event s i a).profileOf (by rw [record])
  rw [slotKept_iff, record, profile]
  refine ⟨⟨presence, switch, reservation, debounce, fun _ => ⟨seated, sound⟩⟩, ?_⟩
  rw [← entries]
  simp [State.entriesOf, State.posed]

theorem accept_reservation (h : AccountKept s) (present : (s.slot i).present = true) (sound : (s.slot i).state ≠ .fault)
    (a : ActiveRequest) (j : SlotId) : ((s.accept i a).slot j).reservation = (s.slot j).reservation := by
  have kept := accountKept_posed (a := a) h present sound
  rw [State.accept_eq, State.completeIfReached_slot]
  by_cases own : j = i
  · subst own
    rw [if_pos rfl]
    dsimp only
    rw [proceed_reservation kept, posed_slot, if_pos rfl]
  · rw [if_neg own, proceed_reservation kept, posed_slot, if_neg own]

theorem accept_emergency (s : State) (i : SlotId) (a : ActiveRequest) :
    ((s.accept i a).slot i).emergencyUnloads = (s.slot i).emergencyUnloads := by
  rw [State.accept_eq, State.completeIfReached_slot, if_pos rfl]
  dsimp only
  rw [proceed_emergency, posed_slot, if_pos rfl]
  simp

/-! ### The target taken (R11, R125, R129) -/

/-- The effective target after an acceptance is the request's, or PARKED under a cap of a LOADED one. -/
theorem posed_target (serves : (s.slot i).inService = true) (marked : (s.slot i).shedMark = true → a.target = .stopped) :
    (s.posed i a).effectiveTarget i = a.target ∨
      a.target = .loaded ∧ (s.posed i a).effectiveTarget i = .parked ∧ s.effectiveTarget i ≠ .loaded := by
  have record := posed_slot s i i a
  rw [if_pos rfl] at record
  have covered : (s.posed i a).covered i = s.covered i := by
    rw [State.covered, (posed_event s i a).standingOf (by rw [record])]; rfl
  simp only [State.effectiveTarget, covered, record, serves]
  revert marked
  cases a.target <;> cases s.covered i <;> cases (s.slot i).selfParkExpiry.isSome <;> cases (s.slot i).shedMark <;>
    cases (s.slot i).standing <;> simp [Target.lower, cap, Target.rank]

/-- The state that an acceptance takes the slot to is the target exactly where the slot stands at it already. -/
theorem posed_reached (account : AccountKept s) (present : (s.slot i).present = true) (run : s.mgmt.mode = .run)
    (serves : (s.slot i).inService = true) (sound : (s.slot i).state ≠ .fault)
    (marked : (s.slot i).shedMark = true → a.target = .stopped)
    (heads : (s.slot i).state = .loading ∨ (s.slot i).state = .loaded → s.effectiveTarget i = .loaded) :
    (((s.posed i a).proceed i false).slot i).state.asTarget = some a.target ↔ atTarget (s.slot i).state a.target = true := by
  have record := posed_slot s i i a
  rw [if_pos rfl] at record
  have mode : (s.posed i a).mgmt.mode = .run := by
    obtain ⟨-, -, -, -, -, -, -, -, -, -, -, -, -, -, -, -, -, mode, -, -⟩ := slotEvent_iff.1 (posed_event s i a)
    rw [mode, run]
  have seated := ((account.slots i).presence.1 present)
  rw [State.proceed_state, mode, record]
  rcases posed_target (a := a) serves marked with same | ⟨top, low, capped⟩
  · rw [same]
    revert sound seated
    cases (s.slot i).state <;> cases a.target <;> simp [afterRecompute, SlotState.asTarget, atTarget]
  · rw [top, low]
    have high : (s.slot i).state ≠ .loaded := fun e => capped (heads (.inr e))
    revert high
    cases (s.slot i).state <;> simp [afterRecompute, SlotState.asTarget, atTarget]

end

/-- The request stays where the state does not reach it. -/
theorem filter_reached {a : ActiveRequest} {st : Option Target} {reached : Bool}
    (reaches : st = some a.target ↔ reached = true) :
    ((some a).filter fun b => decide (st ≠ some b.target)) = if reached = true then none else some a := by
  cases reached with
  | true => simp [Option.filter, reaches.2 rfl]
  | false => simp [Option.filter, mt reaches.1]

/-! ### Slot frames (R127 to R129) -/

theorem framePriority_eq {f : FrameBody} {p : Fin 8} (priority : p.val = f.priority.toNat) : framePriority f.priority = p := by
  have := p.isLt
  apply Fin.ext
  simp only [framePriority]
  omega

section
variable {s t u : State} {i j : SlotId} {f : FrameBody} {k : Fin 16} {tgt : Target} {c : Instr}

/-- The request that an accepted frame becomes. -/
theorem requestOf_eq (h : AcceptedFrame s i f k tgt) : s.requestOf i f s.kindMap[k] =
    ⟨.controller, f.tag, k, tgt, deadlineOf s f, framePriority f.priority⟩ := by
  obtain ⟨-, target⟩ := targetTable_eq_some.1 h.target
  rw [State.requestOf, target, frameKind_eq h.kind]
  rfl

theorem exec_acceptedFrame (command : SlotFrameCommand i f c) (h : AcceptedFrame s i f k tgt) :
    exec c s = .next (concludeEvent s (s.accept i (s.requestOf i f s.kindMap[k]))) := by
  obtain ⟨present, run, serves, sound, marked⟩ := h.acceptable
  obtain ⟨governed, target⟩ := targetTable_eq_some.1 h.target
  have free : s.governedRefusal i s.kindMap[k] = none :=
    governedRefusal_eq_none.2 ⟨run, serves, sound, fun m => by rw [target]; exact marked m⟩
  rw [slotFrame_exec command h.room, takeSlotFrame_governed h.fields present h.kind governed, State.takeGoverned, free]

theorem accepted_calm (h : AcceptedFrame s i f k tgt) (account : AccountKept s) (a : ActiveRequest) :
    AccountKept (s.accept i a) ∧ GrantsOnly (s.accept i a) (concludeEvent s (s.accept i a)) := by
  obtain ⟨present, -, -, sound, -⟩ := h.acceptable
  have after := accountKept_accept account a present sound
  exact ⟨after, calm_of_reservations account after (accept_rewritten s i a).event (accept_reservation account present sound a)⟩

/-- The trunk port and the group records after an acceptance of a CONTROLLER request. -/
theorem accept_controller {a : ActiveRequest} (groups : GroupsKept s) (controller : a.origin = .controller)
    {reached : Bool} (reaches : (((s.posed i a).proceed i false).slot i).state.asTarget = some a.target ↔ reached = true) :
    (∀ g, (s.accept i a).group g = groupAfter s [i] .superseded g) ∧
    (s.accept i a).trunk.queue = s.trunk.queue ++ outcomeAnswers s [i] .superseded
      ++ (if reached then [slotAnswer i a .done] else []) ∧
    (s.accept i a).trunk.reservations = s.trunk.reservations - (outcomeAnswers s [i] .superseded).length
      + (if reached then 0 else 1) := by
  have given := outcomesGiven_one groups i .superseded (t := s) rfl rfl rfl
  obtain ⟨u, hu⟩ : ∃ u, u = (s.posed i a).proceed i false := ⟨_, rfl⟩
  have group : ∀ g, u.group g = groupAfter s [i] .superseded g := fun g => by
    rw [hu, ← given.group g]; simp [State.posed]
  have queue : u.trunk.queue = s.trunk.queue ++ outcomeAnswers s [i] .superseded := by
    rw [hu, ← given.queue]; simp [State.posed, controller, State.reserveFor]
  have spent : u.trunk.reservations = s.trunk.reservations - (outcomeAnswers s [i] .superseded).length + 1 := by
    rw [hu, ← given.spent]; simp [State.posed, controller, State.reserveFor]
  have active : (u.slot i).active = some a := by
    rw [hu, ((s.posed i a).proceed_moved i false).1, posed_slot, if_pos rfl]
  rw [State.accept_eq, ← hu, State.completeIfReached, active]
  rw [← hu] at reaches
  dsimp only
  cases reached with
  | true =>
    rw [if_pos (reaches.2 rfl)]
    obtain ⟨answered, freed, same⟩ := u.giveOutcome_controller active controller .done
    refine ⟨fun g => (State.group_congr same g).trans (group g), by rw [answered, queue]; rfl, ?_⟩
    rw [freed, spent]
    simp
  | false =>
    rw [if_neg fun e => by cases reaches.1 e]
    exact ⟨group, by simpa using queue, spent⟩

/-- Settles O12: the former request is superseded, and the new one is recorded or, where the slot stands at its target,
answered DONE. -/
theorem acceptedRequestRecorded : Obligations.AcceptedRequestRecorded := by
  intro s i f c k p tgt command frame priority account heads groups
  obtain ⟨present, run, serves, sound, marked⟩ := frame.acceptable
  have request := requestOf_eq frame
  rw [framePriority_eq priority] at request
  obtain ⟨a, ha⟩ : ∃ a : ActiveRequest, a = ⟨.controller, f.tag, k, tgt, deadlineOf s f, p⟩ := ⟨_, rfl⟩
  have target : a.target = tgt := by rw [ha]
  have reaches := posed_reached (a := a) account present run serves sound (fun m => by rw [target]; exact marked m)
    (heads i)
  rw [target] at reaches
  obtain ⟨-, grants⟩ := accepted_calm frame account a
  have written := accept_rewritten s i a
  have recorded := filter_reached (reaches := by rw [target]; exact reaches)
  obtain ⟨group, queue, spent⟩ := accept_controller (a := a) groups (by rw [ha]) (by rw [target]; exact reaches)
  have kind : byte k.val = f.kind := by
    have := f.kind.isLt
    rw [frame.kind]
    exact BitVec.eq_of_toNat_eq (by simp [byte])
  have moved := written.movedBy grants
  rw [recorded] at moved
  refine ⟨_, by rw [exec_acceptedFrame command frame, request, ← ha], written.concluded grants, ?_, fun g => ?_, ?_, ?_, ?_,
    ?_, fun j other => written.spared grants other⟩
  · rw [grants.mgmt]; simp
  · exact (State.group_congr grants.groups g).trans (group g)
  · rw [ha] at moved ⊢
    exact moved
  · rw [grants.trunk, queue, ha]
    simp [slotAnswer, kind]
  · rw [grants.trunk, spent]
  · rw [grants.emergency, accept_emergency]

/-! ### The move (R13 to R18, R34, R37) -/

theorem sum_map_filter {α : Type} (l : List α) (p : α → Bool) (x y : α → Nat)
    (h : ∀ e ∈ l, x e = y e + if p e = true then x e else 0) : (l.map x).sum = (l.map y).sum + ((l.filter p).map x).sum := by
  induction l with
  | nil => rfl
  | cons e l ih =>
    have here := h e (by simp)
    have rest := ih fun e m => h e (by simp [m])
    by_cases counted : p e = true
    · rw [List.filter_cons_of_pos counted]
      simp only [counted, if_true] at here
      simp only [List.map_cons, List.sum_cons]
      omega
    · rw [List.filter_cons_of_neg counted]
      simp only [if_neg counted] at here
      simp only [List.map_cons, List.sum_cons]
      omega

/-- The reservation total rises by the draws of the slots that are granted. -/
theorem total_of_grants {o : State} (account : AccountKept s) (after : AccountKept o) (grants : GrantsOnly o t)
    (same : ∀ j, (o.slot j).reservation = (s.slot j).reservation)
    (up : ∀ j, (o.slot j).state = .spinningUp → (s.slot j).state = .spinningUp)
    (queued : ∀ j, (o.slot j).state = .queued → (s.slot j).state ≠ .spinningUp) :
    t.arbiter.reservationTotal = s.arbiter.reservationTotal
      + ((allSlots.filter fun j => decide ((t.slot j).state = .spinningUp ∧ (s.slot j).state ≠ .spinningUp)).map
          fun j => (t.slot j).reservation).sum := by
  rw [account.total, grants.account.total]
  refine sum_map_filter allSlots _ _ _ fun j _ => ?_
  rcases grants.slots j with e | e
  · rw [e.1, same, if_neg]
    · simp
    · simpa using up j
  · have free : (s.slot j).reservation = 0 := by
      rw [← same, (after.slots j).reservation, e.waited]; rfl
    rw [if_pos (by simp [e.slot, queued j e.waited]), free, Nat.zero_add]

/-- The draw kept follows the state that a slot is spun down from (R10, R14, R17). -/
theorem proceed_drawKept (s : State) (i : SlotId) (onset : Bool) (down : ((s.proceed i onset).slot i).state = .spinningDown) :
    ((s.slot i).state = .spinningUp → ((s.proceed i onset).slot i).drawKept = .spinUp) ∧
      ((s.slot i).state = .parked → ((s.proceed i onset).slot i).drawKept = .running) := by
  have taken := proceedStep s i onset
  generalize s.proceed i onset = t at taken down ⊢
  cases taken with
  | stays => refine ⟨fun st => ?_, fun st => ?_⟩ <;> rw [st] at down <;> cases down
  | raised st => simp [st]
  | withdrawn st => simp [st]
  | spunDown kept st =>
    rcases st with ⟨st, rfl⟩ | ⟨st, rfl⟩ <;> simp [st, State.spinDown_slot]
  | loads st => simp [State.enterState_slot] at down
  | unloads st => simp [State.unloadHeads_slot] at down

/-- A slot that waits and is to go up keeps its place. -/
theorem proceed_queued (s : State) (i : SlotId) (waits : (s.slot i).state = .queued) (up : s.effectiveTarget i ≠ .stopped) :
    s.proceed i false = s := by
  simp [State.proceed, waits, up]

/-- Settles O13: the rule of the slot's state, which changes no reservation, and the grants that conclude the event. -/
theorem acceptedRequestMovesSlot : Obligations.AcceptedRequestMovesSlot := by
  intro s i f c k tgt command frame account lanes
  obtain ⟨present, run, serves, sound, marked⟩ := frame.acceptable
  obtain ⟨a, ha⟩ : ∃ a, a = s.requestOf i f s.kindMap[k] := ⟨_, rfl⟩
  have target : a.target = tgt := by rw [ha, requestOf_eq frame]
  obtain ⟨after, grants⟩ := accepted_calm frame account a
  have written := accept_rewritten s i a
  have sameState := State.completeIfReached_slot ((s.posed i a).proceed i false) i i
  rw [if_pos rfl, ← State.accept_eq] at sameState
  have posed := posed_slot s i i a
  rw [if_pos rfl] at posed
  have untouched : ((concludeEvent s (s.accept i a)).slot i).state = .spinningDown →
      Untouched (s.accept i a) (concludeEvent s (s.accept i a)) i := fun down => by
    rcases grants.slots i with e | e
    · exact e
    · rw [e.slot] at down; cases down
  have drawKept : ((concludeEvent s (s.accept i a)).slot i).state = .spinningDown →
      ((s.slot i).state = .spinningUp → ((concludeEvent s (s.accept i a)).slot i).drawKept = .spinUp) ∧
        ((s.slot i).state = .parked → ((concludeEvent s (s.accept i a)).slot i).drawKept = .running) := fun down => by
    have still := (untouched down).1
    rw [still, sameState] at down ⊢
    have kept := proceed_drawKept (s.posed i a) i false down
    rwa [posed] at kept
  have up : ∀ j, ((s.accept i a).slot j).state = .spinningUp → (s.slot j).state = .spinningUp := fun j rises => by
    by_cases own : j = i
    · subst own
      rw [sameState] at rises
      have before := spinningUp_of_proceed rises
      rwa [posed] at before
    · rwa [(written.others j own).1] at rises
  have queued : ∀ j, ((s.accept i a).slot j).state = .queued → (s.slot j).state ≠ .spinningUp := fun j waits => by
    by_cases own : j = i
    · subst own
      rw [written.state] at waits
      intro st
      rw [st] at waits
      cases target : (s.accept j a).effectiveTarget j <;> rw [target] at waits <;> cases waits
    · rw [(written.others j own).1] at waits
      simp [waits]
  refine ⟨_, by rw [exec_acceptedFrame command frame, ← ha], written.proceeded grants, written.awaits grants (lanes i) rfl,
    fun x m => grants.outstanding (written.tags x m), fun st down => (drawKept down).1 st, fun st down => (drawKept down).2 st,
    fun st high => ?_, fun low => ?_,
    total_of_grants account after grants (accept_reservation account present sound a) up queued⟩
  · have high' : (s.posed i a).effectiveTarget i ≠ .stopped := by
      rcases posed_target (a := a) serves (fun m => by rw [target]; exact marked m) with same | ⟨-, low, -⟩
      · rw [same, target]; exact high
      · rw [low]; simp
    have stays := proceed_queued (s.posed i a) i (by rw [posed]; exact st) high'
    have still : concludeEvent s (s.accept i a) = s.accept i a :=
      written.still account after (accept_reservation account present sound a i) fun _ => st
    rw [still, State.accept_eq, stays]
    simp [State.posed]
  · rw [(grants.account.slots i).queued, low]
    rfl

/-! ### The queue joined (R31, R32) -/

theorem queueChoice_controller {a : ActiveRequest} (active : (s.slot i).active = some a) (controller : a.origin = .controller)
    (high : a.target ≠ .stopped) : s.queueChoice i = (s.arbiter.priorityMap[a.priority], some a.priority) := by
  unfold State.queueChoice
  rw [active]
  dsimp only
  rw [if_neg high, controller]

/-- The queues after slot `i` has been raised. -/
theorem raised_queues (s : State) (i : SlotId) (q : Fin 4) : ((s.enterState i .queued).enqueue i).arbiter.queues[q] =
    if q = (s.queueChoice i).1 then s.arbiter.queues[q] ++ [⟨i, (s.queueChoice i).2⟩] else s.arbiter.queues[q] := by
  have choice : (s.enterState i .queued).queueChoice i = s.queueChoice i := by
    simp [State.queueChoice, State.enterState_slot]
  have queues : (s.enterState i .queued).arbiter.queues = s.arbiter.queues := by simp
  rw [State.enqueue_queue, choice]
  simp only [queues]

theorem proceed_raised (s : State) (i : SlotId) (stopped : (s.slot i).state = .stopped) (run : s.mgmt.mode = .run)
    (up : s.effectiveTarget i ≠ .stopped) : s.proceed i false = (s.enterState i .queued).enqueue i := by
  simp [State.proceed, stopped, run, up]

/-- While the stagger refuses, an event concludes with no grant. -/
theorem concludeEvent_of_early {o : State} (early : o.staggerPassed = false)
    (total : o.arbiter.reservationTotal = s.arbiter.reservationTotal) (ceiling : o.ceilingInForce = s.ceilingInForce) :
    ∃ e, concludeEvent s o = { o with arbiter := { o.arbiter with staggerExpiry := e } } := by
  unfold concludeEvent
  split
  · obtain ⟨e, look⟩ := look_of_early early
    exact ⟨e, by rw [look]; exact testIfChanged_of_same total ceiling⟩
  · exact ⟨o.arbiter.staggerExpiry, testIfChanged_of_same total ceiling⟩

theorem staggerPassed_early {last : Nat} (granted : s.arbiter.lastGrant = some last)
    (early : s.now < last + 10 * s.arbiter.staggerInterval) : s.staggerPassed = false := by
  rw [Bool.eq_false_iff, ne_eq, s.staggerPassed_iff]
  intro all
  have := all last granted
  omega

/-- Settles O14: the slot is enqueued with the request's priority, and the look that follows is refused by the stagger. -/
theorem requestJoinsQueueTail : Obligations.RequestJoinsQueueTail := by
  intro s i f c k p tgt last command frame priority account stopped high granted early
  obtain ⟨present, run, serves, sound, marked⟩ := frame.acceptable
  have request := requestOf_eq frame
  rw [framePriority_eq priority] at request
  obtain ⟨a, ha⟩ : ∃ a : ActiveRequest, a = ⟨.controller, f.tag, k, tgt, deadlineOf s f, p⟩ := ⟨_, rfl⟩
  have target : a.target = tgt := by rw [ha]
  have posed := posed_slot s i i a
  rw [if_pos rfl] at posed
  have event := slotEvent_iff.1 (posed_event s i a)
  obtain ⟨now, -, -, -, -, -, -, -, map, -, -, -, -, interval, -, -, -, mode, -, -⟩ := event
  have up : (s.posed i a).effectiveTarget i ≠ .stopped := by
    rcases posed_target (a := a) serves (fun m => by rw [target]; exact marked m) with same | ⟨-, low, -⟩
    · rw [same, target]; exact high
    · rw [low]; simp
  have raised := proceed_raised (s.posed i a) i (by rw [posed]; exact stopped) (by rw [mode]; exact run) up
  obtain ⟨o, ho⟩ : ∃ o, o = s.accept i a := ⟨_, rfl⟩
  have written : Rewritten s i _ o := ho ▸ accept_rewritten s i a
  obtain ⟨after, -⟩ := accepted_calm frame account a
  have arbiter : o.arbiter = (((s.posed i a).enterState i .queued).enqueue i).arbiter := by
    rw [ho, State.accept_eq, raised]; simp
  have choice : (s.posed i a).queueChoice i = (s.arbiter.priorityMap[p], some p) := by
    have active : ((s.posed i a).slot i).active = some a := by rw [posed]
    rw [queueChoice_controller active (by rw [ha]) (by rw [target]; exact high)]
    have used : a.priority = p := by rw [ha]
    simp only [map, used]
  have state : (o.slot i).state = .queued := by
    rw [ho, State.accept_eq, raised, State.completeIfReached_slot, if_pos rfl]
    simp [State.enterState_slot]
  have lastGrant : o.arbiter.lastGrant = some last := by rw [arbiter, ← granted]; simp [State.posed]
  obtain ⟨e, concluded⟩ := concludeEvent_of_early (s := s) (o := o)
    (staggerPassed_early lastGrant (by
      obtain ⟨now, -, -, -, -, -, -, -, -, -, -, -, -, interval, -⟩ := slotEvent_iff.1 written.event
      rw [now, interval]; exact early))
    (total_congr account (ho ▸ after) fun j => ho ▸ accept_reservation account present sound a j) written.event.ceiling
  have queues : ∀ q : Fin 4, o.arbiter.queues[q] = if q = s.arbiter.priorityMap[p]
      then s.arbiter.queues[q] ++ [⟨i, some p⟩] else s.arbiter.queues[q] := fun q => by
    have before : (s.posed i a).arbiter.queues = s.arbiter.queues := by simp [State.posed]
    have joined := raised_queues (s.posed i a) i q
    rw [choice] at joined
    simp only [before] at joined
    simp only [arbiter]
    exact joined
  refine ⟨{ o with arbiter := { o.arbiter with staggerExpiry := e } },
    by rw [exec_acceptedFrame command frame, request, ← ha, ← ho, concluded], state, lastGrant, ?_, ?_, written.others⟩
  · exact (queues _).trans (if_pos rfl)
  · exact fun q other => (queues q).trans (if_neg other)

end

end Sys2Proof.Machine
end

section
/-! PROOFS. The ends of the ops of a lane that move no slot: those of a FIRST and of a RESIDUAL op (R21, R55, R56, R59). -/

namespace Sys2Proof.Machine

/-! ### The lane's side (R55, R56) -/

/-- The lane record once the first op of its pair has ended: a FIRST op gives its place to the preempting op, a RESIDUAL op
releases the held command. -/
def LaneRecord.pairSettled (r : LaneRecord) (g : GovernedRecord) (o : OpOutcome) (now : Nat) (duration : GovernedOp → Nat) :
    LaneRecord :=
  if g.role = .first then r.settleFirst g o else r.settleResidual g o now duration

theorem LaneRecord.settleResidual_of_none {r : LaneRecord} (unheld : r.held = none) (g : GovernedRecord) (o : OpOutcome)
    (now : Nat) (duration : GovernedOp → Nat) : r.settleResidual g o now duration =
      { r with lastPreempted := some ⟨g.op, g.tag, o⟩, governed := none } := by
  simp [LaneRecord.settleResidual, unheld]

theorem LaneRecord.settleResidual_of_held {r : LaneRecord} {op : GovernedOp} (held : r.held = some op) (g : GovernedRecord)
    (o : OpOutcome) (now : Nat) (duration : GovernedOp → Nat) : r.settleResidual g o now duration =
      LaneRecord.issueGoverned { r with lastPreempted := some ⟨g.op, g.tag, o⟩, governed := none, held := none } op now
        (duration op) := by
  simp [LaneRecord.settleResidual, held]

/-- What the end of the first op of a pair makes of its lane record. -/
structure PairEnded (r t : LaneRecord) (g : GovernedRecord) (o : OpOutcome) (now : Nat) (duration : GovernedOp → Nat) :
    Prop where
  recorded : t.lastPreempted = some ⟨g.op, g.tag, o⟩
  alone : t.preempting = none ∧ t.held = none
  plain : t.plain = r.plain
  retired : t.retired = r.retired
  second : g.role = .first → t.governed = r.preempting.map fun p => ⟨p.op, p.tag, p.issued, p.deadline, .sole⟩
  quiet : g.role = .first ∨ r.held = none → t.lastTag = r.lastTag ∧ t.transmitted = r.transmitted
  free : g.role = .residual → r.held = none → t.governed = none
  released : g.role = .residual → ∀ op ∈ r.held,
    t.governed = some ⟨op, t.lastTag, now, now + duration op, .sole⟩ ∧ FirstFree { r with governed := none } t.lastTag ∧
      t.transmitted = r.transmitted ++ [.governed op t.lastTag]

theorem pairEnded_of_position {r : LaneRecord} {g : GovernedRecord} (governed : r.governed = some g) (role : g.role ≠ .sole)
    (position : r.position) (short : r.retired.length ≤ Config.retiredMax) (o : OpOutcome) (now : Nat)
    (duration : GovernedOp → Nat) : PairEnded r (r.pairSettled g o now duration) g o now duration := by
  unfold LaneRecord.pairSettled
  cases pair : g.role with
  | sole => exact absurd pair role
  | first =>
    simp only [LaneRecord.position, governed, pair] at position
    constructor <;> simp [LaneRecord.settleFirst, pair, position.1]
  | residual =>
    simp only [LaneRecord.position, governed, pair] at position
    rw [if_neg (by simp)]
    cases held : r.held with
    | none =>
      rw [LaneRecord.settleResidual_of_none held]
      constructor <;> simp [held, pair, position.1]
    | some op =>
      have fresh := LaneRecord.freshTag_firstFree
        { r with lastPreempted := some ⟨g.op, g.tag, o⟩, governed := none, held := none } short
      rw [position.1] at fresh
      rw [LaneRecord.settleResidual_of_held held]
      constructor <;> simp [LaneRecord.issueGoverned, held, pair, position.1]
      exact firstFree_congr rfl rfl rfl fresh

/-! ### The events (R56, R59) -/

section
variable {s : State} {i : SlotId} {g : GovernedRecord}

/-- The retired tags after an op's end: a TIMEOUT retires its tag (R52). -/
def retiredAt (retired : List Byte) (tag : Byte) (o : OpOutcome) : List Byte :=
  if o = .timeout then retireTag retired tag else retired

/-- The lane record rewritten by the end of the first op of its pair. -/
def LaneRecord.pairEnd (r : LaneRecord) (g : GovernedRecord) (o : OpOutcome) (now : Nat) (duration : GovernedOp → Nat) :
    LaneRecord :=
  LaneRecord.pairSettled { r with retired := retiredAt r.retired g.tag o } g o now duration

theorem settleGoverned_pair (role : g.role ≠ .sole) (o : OpOutcome) (report : Option Byte) :
    s.settleGoverned i g o report = s.modifyLane i fun r => r.pairSettled g o s.now (opDuration (s.profileOf i)) := by
  cases pair : g.role with
  | sole => exact absurd pair role
  | first => simp [State.settleGoverned, LaneRecord.pairSettled, pair]
  | residual => simp [State.settleGoverned, LaneRecord.pairSettled, pair]

theorem concludeEvent_modifyLane (s : State) (i : SlotId) (f : LaneRecord → LaneRecord) :
    concludeEvent s (s.modifyLane i f) = s.modifyLane i f := concludeEvent_of_quiet rfl rfl rfl rfl

theorem exec_completion_pair (governed : (s.lane i).governed = some g) (role : g.role ≠ .sole) (o : CompletionOutcome)
    {payload : List Byte} (short : payload.length ≤ Config.payloadMax) : exec (.completion i g.tag o payload) s =
      .next (s.modifyLane i fun r => r.pairEnd g (opEnd o) s.now (opDuration (s.profileOf i))) := by
  have answered : opEnd o ≠ .timeout := by cases o <;> simp [opEnd]
  have rewritten : (fun r : LaneRecord => r.pairEnd g (opEnd o) s.now (opDuration (s.profileOf i))) =
      fun r => r.pairSettled g (opEnd o) s.now (opDuration (s.profileOf i)) := by
    funext r; simp [LaneRecord.pairEnd, retiredAt, answered]
  change execCompletion i g.tag o payload s = _
  rw [execCompletion, if_pos short, State.takeCompletion, LaneRecord.Kept.find_governed governed, rewritten]
  dsimp only
  rw [settleGoverned_pair role, concludeEvent_modifyLane]

theorem exec_deadline_pair (governed : (s.lane i).governed = some g) (role : g.role ≠ .sole) (due : g.deadline ≤ s.now) :
    exec (.opDeadlineExpiry i g.tag) s =
      .next (s.modifyLane i fun r => r.pairEnd g .timeout s.now (opDuration (s.profileOf i))) := by
  change execOpDeadlineExpiry i g.tag s = _
  rw [execOpDeadlineExpiry, State.takeDeadline, LaneRecord.Kept.find_governed governed]
  dsimp only
  rw [if_pos due, settleGoverned_pair role, State.retire, State.modifyLane_modifyLane, State.modifyLane_now,
    State.modifyLane_profileOf, concludeEvent_modifyLane]
  rfl

/-- Settles O35: each of the four events rewrites the lane record alone. -/
theorem firstOpsMoveNothing : Obligations.FirstOpsMoveNothing := by
  intro s i g o c payload governed role kept short event
  have run : exec c s = .next (s.modifyLane i fun r => r.pairEnd g o s.now (opDuration (s.profileOf i))) := by
    rcases event with ⟨rfl, rfl⟩ | ⟨code, rfl, rfl⟩ | ⟨rfl, rfl⟩ | ⟨rfl, due, rfl⟩
    · exact exec_completion_pair governed role .done short
    · exact exec_completion_pair governed role (.failed code) short
    · exact exec_completion_pair governed role .aborted short
    · exact exec_deadline_pair governed role due
  obtain ⟨held, length, -⟩ := retireTag_spec (s.lane i).retired g.tag kept.retired.2
  have room : (retiredAt (s.lane i).retired g.tag o).length ≤ Config.retiredMax := by
    unfold retiredAt
    split
    · exact length
    · exact kept.retired.2
  obtain ⟨recorded, ⟨alone, unheld⟩, plain, retired, second, quiet, free, released⟩ :=
    pairEnded_of_position (r := { s.lane i with retired := retiredAt (s.lane i).retired g.tag o }) governed role
      kept.position room o s.now (opDuration (s.profileOf i))
  refine ⟨_, run, rfl, fun j other => State.lane_modifyLane_of_ne _ other _, ?_⟩
  rw [State.lane_modifyLane_self, LaneRecord.pairEnd]
  refine ⟨recorded, alone, unheld, plain, fun answered => ?_, fun late => ?_, second, quiet, free, ?_⟩
  · rw [retired]; simp [retiredAt, answered]
  · rw [retired]; simp only [retiredAt, late, if_true]; exact ⟨held, length⟩
  · rw [retired]; exact released

end

end Sys2Proof.Machine
end

section
/-! PROOFS. FAULT: the awaited op that fails, is aborted or times out, and the CARRIER_FAULT beacon (R17 to R20, R23, R24,
R26, R59, R61). -/

namespace Sys2Proof.Machine

/-! ### What concludes an event -/

section
variable {s o w : State} {i j : SlotId}

/-- Without a new mark the conclusion of an event leaves the trunk port and the group records as they were. -/
theorem concludeEvent_unmarked (after : AccountKept o)
    (marks : ∀ j, ((concludeEvent s o).slot j).shedMark = true → (o.slot j).shedMark = true) :
    (concludeEvent s o).trunk = o.trunk ∧ (concludeEvent s o).groups = o.groups := by
  obtain ⟨u, grants, marked, -⟩ := concludeEvent_stages s after
  rcases marked.still with ⟨trunk, groups⟩ | ⟨j, new⟩
  · exact ⟨trunk.trans grants.trunk, groups.trans grants.groups⟩
  · have unmarked := new.unmarked
    rw [(grants.configured j).2.2, marks j new.marked] at unmarked
    cases unmarked

/-- The conclusion of an event adds answers at the tail of the trunk port's queue. -/
theorem concludeEvent_queue (s : State) (after : AccountKept o) : o.trunk.queue <+: (concludeEvent s o).trunk.queue := by
  obtain ⟨u, grants, marked, -⟩ := concludeEvent_stages s after
  rw [← grants.trunk]
  exact marked.queue

/-- The conclusion of an event leaves a slot that does not wait and has no reservation. -/
theorem concludeEvent_untouched (s : State) (after : AccountKept o) (out : (o.slot i).state ≠ .queued)
    (none : (o.slot i).reservation = 0) : Untouched o (concludeEvent s o) i := by
  obtain ⟨u, grants, marked, -⟩ := concludeEvent_stages s after
  have still : Untouched o u i := (grants.slots i).resolve_right fun granted => out granted.waited
  exact still.trans (marked.untouched (by rw [still.1]; exact none))

/-- An event that has been a grant opportunity grants the first entry not frozen, where its draw fits. -/
theorem concludeEvent_grants (after : AccountKept o) (opportunity : grantOpportunity s o = true)
    (now : o.now = s.now) (mode : o.mgmt.mode = s.mgmt.mode) (queues : o.arbiter.queues = s.arbiter.queues)
    (last : o.arbiter.lastGrant = s.arbiter.lastGrant) (interval : o.arbiter.staggerInterval = s.arbiter.staggerInterval)
    (frozen : ∀ j, o.frozen j = w.frozen j) (profile : o.profileOf j = s.profileOf j) (next : NextGrant s w j)
    (fits : o.arbiter.reservationTotal + (s.profileOf j).spinUpDraw ≤ o.ceilingInForce) :
    Granted s (concludeEvent s o) j := by
  have candidate := candidate_of_next queues frozen next
  obtain ⟨run, passed, -⟩ := next
  have ready : o.staggerPassed = true := o.staggerPassed_iff.2 fun x m => by
    rw [now, interval, Nat.mul_comm]
    exact passed x (last ▸ m)
  have granted := granted_of_look after (mode.trans run) candidate ((o.drawFits_iff j).2 (by rw [profile]; exact fits)) ready
  have concluded : concludeEvent s o = o.look ∨ concludeEvent s o = o.look.setOverCeiling false := by
    unfold concludeEvent
    rw [if_pos opportunity]
    exact testIfChanged_calm (GrantsOnly.refl after).look (.inl (by omega))
  unfold Granted at granted ⊢
  rw [now, profile] at granted
  rcases concluded with e | e <;> rw [e]
  · exact granted
  · exact granted

end

/-! ### Faults (R26, R61) -/

/-- The tags of the governed side are retired when it is abandoned. -/
theorem LaneRecord.abandonGoverned_retires (r : LaneRecord) : ∀ t ∈ r.governedTags, t ∈ r.abandonGoverned.retired := by
  intro t out
  have short : r.governedTags.length ≤ 8 := by
    simp only [LaneRecord.governedTags, List.length_append, Option.length_toList]
    cases r.governed <;> cases r.preempting <;> simp
  have held := suffix_foldl_retireTag r.governedTags [] r.retired List.nil_suffix (by simpa [Config.retiredMax] using short)
  exact held.subset (by simpa using out)

section
variable {s o : State} {i : SlotId} {tag : Byte} {op : GovernedOp} {deadline : Nat} {c : Instr} {cause : FaultCause}
  {code : AnswerCode}

/-- The functions `f` before and `h` after an entry to FAULT abandon the governed side of every lane record. -/
def Abandons (f h : LaneRecord → LaneRecord) : Prop := ∀ r : LaneRecord, ∃ tags, h (f r).abandonGoverned =
  { r with governed := none, preempting := none, held := none, retired := tags }

/-- An entry to FAULT whose lane the functions `f` and `h` rewrite before and after. -/
def State.faultOn (s : State) (i : SlotId) (cause : FaultCause) (f h : LaneRecord → LaneRecord) : State :=
  ((s.modifyLane i f).enterFault i cause).modifyLane i h

theorem modifyLane_id (s : State) (i : SlotId) : s.modifyLane i id = s := by
  simp [State.modifyLane, State.lane]

theorem faultOn_id (s : State) (i : SlotId) (cause : FaultCause) : s.faultOn i cause id id = s.enterFault i cause := by
  rw [State.faultOn, modifyLane_id, modifyLane_id]

theorem faultOn_slot (s : State) (i j : SlotId) (cause : FaultCause) (f h : LaneRecord → LaneRecord) :
    (s.faultOn i cause f h).slot j = if j = i then { s.slot i with
        state := .fault, powerSwitch := false, reservation := 0, shedMark := false, active := none
        faultCause := some cause } else s.slot j := by
  simp [State.faultOn, State.enterFault_slot]

theorem faultOn_lane (s : State) (i j : SlotId) (cause : FaultCause) (f h : LaneRecord → LaneRecord) :
    (s.faultOn i cause f h).lane j = if j = i then h (f (s.lane i)).abandonGoverned else s.lane j := by
  unfold State.faultOn
  by_cases own : j = i
  · subst own; simp [State.enterFault_lane]
  · simp [own, State.enterFault_lane]

theorem faultOn_event (s : State) (i : SlotId) (cause : FaultCause) (f h : LaneRecord → LaneRecord) :
    SlotEvent s (s.faultOn i cause f h) :=
  (slotEvent_modifyLane s i f).trans ((slotEvent_enterFault _ i cause).trans (slotEvent_modifyLane _ i h))

theorem faultOn_arbiter (s : State) (i : SlotId) (cause : FaultCause) (f h : LaneRecord → LaneRecord) :
    (s.faultOn i cause f h).arbiter = { s.arbiter with
      reservationTotal := s.arbiter.reservationTotal - (s.slot i).reservation } := by
  simp [State.faultOn, State.enterFault, State.enterState, State.setReservation, reservationIn]

theorem accountKept_faultOn (account : AccountKept s) (on : (s.slot i).state.powered = true) (cause : FaultCause)
    (f h : LaneRecord → LaneRecord) : AccountKept (s.faultOn i cause f h) := by
  have rewritten : AccountKept (s.modifyLane i f) := accountKept_congr account rfl rfl rfl rfl
  exact accountKept_congr (accountKept_enterFault rewritten (by simpa using on) cause) rfl rfl rfl rfl

theorem outcomesGiven_faultOn (groups : GroupsKept s) (i : SlotId) (cause : FaultCause) (f h : LaneRecord → LaneRecord) :
    OutcomesGiven s [i] cause.outcome (s.faultOn i cause f h) := by
  unfold State.faultOn State.enterFault
  refine (outcomesGiven_one groups i cause.outcome ?_ ?_ ?_).congr rfl rfl <;> simp [State.enterState_slot]

/-- What an entry to FAULT and the conclusion of its event leave. -/
theorem faultOn_concluded (account : AccountKept s) (on : (s.slot i).state.powered = true) (cause : FaultCause)
    (f h : LaneRecord → LaneRecord)
    (lane : Abandons f h) :
    let t := concludeEvent s (s.faultOn i cause f h)
    SlotEvent s t ∧ Faulted s t i cause ∧ (∀ j, j ≠ i → Spared s t j) ∧ (t.lane i) = h (f (s.lane i)).abandonGoverned ∧
      (GroupsKept s → s.trunk.queue ++ outcomeAnswers s [i] cause.outcome <+: t.trunk.queue ∧
        ((∀ j, j ≠ i → (t.slot j).shedMark = (s.slot j).shedMark) → ∀ g, t.group g = groupAfter s [i] cause.outcome g)) := by
  obtain ⟨o, ho⟩ : ∃ o, o = s.faultOn i cause f h := ⟨_, rfl⟩
  have slot := fun j => faultOn_slot s i j cause f h
  have lanes := fun j => faultOn_lane s i j cause f h
  have after := accountKept_faultOn account on cause f h
  have event := faultOn_event s i cause f h
  have raised : (s.faultOn i cause f h).mgmt.flags = s.mgmt.flags.raise .slotFault := by simp [State.faultOn]
  have given := fun groups => outcomesGiven_faultOn (s := s) groups i cause f h
  rw [← ho] at slot lanes after event raised given ⊢
  have own := slot i
  have ownLane := lanes i
  rw [if_pos rfl] at own ownLane
  have still := concludeEvent_untouched s after (i := i) (by rw [own]; simp) (by rw [own])
  have flag : (concludeEvent s o).mgmt.flags.slotFault = true := by
    have kept := concludeEvent_flag s o (f := .slotFault) (by simp)
    simp only [EventFlags.get, raised, EventFlags.raise] at kept
    exact kept
  refine ⟨event.trans (concludeEvent_event s o), ⟨by rw [still.1, own], ?_, flag⟩, fun j other => ?_, by rw [still.2, ownLane],
    fun groups => ⟨?_, fun same g => ?_⟩⟩
  · obtain ⟨tags, record⟩ := lane (s.lane i)
    rw [still.2, ownLane, record]
  · exact concludeEvent_spared after ⟨by rw [slot, if_neg other], by rw [lanes, if_neg other]⟩
  · rw [← (given groups).queue]
    exact concludeEvent_queue s after
  · obtain ⟨-, records⟩ := concludeEvent_unmarked (s := s) after fun j marked => by
      by_cases other : j = i
      · rw [other, still.1] at marked; rwa [other]
      · rw [same j other] at marked
        rw [slot, if_neg other]; exact marked
    exact (State.group_congr records g).trans ((given groups).group g)

/-- The reservation that a FAULT gives up lets the arbiter grant. -/
theorem faultOn_grants (account : AccountKept s) (on : (s.slot i).state.powered = true) (cause : FaultCause)
    (f h : LaneRecord → LaneRecord) (given : 0 < (s.slot i).reservation) {j : SlotId} (next : NextGrant s s j)
    (fits : s.arbiter.reservationTotal - (s.slot i).reservation + (s.profileOf j).spinUpDraw ≤ s.ceilingInForce) :
    Granted s (concludeEvent s (s.faultOn i cause f h)) j := by
  have event := faultOn_event s i cause f h
  have arbiter := faultOn_arbiter s i cause f h
  have slot := fun k => faultOn_slot s i k cause f h
  obtain ⟨now, -, -, -, -, -, zones, -, -, -, -, -, -, -, -, -, -, mode, -, -⟩ := slotEvent_iff.1 event
  have part : (s.slot i).reservation ≤ s.arbiter.reservationTotal := by
    rw [account.total]
    exact List.single_le_sum (by simp) _ (List.mem_map_of_mem (mem_allSlots i))
  refine concludeEvent_grants (w := s) (accountKept_faultOn account on cause f h) ?_ now mode (by rw [arbiter])
    (by rw [arbiter]) (by rw [arbiter]) (fun k => ?_) ?_ next ?_
  · have less : (s.faultOn i cause f h).arbiter.reservationTotal < s.arbiter.reservationTotal := by rw [arbiter]; dsimp only; omega
    simp [grantOpportunity, less]
  · have zone := event.standingOf (j := k) (by rw [slot]; split <;> simp_all)
    simp only [State.frozen, zone]
  · exact event.profileOf (by rw [slot]; split <;> simp_all)
  · rw [event.ceiling, arbiter]; exact fits

/-- Settles O39: the beacon enters FAULT in the states whose switch is on. -/
theorem carrierFaultEntersFault : Obligations.CarrierFaultEntersFault := by
  intro s i code
  refine ⟨fun on account groups => ?_, fun off => ?_⟩
  · have powered : (s.slot i).state.powered = true := by
      simp only [List.mem_cons, List.not_mem_nil, or_false] at on
      rcases on with e | e | e | e | e | e | e <;> rw [e] <;> rfl
    obtain ⟨event, faulted, spared, lane, outcomes⟩ := faultOn_concluded account powered (.carrierFault code) id id
      (fun r => ⟨r.abandonGoverned.retired, rfl⟩)
    obtain ⟨queue, records⟩ := outcomes groups
    have retires := LaneRecord.abandonGoverned_retires (s.lane i)
    refine ⟨_, ?_, event, faulted, spared, queue, records, fun g m => ?_, fun p m => ?_⟩
    · change execCarrierFault i code s = _
      rw [execCarrierFault, if_pos powered, faultOn_id]
    · rw [lane]
      exact retires g.tag (((s.lane i).mem_governedTags _).2 (.inl ⟨g, m, rfl⟩))
    · rw [lane]
      exact retires p.tag (((s.lane i).mem_governedTags _).2 (.inr ⟨p, m, rfl⟩))
  · change execCarrierFault i code s = _
    have off_ : (s.slot i).state.powered = false := by
      simp only [List.mem_cons, List.not_mem_nil, or_false] at off
      rcases off with e | e | e | e <;> rw [e] <;> rfl
    rw [execCarrierFault, off_]
    rfl

/-! ### The op that the slot waits on (R56 to R59) -/

/-- The outcome of a command's op is the one its request receives. -/
theorem FailsWith.outcome (h : FailsWith s i tag op deadline c cause code) : cause.outcome = code := by
  cases h <;> cases op <;> rfl

/-- The end of an op other than DONE with a state to take. -/
inductive OpFails (op : GovernedOp) : OpOutcome → Option Byte → FaultCause → Prop
  | failed (code : Byte) (report : Option Byte) : OpFails op (.failed code) report (failureCause op code)
  | aborted (report : Option Byte) : OpFails op .aborted report (failureCause op 0)
  | otherState (p : List Byte) : arrival op p = none → OpFails op .done p.head? (.carrierFault 0)
  | timeout (report : Option Byte) : OpFails op .timeout report (timeoutCause op)

/-- What a QUERY's DONE reports is the state to take. -/
theorem reportedState_eq (p : List Byte) : reportedState p.head? = (arrival .query p).map fun st => (st, restTarget st) := by
  have named : ∀ b : Byte, ∀ n < 256, b = BitVec.ofNat 8 n ↔ b.toNat = n := fun b n lt => by
    rw [← BitVec.toNat_inj, BitVec.toNat_ofNat, Nat.mod_eq_of_lt (by omega)]
  cases head : p.head? with
  | none => simp [reportedState, arrival, head]
  | some b =>
    simp only [reportedState, arrival, head, Option.some.injEq]
    split
    case h_1 n => simp [(named b 0 (by omega)).2 n, restTarget]
    case h_2 n => simp [(named b 1 (by omega)).2 n, restTarget]
    case h_3 n => simp [(named b 2 (by omega)).2 n, restTarget]
    case h_4 zero one two =>
      have zero' : b ≠ 0 := mt (named b 0 (by omega)).1 zero
      have one' : b ≠ 1 := mt (named b 1 (by omega)).1 one
      have two' : b ≠ 2 := mt (named b 2 (by omega)).1 two
      simp only [if_neg zero', if_neg one', if_neg two', Option.map_none]

/-- The end of the op that the slot waits on is settled by that op's causes. -/
theorem takeOutcome_settles (waits : (s.slot i).state.waitsOn = some op) (o : OpOutcome) (report : Option Byte) :
    ∃ done, s.takeOutcome i op o report = s.settleOp i o (timeoutCause op) (failureCause op) done := by
  cases st : (s.slot i).state <;> rw [st] at waits <;> cases waits <;>
    exact ⟨_, by unfold State.takeOutcome; rw [st]; rfl⟩

theorem takeOutcome_fails {o : OpOutcome} {report : Option Byte} (waits : (s.slot i).state.waitsOn = some op)
    (fails : OpFails op o report cause) : s.takeOutcome i op o report = s.enterFault i cause := by
  obtain ⟨done, settled⟩ := takeOutcome_settles waits o report
  cases fails with
  | failed => exact settled
  | aborted => exact settled
  | timeout => exact settled
  | otherState p none =>
    cases op <;> simp only [arrival, reduceCtorEq] at none
    have probing : (s.slot i).state = .probing := by
      cases st : (s.slot i).state <;> rw [st] at waits <;> cases waits
    have unread : reportedState p.head? = .none := by rw [reportedState_eq, arrival, none]; rfl
    unfold State.takeOutcome
    rw [probing]
    dsimp only
    rw [State.settleOp, State.probeDone, unread]

theorem modifyLane_congr {f g : LaneRecord → LaneRecord} (same : f (s.lane i) = g (s.lane i)) :
    s.modifyLane i f = s.modifyLane i g := by
  unfold State.modifyLane
  rw [same]

/-- The lane record without the op that the slot waits on: the preempting op, or the SOLE one (R55, R56). -/
def LaneRecord.settleAwaited (r : LaneRecord) : LaneRecord :=
  if r.preempting = none then r.settleSole else r.settlePreempting

/-- The record of the op that the slot waits on, and what else the governed side of the lane holds. -/
inductive AwaitedOp (r : LaneRecord) (tag : Byte) (op : GovernedOp) (deadline : Nat) : Prop
  | sole (g : GovernedRecord) : r.governed = some g → g.role = .sole → g.tag = tag → g.op = op → g.deadline = deadline →
      r.preempting = none → r.find tag = .governed g → AwaitedOp r tag op deadline
  | preempting (g : GovernedRecord) (p : PreemptingRecord) : r.governed = some g → g.role = .first →
      r.preempting = some p → p.tag = tag → p.op = op → p.deadline = deadline → r.find tag = .preempting p →
      AwaitedOp r tag op deadline

theorem awaitedOp_of_awaits (kept : (s.lane i).Kept) (h : Awaits s i tag op deadline) :
    AwaitedOp (s.lane i) tag op deadline := by
  rcases h with ⟨g, governed, role, rfl, rfl, rfl⟩ | ⟨p, preempting, rfl, rfl, rfl⟩
  · have position := kept.position
    simp only [LaneRecord.position, Option.mem_def.1 governed, role] at position
    exact .sole g governed role rfl rfl rfl position.1 (LaneRecord.Kept.find_governed governed)
  · obtain ⟨g, governed, role, -, -⟩ := kept.preempted preempting
    exact .preempting g p governed role preempting rfl rfl rfl (kept.find_preempting preempting)

theorem waits_of_awaits (kept : LaneKept s i) (h : Awaits s i tag op deadline) : (s.slot i).state.waitsOn = some op := by
  obtain ⟨lane, waits⟩ := laneKept_iff.1 kept
  rw [← waits]
  cases awaitedOp_of_awaits lane h with
  | sole g governed role _ same => rw [awaited_of_sole lane.position governed role, same]
  | preempting g p _ _ preempting _ same => rw [awaited_of_preempting lane preempting, same]

/-- A completion of the op that the slot waits on goes to the slot controller, its record gone from the lane. -/
theorem takeCompletion_awaited (lane : AwaitedOp (s.lane i) tag op deadline) (o : CompletionOutcome) (payload : List Byte) :
    s.takeCompletion i tag o payload =
      (s.modifyLane i LaneRecord.settleAwaited).takeOutcome i op (opEnd o) payload.head? := by
  rw [State.takeCompletion]
  cases lane with
  | sole g _ role _ same _ alone found =>
    have settled : (s.lane i).settleAwaited = (s.lane i).settleSole := by simp [LaneRecord.settleAwaited, alone]
    rw [found]
    dsimp only
    rw [State.settleGoverned, role, same, modifyLane_congr settled]
  | preempting g p _ _ preempting _ same _ found =>
    have settled : (s.lane i).settleAwaited = (s.lane i).settlePreempting := by
      simp [LaneRecord.settleAwaited, preempting]
    rw [found]
    dsimp only
    rw [State.settlePreempting, same, modifyLane_congr settled]

theorem exec_completion_awaited (lane : AwaitedOp (s.lane i) tag op deadline) (o : CompletionOutcome)
    {payload : List Byte} (short : payload.length ≤ Config.payloadMax) : exec (.completion i tag o payload) s =
      .next (concludeEvent s ((s.modifyLane i LaneRecord.settleAwaited).takeOutcome i op (opEnd o) payload.head?)) := by
  change execCompletion i tag o payload s = _
  rw [execCompletion, if_pos short, takeCompletion_awaited lane]

/-- The lane record at an entry to FAULT by the end of the op with this tag: the governed side is gone, and the tag of the
first op of a pair is retired, before that of a preempting op that has timed out (R52). -/
structure FaultedLane (r t : LaneRecord) (tag : Byte) (late : Prop) : Prop where
  first : ∀ g ∈ r.governed, g.tag ≠ tag → g.tag ∈ t.retired ∧ (late → [g.tag, tag] <:+ t.retired)
  own : late → [tag] <:+ t.retired

theorem settleAwaited_abandoned (r : LaneRecord) : ∃ tags, r.settleAwaited.abandonGoverned =
    { r with governed := none, preempting := none, held := none, retired := tags } := by
  unfold LaneRecord.settleAwaited
  split <;> exact ⟨_, rfl⟩

/-- A completion abandons what is left of a pair. -/
theorem faultedLane_completion {r : LaneRecord} (lane : AwaitedOp r tag op deadline) :
    FaultedLane r r.settleAwaited.abandonGoverned tag False := by
  cases lane with
  | sole g governed _ same =>
    refine ⟨fun x m other => ?_, False.elim⟩
    rw [governed, Option.mem_some] at m
    exact absurd (m ▸ same) other
  | preempting g p governed role preempting =>
    refine ⟨fun x m other => ⟨?_, False.elim⟩, False.elim⟩
    rw [governed, Option.mem_some] at m
    subst m
    refine r.settleAwaited.abandonGoverned_retires _ (((LaneRecord.mem_governedTags _ _)).2 (.inl ?_))
    simp [LaneRecord.settleAwaited, LaneRecord.settlePreempting, preempting, governed, role]

theorem suffix_retireTag_self (l : List Byte) (t : Byte) : [t] <:+ retireTag l t :=
  suffix_retireTag (xs := []) List.nil_suffix (by simp [Config.retiredMax])

/-- The failing end of the op that the slot waits on is an entry to FAULT. -/
theorem exec_fails (kept : LaneKept s i) (awaits : Awaits s i tag op deadline)
    (fails : FailsWith s i tag op deadline c cause code) :
    ∃ f h, exec c s = .next (concludeEvent s (s.faultOn i cause f h)) ∧ Abandons f h ∧
      FaultedLane (s.lane i) (h (f (s.lane i)).abandonGoverned) tag (code = .timeout) := by
  have waits := waits_of_awaits kept awaits
  have lane := awaitedOp_of_awaits (laneKept_iff.1 kept).1 awaits
  have completed : ∀ {o : CompletionOutcome} {p : List Byte}, p.length ≤ 16 → OpFails op (opEnd o) p.head? cause →
      code ≠ .timeout → ∃ f h, exec (.completion i tag o p) s = .next (concludeEvent s (s.faultOn i cause f h)) ∧
        Abandons f h ∧ FaultedLane (s.lane i) (h (f (s.lane i)).abandonGoverned) tag (code = .timeout) := by
    intro o p short ends answered
    refine ⟨LaneRecord.settleAwaited, id, ?_, settleAwaited_abandoned, ?_⟩
    · rw [exec_completion_awaited lane o short, takeOutcome_fails (by simpa using waits) ends, State.faultOn, modifyLane_id]
    · simpa [answered] using faultedLane_completion lane
  cases fails with
  | failed code p short => exact completed short (.failed code _) (by simp)
  | aborted p short => exact completed short (.aborted _) (by simp)
  | otherState p short none => exact completed short (.otherState p none) (by simp)
  | deadline due =>
    change ∃ f h, execOpDeadlineExpiry i tag s = _ ∧ _ ∧ _
    rw [execOpDeadlineExpiry, State.takeDeadline]
    cases lane with
    | sole g governed role own same limit alone found =>
      rw [found]
      dsimp only
      rw [limit, if_pos due, State.settleGoverned, role, same]
      dsimp only
      rw [State.retire, State.modifyLane_modifyLane, takeOutcome_fails (by simpa using waits) (.timeout _)]
      refine ⟨fun r => { r with retired := retireTag r.retired tag }.settleSole, id,
        by rw [State.faultOn, modifyLane_id], fun r => ⟨_, rfl⟩, fun x m other => ?_, fun _ => ?_⟩
      · rw [governed, Option.mem_some] at m
        exact absurd (m ▸ own) other
      · simpa [LaneRecord.settleSole, LaneRecord.abandonGoverned, LaneRecord.retireAll, LaneRecord.governedTags, alone]
          using suffix_retireTag_self (s.lane i).retired tag
    | preempting g p governed role preempting own same limit found =>
      rw [found]
      dsimp only
      rw [limit, if_pos due, State.settlePreempting, same, takeOutcome_fails (by simpa using waits) (.timeout _)]
      have retired : retireTag (s.lane i).settlePreempting.abandonGoverned.retired tag =
          retireTag (retireTag (s.lane i).retired g.tag) tag := by
        simp [LaneRecord.settlePreempting, LaneRecord.abandonGoverned, LaneRecord.retireAll, LaneRecord.governedTags,
          governed, role]
      have pair : [g.tag, tag] <:+ retireTag (retireTag (s.lane i).retired g.tag) tag :=
        suffix_retireTag (xs := [g.tag]) (suffix_retireTag_self _ _) (by simp [Config.retiredMax])
      refine ⟨LaneRecord.settlePreempting, fun r => { r with retired := retireTag r.retired tag }, rfl,
        fun r => ⟨_, rfl⟩, fun x m other => ?_, fun _ => ?_⟩
      · rw [governed, Option.mem_some] at m
        subst m
        simp only [retired]
        exact ⟨pair.subset (by simp), fun _ => pair⟩
      · simp only [retired]; exact suffix_retireTag_self _ _

/-- Settles O34: each of the four ends is an entry to FAULT on the slot's lane, concluded by the arbiter's look. -/
theorem failureEntersFault : Obligations.FailureEntersFault := by
  intro s i tag op deadline c cause code awaits fails account lanes
  obtain ⟨f, h, run, record, lane⟩ := exec_fails (lanes i) awaits fails
  have on := powered_of_waitsOn (waits_of_awaits (lanes i) awaits)
  obtain ⟨event, faulted, spared, after, outcomes⟩ := faultOn_concluded account on cause f h record
  rw [fails.outcome] at outcomes
  refine ⟨_, run, event, faulted, spared, outcomes, fun given j next fits => faultOn_grants account on cause f h given next fits,
    ?_, ?_⟩ <;> rw [after]
  · exact lane.first
  · exact lane.own

end

end Sys2Proof.Machine
end

section
/-! PROOFS. Presence gained and lost (R171 to R174). -/

namespace Sys2Proof.Machine

section
variable {s t o : State} {i j : SlotId}

/-! ### Outcomes over the same requests and records -/

theorem memberOf_congr (active : ∀ j, (t.slot j).active = (s.slot j).active) : memberOf t = memberOf s := by
  funext g j
  simp only [memberOf, active]

theorem groupAfter_congr (groups : t.groups = s.groups) (active : ∀ j, (t.slot j).active = (s.slot j).active)
    (is : List SlotId) (c : AnswerCode) (g : GroupId) : groupAfter t is c g = groupAfter s is c g := by
  simp only [groupAfter, memberOf_congr active, State.group_congr groups]

theorem answersFrom_congr (groups : t.groups = s.groups) (active : ∀ j, (t.slot j).active = (s.slot j).active)
    (c : AnswerCode) (earlier is : List SlotId) : answersFrom t c earlier is = answersFrom s c earlier is := by
  induction is generalizing earlier with
  | nil => rfl
  | cons i is ih => simp only [answersFrom, ih, memberOf_congr active, State.group_congr groups, active]

theorem groupsKept_of_active (h : GroupsKept s) (groups : t.groups = s.groups)
    (active : ∀ j, (t.slot j).active = (s.slot j).active) : GroupsKept t :=
  groupsKept_trunk h groups fun j => by unfold SlotRecord.asker; rw [active]

theorem accountKept_concludeEvent (s : State) (after : AccountKept o) : AccountKept (concludeEvent s o) := by
  obtain ⟨u, -, marked, -⟩ := concludeEvent_stages s after
  exact marked.account

/-! ### Presence gained (R173) -/

/-- The state in which the presence is the input's and PRESENCE_CHANGE is set. -/
def State.seen (s : State) (i : SlotId) : State :=
  (s.modifySlot i fun r => { r with present := seated r.input, debounceExpiry := none }).setFlag .presenceChange

theorem exec_presenceDebounceExpiry {e : Nat} (expiry : (s.slot i).debounceExpiry = some e) (due : e ≤ s.now) :
    exec (.presenceDebounceExpiry i) s = .next (concludeEvent s
      (if seated (s.slot i).input then (s.seen i).presenceGained i else (s.seen i).presenceLost i)) := by
  change execPresenceDebounceExpiry i s = _
  rw [execPresenceDebounceExpiry, if_pos (by simpa [reached, expiry] using due)]
  rfl

theorem seen_slot (s : State) (i j : SlotId) : (s.seen i).slot j =
    if j = i then { s.slot i with present := seated (s.slot i).input, debounceExpiry := none } else s.slot j := by
  unfold State.seen
  by_cases own : j = i
  · subst own; simp
  · simp [own]

theorem seen_event (s : State) (i : SlotId) : SlotEvent s (s.seen i) :=
  (slotEvent_modifySlot s i _).trans (slotEvent_setFlag _ _)

theorem seen_flags (s : State) (i : SlotId) : (s.seen i).mgmt.flags = { s.mgmt.flags with presenceChange := true } := by
  unfold State.seen
  simp [EventFlags.raise]

/-- An arrival in STOPPED of a slot without a request whose standing target is STOPPED. -/
theorem arrive_stopped (quiet : (s.slot i).active = none) (down : (s.slot i).standing = .stopped) :
    s.arrive i .stopped = s.enterState i .stopped := by
  have none : ((s.enterState i .stopped).slot i).active = none := by rw [State.enterState_slot, if_pos rfl]; exact quiet
  have low : (s.enterState i .stopped).effectiveTarget i = .stopped :=
    effectiveTarget_of_standing (by rw [State.enterState_slot, if_pos rfl]; exact down)
  have stopped : ((s.enterState i .stopped).slot i).state = .stopped := by rw [State.enterState_slot, if_pos rfl]
  have rests : (s.enterState i .stopped).completeIfReached i = s.enterState i .stopped := by
    simp [State.completeIfReached, none]
  rw [State.arrive, rests, State.proceed, stopped]
  simp [low]

theorem presenceGained_eq (account : AccountKept s) (running : (s.slot i).debounceExpiry.isSome = true)
    (low : (s.slot i).input = .low) : (s.seen i).presenceGained i =
      ((s.seen i).modifySlot i fun r => { r with standing := .stopped }).enterState i .stopped := by
  have empty := empty_of_debouncing account running (by rw [low]; rfl)
  have quiet : (s.slot i).active = none := by
    by_contra some_
    exact ((account.slots i).active (Option.isSome_iff_ne_none.2 some_)).1 empty
  rw [State.presenceGained, arrive_stopped]
  · simpa [seen_slot] using quiet
  · simp

/-! ### Presence lost (R174) -/

theorem laneGone_queue (s : State) (i : SlotId) : (s.laneGone i).trunk.queue = s.trunk.queue ++
    (s.lane i).plain.toList.map fun p => ⟨byte i.val, byte p.kind.val, p.trunkTag, .gone, []⟩ := by
  unfold State.laneGone
  cases (s.lane i).plain <;> simp

theorem presenceLost_lane (s : State) (i j : SlotId) :
    (s.presenceLost i).lane j = if j = i then (s.lane i).abandonAll else s.lane j := by
  simp [State.presenceLost, State.laneGone_lane]

theorem presenceLost_outcomes (groups : GroupsKept s) (i : SlotId) :
    (∀ g, (s.presenceLost i).group g = groupAfter s [i] .gone g) ∧
      (s.presenceLost i).trunk.queue = s.trunk.queue ++
        ((s.lane i).plain.toList.map fun p => ⟨byte i.val, byte p.kind.val, p.trunkTag, .gone, []⟩) ++
        outcomeAnswers s [i] .gone := by
  have same : (s.laneGone i).groups = s.groups := by simp
  have active : ∀ j, ((s.laneGone i).slot j).active = (s.slot j).active := by simp
  have given : OutcomesGiven (s.laneGone i) [i] .gone (s.presenceLost i) :=
    (outcomesGiven_one (groupsKept_of_active groups same active) i .gone rfl rfl rfl).congr
      (by simp [State.presenceLost]) (by simp [State.presenceLost])
  refine ⟨fun g => (given.group g).trans (groupAfter_congr same active ..), ?_⟩
  rw [given.queue, laneGone_queue, outcomeAnswers, answersFrom_congr same active]
  rfl

/-- Settles O32: the presence follows the input; the slot takes the change, whose conclusion leaves it as it stands. -/
theorem presenceChanges : Obligations.PresenceChanges := by
  intro s i e expiry due account groups
  have running : (s.slot i).debounceExpiry.isSome = true := by rw [expiry]; rfl
  have run := exec_presenceDebounceExpiry expiry due
  have slot := seen_slot s i
  refine ⟨fun low => ?_, fun high => ?_⟩
  · have seated_ : seated (s.slot i).input = true := by rw [low]; rfl
    rw [if_pos seated_, presenceGained_eq account running low] at run
    obtain ⟨o, ho⟩ : ∃ o, o = ((s.seen i).modifySlot i fun r => { r with standing := .stopped }).enterState i .stopped :=
      ⟨_, rfl⟩
    have kept := account.slots i
    have empty := empty_of_debouncing account running seated_
    have off : (s.slot i).powerSwitch = false := by rw [kept.switch, empty]; rfl
    have free : (s.slot i).reservation = 0 := by rw [kept.reservation, empty]; rfl
    have record : ∀ j, o.slot j = if j = i then { s.slot i with
        present := true, debounceExpiry := none, state := .stopped, standing := .stopped } else s.slot j := fun j => by
      rw [ho, State.enterState_slot]
      by_cases own : j = i
      · subst own; simp [slot, seated_, SlotState.powered, reservationIn, off, free]
      · simp [own, slot]
    have own := record i
    rw [if_pos rfl] at own
    have others : ∀ j, j ≠ i → o.slot j = s.slot j := fun j other => by rw [record, if_neg other]
    have event : SlotEvent s o := ho ▸ (seen_event s i).trans (slotEvent_iff.2 (by simp))
    have after : AccountKept o := by
      rw [ho, ← presenceGained_eq account running low]
      exact accountKept_presenceGained account running seated_
    have still : concludeEvent s o = o := by
      refine concludeEvent_of_still (fun j queued => ?_) (fun z => ?_) (total_congr account after fun j => ?_) event.ceiling
      · by_cases same : j = i
        · rw [same, own] at queued; cases queued
        · rwa [others j same] at queued
      · rw [(slotEvent_iff.1 event).2.2.2.2.2.2.1]; exact id
      · by_cases same : j = i
        · rw [same, own]
        · rw [others j same]
    rw [← ho, still] at run
    have lane : ∀ j, o.lane j = s.lane j := fun j => by rw [ho]; simp [State.seen]
    exact ⟨o, run, event, by rw [ho]; simp [State.seen], by rw [ho]; simp [seen_flags], own, lane i,
      fun j other => ⟨others j other, lane j⟩⟩
  · have unseated : seated (s.slot i).input = false := by rw [high]; rfl
    rw [if_neg (by rw [unseated]; simp)] at run
    obtain ⟨o, ho⟩ : ∃ o, o = (s.seen i).presenceLost i := ⟨_, rfl⟩
    have after : AccountKept o := ho ▸ accountKept_presenceLost account unseated
    have event : SlotEvent s o := ho ▸ (seen_event s i).trans (slotEvent_iff.2 (by simp))
    have record : ∀ j, o.slot j = if j = i then { s.slot i with
        present := false, debounceExpiry := none, state := .empty, active := none, reservation := 0
        drawKept := .running, powerSwitch := false, shedMark := false, selfParkExpiry := none } else s.slot j := fun j => by
      rw [ho, State.presenceLost_slot, slot, slot, if_pos rfl, unseated]
      split <;> rfl
    have lanes : ∀ j, o.lane j = if j = i then (s.lane i).abandonAll else s.lane j := fun j => by
      rw [ho, presenceLost_lane]; simp [State.seen]
    have same : (s.seen i).groups = s.groups := by simp [State.seen]
    have active : ∀ j, ((s.seen i).slot j).active = (s.slot j).active := fun j => by
      rw [slot]; split <;> simp_all
    obtain ⟨group, queue⟩ := presenceLost_outcomes (groupsKept_of_active groups same active) i
    rw [← ho] at group queue
    have own := record i
    have ownLane := lanes i
    rw [if_pos rfl] at own ownLane
    have still := concludeEvent_untouched s after (i := i) (by rw [own]; simp) (by rw [own])
    have lane : (concludeEvent s o).lane i = (s.lane i).abandonAll := still.2.trans ownLane
    rw [← ho] at run
    obtain ⟨noGoverned, noPreempting, noHeld, noPlain, preempted, tag, sent⟩ := (s.lane i).abandonAll_fields
    refine ⟨_, run, event.trans (concludeEvent_event s o), ?_, fun marks g => ?_, ?_, by rw [still.1, own], ?_⟩
    · have tail := concludeEvent_queue s after
      rwa [queue, outcomeAnswers, answersFrom_congr same active, show (s.seen i).trunk = s.trunk by simp [State.seen],
        show (s.seen i).lane i = s.lane i by simp [State.seen]] at tail
    · obtain ⟨-, records⟩ := concludeEvent_unmarked (s := s) after fun j marked => by
        by_cases mine : j = i
        · rw [mine, still.1] at marked; rwa [mine]
        · rw [marks j mine] at marked
          rw [record, if_neg mine]; exact marked
      rw [State.group_congr records g, group, groupAfter_congr same active]
    · have kept := concludeEvent_flag s o (f := .presenceChange) (by simp)
      have raised : o.mgmt.flags = { s.mgmt.flags with presenceChange := true } := by
        rw [ho, ← seen_flags s i]; simp
      rw [raised] at kept
      exact kept
    · rw [lane]
      refine ⟨noGoverned, noPreempting, noHeld, noPlain, tag, preempted, sent, (s.lane i).abandonAll_retires, ?_,
        fun j other => ?_⟩
      · rw [((accountKept_concludeEvent s after).slots i).queued, still.1, own]; rfl
      · exact concludeEvent_spared after ⟨by rw [record, if_neg other], by rw [lanes, if_neg other]⟩

end

end Sys2Proof.Machine
end

section
/-! PROOFS. DONE of the op that the slot's state waits on (R17 to R20, R23, R28, R55, R56). -/

namespace Sys2Proof.Machine

/-! ### What the conclusion of an event does to one slot -/

section
variable {s o : State} {i j : SlotId}

theorem concludeEvent_emergency (s : State) (after : AccountKept o) (j : SlotId) :
    ((concludeEvent s o).slot j).emergencyUnloads = (o.slot j).emergencyUnloads := by
  obtain ⟨u, grants, marked, -⟩ := concludeEvent_stages s after
  rw [← grants.emergency]
  rcases marked.slots j with e | e
  · rw [e.1]
  · exact e.emergency

/-- A slot that the conclusion of an event does not mark stands as the grants leave it. -/
theorem concludeEvent_granted (s : State) (after : AccountKept o)
    (unmarked : ((concludeEvent s o).slot i).shedMark = (o.slot i).shedMark) :
    ∃ u, GrantsOnly o u ∧ Untouched u (concludeEvent s o) i ∧
      (concludeEvent s o).arbiter.lastGrant = u.arbiter.lastGrant ∧
      (concludeEvent s o).effectiveTarget i = u.effectiveTarget i := by
  obtain ⟨u, grants, marked, -⟩ := concludeEvent_stages s after
  have still : Untouched u (concludeEvent s o) i := (marked.slots i).resolve_right fun new => by
    have before := new.unmarked
    rw [(grants.configured i).2.2, ← unmarked, new.marked] at before
    cases before
  exact ⟨u, grants, still, marked.last, effectiveTarget_congr still.1 (by
    unfold State.covered; rw [marked.event.standingOf (by rw [still.1])])⟩

/-- Grants raise the total where they raise a reservation. -/
theorem GrantsOnly.total_lt {u : State} (h : GrantsOnly o u) (account : AccountKept o)
    (more : (o.slot i).reservation < (u.slot i).reservation) :
    o.arbiter.reservationTotal < u.arbiter.reservationTotal := by
  rw [account.total, h.account.total]
  refine List.sum_lt_sum _ _ (fun j _ => ?_) ⟨i, mem_allSlots i, more⟩
  rcases h.slots j with e | e
  · rw [e.1]
  · rw [(account.slots j).reservation, e.waited]; exact Nat.zero_le _

/-- A slot without a reservation is not marked: one just granted is within the ceiling. -/
theorem concludeEvent_rest_unmarked (s : State) (after : AccountKept o) (none : (o.slot i).reservation = 0) :
    ((concludeEvent s o).slot i).shedMark = (o.slot i).shedMark := by
  obtain ⟨u, grants, marked, -, tested⟩ := concludeEvent_stages s after
  rw [← (grants.configured i).2.2]
  rcases marked.slots i with e | new
  · rw [e.1]
  · have more := grants.total_lt (i := i) after (by rw [none]; exact new.powered)
    have low : u.arbiter.reservationTotal ≤ u.ceilingInForce := by
      rw [grants.event.ceiling]
      exact grants.fits.resolve_left (by omega)
    rcases tested with ⟨e, -⟩ | ⟨e, -⟩
    · rw [e]
    · rw [e, u.overCeilingTest_of_le low]; rfl

end

/-! ### The state taken (R17 to R20, R23) -/

section
variable {s o : State} {i j : SlotId} {tag : Byte} {op : GovernedOp} {deadline : Nat} {payload : List Byte} {st : SlotState}

/-- The record of a slot whose op is DONE, before it takes its state: after a STOP the draw kept and the mark are gone, and
a QUERY's report is the standing target of a slot without a request. -/
def SlotRecord.landed (r : SlotRecord) (op : GovernedOp) (st : SlotState) : SlotRecord :=
  { r with
    drawKept := if op = .stop then .running else r.drawKept
    shedMark := if op = .stop then false else r.shedMark
    standing := if op = .query ∧ r.active = none then restTarget st else r.standing }

theorem arrival_rest (reports : arrival op payload = some st) : st = .stopped ∨ st = .parked ∨ st = .loaded := by
  unfold arrival at reports
  cases op <;> simp only [Option.some.injEq] at reports
  case query => split_ifs at reports <;> cases reports <;> simp
  all_goals subst reports; simp

/-- The target of a rest state is the one that it reaches. -/
theorem asTarget_rest (rest : st = .stopped ∨ st = .parked ∨ st = .loaded) : st.asTarget = some (restTarget st) := by
  rcases rest with rfl | rfl | rfl <;> rfl

theorem modifySlot_self {f : SlotRecord → SlotRecord} (same : f (s.slot i) = s.slot i) : s.modifySlot i f = s := by
  unfold State.modifySlot
  rw [same]
  simp [State.slot]

theorem takeOutcome_done (waits : (s.slot i).state.waitsOn = some op) (reports : arrival op payload = some st) :
    s.takeOutcome i op .done payload.head? = (s.modifySlot i fun r => r.landed op st).arrive i st := by
  have plain : op ≠ .stop → op ≠ .query → s.modifySlot i (fun r => r.landed op st) = s := fun a b =>
    modifySlot_self (by simp [SlotRecord.landed, a, b])
  cases state : (s.slot i).state <;> rw [state] at waits <;> cases waits <;> unfold State.takeOutcome <;> rw [state]
  case probing.refl =>
    dsimp only
    have reported : reportedState payload.head? = some (st, restTarget st) := by rw [reportedState_eq, reports]; rfl
    rw [State.settleOp, State.probeDone, reported]
    dsimp only
    rw [State.probeReported]
    congr 1
    refine modifySlot_congr ?_
    by_cases quiet : (s.slot i).active = none <;> simp [SlotRecord.landed, quiet]
  case spinningDown.refl =>
    cases reports
    dsimp only
    rw [State.settleOp, State.stopDone]
    congr 1
  all_goals
    cases reports
    rw [plain (by simp) (by simp)]
    rfl

/-- The state after the completion that the slot waits on, up to the event's conclusion. -/
theorem takeCompletion_done (lane : AwaitedOp (s.lane i) tag op deadline) (waits : (s.slot i).state.waitsOn = some op)
    (reports : arrival op payload = some st) : s.takeCompletion i tag .done payload =
      ((s.modifyLane i LaneRecord.settleAwaited).modifySlot i fun r => r.landed op st).arrive i st := by
  rw [takeCompletion_awaited lane, ← takeOutcome_done (by simpa using waits) reports]
  rfl

/-- The state in which the slot has taken its state and its request has its outcome, before it proceeds. -/
def State.landedIn (s : State) (i : SlotId) (op : GovernedOp) (st : SlotState) : State :=
  (((s.modifyLane i LaneRecord.settleAwaited).modifySlot i fun r => r.landed op st).enterState i st).completeIfReached i

theorem landedIn_slot (rest : st = .stopped ∨ st = .parked ∨ st = .loaded) (i j : SlotId) (op : GovernedOp) :
    (s.landedIn i op st).slot j = if j = i then { (s.slot i).landed op st with
      state := st, powerSwitch := st.powered
      reservation := reservationIn (s.profileOf i) ((s.slot i).landed op st).drawKept st
      active := (s.slot i).active.filter fun a => decide (a.target ≠ restTarget st) } else s.slot j := by
  unfold State.landedIn
  rw [State.completeIfReached_slot, State.enterState_slot]
  by_cases own : j = i
  · subst own
    have profile : ((s.modifyLane j LaneRecord.settleAwaited).modifySlot j fun r => r.landed op st).profileOf j =
        s.profileOf j := by simp [State.profileOf, SlotRecord.landed]
    simp only [if_true, profile, asTarget_rest rest]
    simp [SlotRecord.landed, eq_comm]
  · simp [own, State.enterState_slot]

/-- The request that the state taken reaches receives DONE, on the trunk link or in its group's record. -/
theorem landedIn_outcomes (groups : GroupsKept s) (rest : st = .stopped ∨ st = .parked ∨ st = .loaded) (i : SlotId)
    (op : GovernedOp) :
    let reached := (s.slot i).active.any fun a => decide (a.target = restTarget st)
    (s.landedIn i op st).trunk.queue = s.trunk.queue ++ (if reached then outcomeAnswers s [i] .done else []) ∧
      ∀ g, (s.landedIn i op st).group g = if reached then groupAfter s [i] .done g else s.group g := by
  obtain ⟨u, hu⟩ : ∃ u, u = ((s.modifyLane i LaneRecord.settleAwaited).modifySlot i fun r => r.landed op st).enterState i st :=
    ⟨_, rfl⟩
  have slot : (u.slot i).active = (s.slot i).active ∧ (u.slot i).state = st := by
    rw [hu, State.enterState_slot, if_pos rfl]; simp [SlotRecord.landed]
  obtain ⟨active, state⟩ := slot
  have trunk : u.trunk = s.trunk := by rw [hu]; simp
  have records : u.groups = s.groups := by rw [hu]; simp
  have given := outcomesGiven_one groups i .done trunk records active
  rw [show s.landedIn i op st = u.completeIfReached i by rw [hu]; rfl, State.completeIfReached, active, state,
    asTarget_rest rest]
  cases request : (s.slot i).active with
  | none => exact ⟨by simp [trunk], fun g => State.group_congr records g⟩
  | some a =>
    by_cases reached : restTarget st = a.target
    · simpa [reached] using And.intro given.queue given.group
    · have missed : a.target ≠ restTarget st := Ne.symm reached
      simpa [reached, missed, trunk] using fun g => State.group_congr records g

/-- Settles O33: the arrival in the state of the op's rule, and what the event's conclusion adds to it. -/
theorem completionsMoveSlot : Obligations.CompletionsMoveSlot := by
  intro s i tag op deadline payload st awaits reports short account heads lanes
  have waits := waits_of_awaits (lanes i) awaits
  have lane := awaitedOp_of_awaits (laneKept_iff.1 (lanes i)).1 awaits
  have rest := arrival_rest reports
  obtain ⟨o, ho⟩ : ∃ o, o = (s.landedIn i op st).proceed i false := ⟨_, rfl⟩
  have taken : s.takeCompletion i tag .done payload = o := by rw [ho, takeCompletion_done lane waits reports]; rfl
  have run : exec (.completion i tag .done payload) s = .next (concludeEvent s o) := by
    rw [exec_completion_awaited lane .done short, ← takeCompletion_awaited lane, taken]
  have after : AccountKept o := by
    rw [← taken, takeCompletion_awaited lane]
    have settledAccount : AccountKept (s.modifyLane i LaneRecord.settleAwaited) := accountKept_congr account rfl rfl rfl rfl
    exact accountKept_takeOutcome settledAccount i op _ _
  have issued : LanesKept o := by
    rw [← taken]; exact lanesKept_takeCompletion lanes i tag .done payload
  have slot := fun j => landedIn_slot (s := s) rest i j op
  have landed : SlotEvent s (s.landedIn i op st) := slotEvent_iff.2 (by simp [State.landedIn])
  obtain ⟨base, hb⟩ : ∃ b, b = s.modifyLane i LaneRecord.settleAwaited := ⟨_, rfl⟩
  have settled : (base.lane i) = { s.lane i with governed := (base.lane i).governed, preempting := (base.lane i).preempting } := by
    rw [hb]
    simp only [State.lane_modifyLane_self, LaneRecord.settleAwaited]
    split <;> rfl
  obtain ⟨r, hr⟩ : ∃ r, r = (s.landedIn i op st).slot i := ⟨_, rfl⟩
  have moved : Rewritten base i r o := by
    rw [ho]
    refine rewritten_proceed ?_ hr.symm ?_ (fun j other => ?_) false
    · rw [hb]; exact slotEvent_iff.2 (by simp [State.landedIn])
    · rw [hb]; simp [State.landedIn]
    · rw [slot, if_neg other, hb]; simp
  rw [slot, if_pos rfl] at hr
  have event : SlotEvent s o := ho ▸ landed.trans (slotEvent_proceed ..)
  have others : ∀ j, j ≠ i → Untouched s o j := fun j other => by
    obtain ⟨still, quiet⟩ := moved.others j other
    rw [hb] at still quiet
    exact ⟨by simpa using still, by simpa [other] using quiet⟩
  have marked : (o.slot i).shedMark = if op = .stop then false else (s.slot i).shedMark := by
    rw [moved.moved.1, hr]; rfl
  refine ⟨_, run, event.trans (concludeEvent_event s o), fun j other => concludeEvent_spared after (others j other), ?_,
    fun groups => ?_, fun same => ?_⟩
  · rw [concludeEvent_emergency s after, ho, proceed_emergency, slot, if_pos rfl]
    simp [SlotRecord.landed]
  · obtain ⟨queue, records⟩ := landedIn_outcomes groups rest i op
    refine ⟨?_, fun marks g => ?_⟩
    · rw [← queue, show (s.landedIn i op st).trunk = o.trunk by rw [ho]; simp]
      exact concludeEvent_queue s after
    · obtain ⟨-, kept⟩ := concludeEvent_unmarked (s := s) after fun j new => by
        by_cases other : j = i
        · subst other
          by_cases stop : op = .stop
          · subst stop
            cases reports
            have state := moved.state
            rw [hr] at state
            have none : (o.slot j).reservation = 0 := by
              rw [(after.slots j).reservation, state]
              exact afterRecompute_rest rfl ..
            rwa [concludeEvent_rest_unmarked s after none] at new
          · rw [marked, if_neg stop]; exact marks j new
        · rw [(others j other).1]; exact marks j new
      rw [State.group_congr kept g, ← records g, ho]
      simp
  · rw [← marked] at same
    obtain ⟨u, grants, still, last, target⟩ := concludeEvent_granted s after same
    have mode : base.mgmt.mode = s.mgmt.mode := by rw [hb]; simp
    have now : base.now = s.now := by rw [hb]; simp
    have proceeded := moved.proceeded grants
    have record := moved.movedBy grants
    have waiting := grants.laneKept (issued i)
    refine ⟨?_, ?_, ⟨?_, ?_⟩, fun stopped => ?_⟩
    · unfold Proceeded at proceeded ⊢
      rw [still.1, last, target, ← mode, ← now]
      rwa [show r.state = st by rw [hr]] at proceeded
    · rw [still.2, still.1]; exact waiting.awaited
    · have kept := record.1
      rw [hr] at kept
      rw [still.1, (grants.configured i).2.2, marked]
      exact kept
    · rw [still.2]
      have kept := record.2
      rw [settled] at kept
      exact kept
    · have kept := (accountKept_concludeEvent s after).slots i
      rw [kept.reservation, kept.switch, stopped]
      exact ⟨rfl, rfl⟩

end

end Sys2Proof.Machine
end

section
/-! PROOFS. The writes of a draw profile and of the ceilings: the figures that the supply monitor tests (R10, R36, R37,
R158, R167). -/

namespace Sys2Proof.Machine

/-! ### The over-ceiling condition (R158) -/

section
variable {s o u : State} {i j : SlotId}

theorem testIfChanged_condition (s o : State) : (testIfChanged s o).supply.overCeiling =
    if figuresChanged s o then decide (o.ceilingInForce < o.arbiter.reservationTotal) else o.supply.overCeiling := by
  rcases testIfChanged_cases s o with ⟨changed, e⟩ | ⟨same, e⟩
  · rw [e, changed, if_pos rfl, State.overCeilingTest_condition]
  · rw [e, same]; rfl

theorem marksOnly_testIfChanged (s : State) (after : AccountKept o) : MarksOnly o (testIfChanged s o) := by
  rcases testIfChanged_cases s o with ⟨-, e⟩ | ⟨-, e⟩ <;> rw [e]
  · exact marksOnly_overCeilingTest after
  · exact .refl after

theorem testIfChanged_unmarked (s : State) (low : o.arbiter.reservationTotal ≤ o.ceilingInForce) :
    testIfChanged s o = o ∨ testIfChanged s o = o.setOverCeiling false := by
  rcases testIfChanged_cases s o with ⟨-, e⟩ | ⟨-, e⟩
  · exact .inr (e.trans (o.overCeilingTest_of_le low))
  · exact .inl e

/-- A condition that begins sets its flag (R158). -/
theorem testIfChanged_flag (changed : figuresChanged s o = true)
    (above : o.ceilingInForce < o.arbiter.reservationTotal) (begins : o.supply.overCeiling = false) :
    (testIfChanged s o).mgmt.flags.overCeiling = true := by
  rw [testIfChanged, if_pos changed, State.overCeilingTest, if_pos above, begins]
  simp [EventFlags.raise]

/-- Above the ceiling in force a look grants nothing. -/
theorem look_of_over (above : s.ceilingInForce < s.arbiter.reservationTotal) : s.look = s := by
  cases c : s.candidate with
  | none => exact look_of_none c
  | some i =>
    refine look_of_not_fits c ?_
    rw [Bool.eq_false_iff, ne_eq, s.drawFits_iff]
    omega

end

/-! ### A draw profile (R2, R10, R37, R158) -/

section
variable {s : State} {k : Fin 8} {p : DrawProfile}

/-- The state in which a profile is stored and its reservations are derived again. -/
def State.profiled (s : State) (k : Fin 8) (p : DrawProfile) : State :=
  ({ s with profiles := s.profiles.set k.val p } : State).rederiveProfile k

/-- The reservation of a slot once a profile is written. -/
theorem profiled_slot (account : AccountKept s) (k : Fin 8) (p : DrawProfile) (j : SlotId) : (s.profiled k p).slot j =
    { s.slot j with reservation := if (s.slot j).profile = k ∧ (s.slot j).powerSwitch = true
        then (if (s.slot j).state = .spinningUp ∨ (s.slot j).state = .spinningDown ∧ (s.slot j).drawKept = .spinUp
          then p.spinUpDraw else p.runningDraw)
        else (s.slot j).reservation } := by
  have switch := (account.slots j).switch
  rw [State.profiled, State.rederiveProfile_slot, State.rederived, switch]
  have slot : ({ s with profiles := s.profiles.set k.val p } : State).slot j = s.slot j := rfl
  rw [slot]
  by_cases used : (s.slot j).profile = k ∧ (s.slot j).state.powered = true
  · obtain ⟨uses, on⟩ := used
    have drawn : ({ s with profiles := s.profiles.set k.val p } : State).profileOf j = p := by
      simp [State.profileOf, slot, uses]
    rw [if_pos ⟨uses, on⟩, if_pos ⟨uses, on⟩, drawn]
    cases state : (s.slot j).state <;> rw [state] at on <;> cases on <;> cases kept : (s.slot j).drawKept <;>
      simp [reservationIn]
  · rw [if_neg used, if_neg used]

/-- A profile written where the arbiter may not grant, or where no reservation falls with it, leads to no grant. -/
theorem profiled_looked (free : s.mgmt.mode = .config ∨ s.arbiter.reservationTotal ≤ (s.profiled k p).arbiter.reservationTotal)
    (state : ∀ j, ((s.profiled k p).slot j).state = (s.slot j).state) :
    concludeEvent s (s.profiled k p) = testIfChanged s (s.profiled k p) := by
  unfold concludeEvent
  rcases free with config | same
  · rw [look_of_config (by simpa [State.profiled] using config), ite_self]
  · rw [grantOpportunity_eq_false.2 ⟨same, fun j => by rw [state]; exact id, fun z => by simp [State.profiled]⟩]
    rfl

/-- Settles O22: the profile stored, its reservations derived again, and the test where the total has changed. -/
theorem drawProfileWriteRederives : Obligations.DrawProfileWriteRederives := by
  intro s tag index b0 b1 b2 b3 b4 b5 k room at_ account free p
  have slot := profiled_slot account k p
  have kept : AccountKept (s.profiled k p) := accountKept_profile account k p
  have event : SlotEvent { s with profiles := s.profiles.set k.val p } (s.profiled k p) :=
    slotEvent_iff.2 (by rw [State.profiled, State.rederiveProfile_arbiter]; simp)
  have ceiling : (s.profiled k p).ceilingInForce = s.ceilingInForce := event.ceiling
  have unused : s.mgmt.mode = .run → s.profileInUse k = false := fun run => by
    have rests := free.resolve_left (by rw [run]; simp)
    simp only [State.profileInUse, List.any_eq_false]
    intro j _
    simp only [Bool.and_eq_true, decide_eq_true_eq, Bool.or_eq_true, not_and, not_or]
    intro uses
    obtain ⟨none, out⟩ := rests j uses
    exact ⟨by omega, out⟩
  have concluded : concludeEvent s (s.profiled k p) = testIfChanged s (s.profiled k p) := by
    refine profiled_looked (free.imp_right fun rests => ?_) fun j => by rw [slot]
    rw [account.total, kept.total]
    refine List.sum_le_sum fun j _ => ?_
    rw [slot]
    dsimp only
    by_cases used : (s.slot j).profile = k ∧ (s.slot j).powerSwitch = true
    · rw [(rests j used.1).1]; exact Nat.zero_le _
    · rw [if_neg used]
  have marks := marksOnly_testIfChanged s kept
  obtain ⟨v, hv⟩ : ∃ v, v = testIfChanged s (s.profiled k p) := ⟨_, rfl⟩
  rw [← hv] at marks concluded
  have stored : s.written .drawProfiles index [b0, b1, b2, b3, b4, b5] = .stored v := by
    have read : profileEntry [b0, b1, b2, b3, b4, b5] = some p := by
      have long : ∀ b : Byte, clampNat 1 255 b.toNat = max 1 b.toNat := fun b => by
        have := b.isLt
        unfold clampNat; omega
      simp only [profileEntry, long]
      rfl
    rw [written_drawProfiles at_, State.writeProfile, read]
    dsimp only
    rw [if_neg (by rintro ⟨run, used⟩; rw [unused run] at used; cases used), ← concluded]
    rfl
  have entered : v.entryBytes .drawProfiles index.toNat = p.bytes := by
    rw [← at_, entryBytes_drawProfiles]
    have profiles : v.profiles = s.profiles.set k.val p := by
      rw [(slotEvent_iff.1 marks.event).2.2.1]; simp [State.profiled]
    simp [profiles]
  obtain ⟨t, run, only, queue, -, -⟩ := write_answered room rfl (at_ ▸ k.isLt) stored entered tag
  have total := marks.total kept
  refine ⟨t, run, event.trans (marks.event.trans only.event), ?_, fun i => ?_, ?_, fun i same => ?_, fun low i => ?_, ?_⟩
  · rw [queue]
    exact List.suffix_append _ _
  · rw [only.slot, marks.reservation, slot]
  · rw [only.arbiter, marks.account.total]
    simp only [only.slot]
  · have still : Untouched (s.profiled k p) v i := (marks.slots i).resolve_right fun new => by
      have before := new.unmarked
      rw [slot] at before
      rw [only.slot, new.marked, before] at same
      cases same
    rw [only.slot, only.lane, still.1, still.2, slot]
    simp [State.profiled]
  · have below : (s.profiled k p).arbiter.reservationTotal ≤ (s.profiled k p).ceilingInForce := by
      rw [ceiling, ← total, ← only.arbiter]; exact low
    have still : v.slot i = (s.profiled k p).slot i := by
      rw [hv]
      rcases testIfChanged_unmarked s below with e | e <;> rw [e]
      simp [State.setOverCeiling]
    rw [only.slot, still, slot]
  · have condition := testIfChanged_condition s (s.profiled k p)
    rw [← hv, ceiling, ← total] at condition
    rw [show t.supply = v.supply by rw [only], only.arbiter, condition, figuresChanged, ceiling, ← total]
    have supply : (s.profiled k p).supply = s.supply := by simp [State.profiled]
    by_cases same : v.arbiter.reservationTotal = s.arbiter.reservationTotal <;> simp [same, supply]

end

/-! ### The ceilings (R36, R167) -/

section
variable {s : State}

theorem ceilingsEntry_words (mains battery : Nat) (mw bw : Word16) :
    ceilingsEntry mains battery [highByte mw, lowByte mw, highByte bw, lowByte bw] = some
      (if mw.toNat = 65535 then mains else min mw.toNat 600, if bw.toNat = 65535 then battery else min bw.toNat 600) := by
  simp [ceilingsEntry, ceilingField, wordNat, wordOf_bytes]

/-- The state in which the ceilings are stored. -/
def State.withCeilings (s : State) (m b : Nat) : State :=
  { s with arbiter := { s.arbiter with mainsCeiling := m, batteryCeiling := b } }

/-- Settles O24: the ceilings stored, the look where one has changed, and the test where the ceiling in force or the total
has. -/
theorem ceilingsWriteStored : Obligations.CeilingsWriteStored := by
  intro s tag mw bw room account m b stored
  have read : ceilingsEntry s.arbiter.mainsCeiling s.arbiter.batteryCeiling [highByte mw, lowByte mw, highByte bw, lowByte bw] =
      some (m, b) := ceilingsEntry_words ..
  have named : stored = s.withCeilings m b := rfl
  clear_value m b stored
  subst named
  have account' : AccountKept (s.withCeilings m b) := accountKept_congr account rfl rfl rfl rfl
  obtain ⟨u, hu⟩ : ∃ u, u = if m = s.arbiter.mainsCeiling ∧ b = s.arbiter.batteryCeiling then s.withCeilings m b
      else (s.withCeilings m b).look := ⟨_, rfl⟩
  have grants : GrantsOnly (s.withCeilings m b) u := by
    rw [hu]
    split
    · exact .refl account'
    · exact (GrantsOnly.refl account').look
  have marks := marksOnly_testIfChanged s grants.account
  obtain ⟨v, hv⟩ : ∃ v, v = testIfChanged s u := ⟨_, rfl⟩
  rw [← hv] at marks
  have ceiling : u.ceilingInForce = (s.withCeilings m b).ceilingInForce := grants.event.ceiling
  have written : s.written .ceilings 0 [highByte mw, lowByte mw, highByte bw, lowByte bw] = .stored v := by
    unfold State.written
    dsimp only
    rw [State.writeCeilings, read, hv, hu]
    rfl
  have entered : v.entryBytes .ceilings (0 : Byte).toNat = two m ++ two b := by
    obtain ⟨-, -, -, -, -, -, -, -, -, -, -, mains, battery, -⟩ := slotEvent_iff.1 (grants.event.trans marks.event)
    simp [State.entryBytes, mains, battery, State.withCeilings]
  obtain ⟨t, run, only, queue, spent, pending⟩ := write_answered room rfl (by decide) written entered tag
  have changes : (s.withCeilings m b).ceilingInForce ≠ s.ceilingInForce → figuresChanged s u = true := fun differ => by
    rw [figuresChanged, ceiling]
    simp [differ]
  have condition := testIfChanged_condition s u
  rw [← hv] at condition
  have supply : t.supply = v.supply := by rw [only]
  have within : s.arbiter.reservationTotal ≤ (s.withCeilings m b).ceilingInForce →
      u.arbiter.reservationTotal ≤ u.ceilingInForce := fun low => by
    rw [ceiling]
    rcases grants.fits with same | fits
    · rw [same]; exact low
    · exact fits
  have unmarked : u.arbiter.reservationTotal ≤ u.ceilingInForce →
      (∀ j, v.slot j = u.slot j) ∧ v.arbiter = u.arbiter := fun below => by
    rw [hv]
    rcases testIfChanged_unmarked s below with e | e <;> rw [e]
    · exact ⟨fun j => rfl, rfl⟩
    · exact ⟨fun j => by simp [State.setOverCeiling], rfl⟩
  refine ⟨t, run, grants.event.trans (marks.event.trans only.event), ?_, fun sameM sameB => ?_, fun i => ?_,
    fun changed i next fits => ?_, fun above => ?_, fun low => ?_⟩
  · rw [queue]; exact List.suffix_append _ _
  · have still : v = s := by
      rw [hv, hu, if_pos ⟨sameM, sameB⟩, sameM, sameB]
      exact testIfChanged_of_same rfl rfl
    rw [← still]
    exact ⟨only, queue, spent, pending⟩
  · have spared : SparedOrGranted s u i := grants.spared ⟨rfl, rfl⟩
    rcases marks.slots i with e | new
    · refine .inl (only.spared ?_)
      exact spared.imp (fun x => x.trans e) fun ⟨waited, up⟩ => ⟨waited, by rw [e.1, up]⟩
    · refine .inr ⟨?_, by rw [only.slot]; exact new.marked⟩
      have before := new.unmarked
      rw [(grants.configured i).2.2] at before
      exact before
  · have look : u = (s.withCeilings m b).look := by
      rw [hu, if_neg fun ⟨sameM, sameB⟩ => changed.elim (fun x => x sameM) fun x => x sameB]
    have candidate : (s.withCeilings m b).candidate = some i := candidate_of_next rfl (fun j => rfl) next
    obtain ⟨inRun, passed, -⟩ := next
    have granted := granted_of_look account' inRun candidate ((State.drawFits_iff _ i).2 fits)
      ((State.staggerPassed_iff _).2 fun x l => by rw [Nat.mul_comm]; exact passed x l)
    rw [← look] at granted
    obtain ⟨slot, arbiter⟩ := unmarked (within (by omega))
    unfold Granted at granted ⊢
    rw [only.slot, only.arbiter, slot, arbiter]
    exact granted
  · have looked : u = s.withCeilings m b := by
      rw [hu, look_of_over above, ite_self]
    rw [looked] at marks
    refine ⟨?_, ?_, fun differ => ⟨?_, fun begins => ?_⟩⟩
    · rw [only.arbiter, marks.total account']; rfl
    · rw [only.arbiter, marks.last]; rfl
    · rw [supply, condition, changes differ, if_pos rfl, looked]
      exact decide_eq_true above
    · have flag := testIfChanged_flag (changes differ) (by rw [looked]; exact above) (by rw [looked]; exact begins)
      rw [only.mgmt, hv]
      exact flag
  · have below := within low
    refine ⟨fun i => ?_, ?_, fun differ => ?_⟩
    · rw [only.slot, (unmarked below).1 i, (grants.configured i).2.2]
      rfl
    · rw [only.arbiter, marks.total grants.account, ← ceiling]; exact below
    · rw [supply, condition, changes differ, if_pos rfl]
      exact decide_eq_false (Nat.not_lt.2 below)

end

end Sys2Proof.Machine
end

section
/-! PROOFS. What the hold unit's reports do to the slots: each slot whose coverage changes goes once by its state's rule
(R12, R106, R108, R113, R114). -/

namespace Sys2Proof.Machine

section
variable {s t u o : State} {i j : SlotId} {onset : Bool}

/-! ### Slots that go by their rules in turn -/

/-- Slot `i` has gone from its record in `s` by the rule of its state to its effective target in `t`. -/
structure Recomputed (s t : State) (i : SlotId) (onset : Bool) : Prop where
  moved : MovedFrom s t i (s.slot i)
  state : (t.slot i).state = afterRecompute (decide (s.mgmt.mode = .run)) (s.slot i).state (t.effectiveTarget i)
  lane : LaneKept s i → LaneKept t i
  emergency : (t.slot i).emergencyUnloads =
    if onset = true ∧ ((s.slot i).state = .loading ∨ (s.slot i).state = .loaded) ∧ t.effectiveTarget i ≠ .loaded
    then countUp (s.slot i).emergencyUnloads else (s.slot i).emergencyUnloads

theorem recomputed_proceed (s : State) (i : SlotId) (onset : Bool) : Recomputed s (s.proceed i onset) i onset := by
  refine ⟨s.proceed_moved i onset, ?_, fun kept => laneKept_proceed kept onset, ?_⟩
  · rw [State.proceed_state, State.proceed_effectiveTarget]
  · rw [proceed_emergency, State.proceed_effectiveTarget]
    simp

/-- The move depends on the slot's own record and lane, on its coverage and on the mode. -/
theorem Recomputed.congr {s' t' : State} (h : Recomputed s t i onset) (slot : s'.slot i = s.slot i)
    (lane : s'.lane i = s.lane i) (mode : s'.mgmt.mode = s.mgmt.mode) (after : Untouched t t' i)
    (covered : t'.covered i = t.covered i) : Recomputed s' t' i onset := by
  obtain ⟨⟨record, issued⟩, state, kept, emergency⟩ := h
  have target := effectiveTarget_congr after.1 covered
  refine ⟨⟨?_, ?_⟩, ?_, fun before => ?_, ?_⟩
  · rw [after.1, slot]; exact record
  · rw [after.2, lane]; exact issued
  · rw [after.1, target, slot, mode]; exact state
  · exact laneKept_congr (kept (laneKept_congr before lane.symm (by rw [slot]))) after.2 (by rw [after.1])
  · rw [after.1, target, slot]; exact emergency

/-- The slots of `w` have gone by their rules, and the others are as they were. -/
structure Turned (s : State) (w : SlotId → Prop) (onset : Bool) (t : State) : Prop where
  zones : t.zones = s.zones
  mode : t.mgmt.mode = s.mgmt.mode
  others : ∀ j, ¬w j → Untouched s t j
  turned : ∀ j, w j → Recomputed s t j onset

theorem Turned.zone {w : SlotId → Prop} (h : Turned s w onset t) (j : SlotId) : (t.slot j).zone = (s.slot j).zone := by
  by_cases goes : w j
  · rw [(h.turned j goes).moved.1]
  · rw [(h.others j goes).1]

theorem Turned.covered {w : SlotId → Prop} (h : Turned s w onset t) (j : SlotId) : t.covered j = s.covered j := by
  simp only [State.covered, State.standingOf, h.zones, h.zone]

theorem Turned.congr {w w' : SlotId → Prop} (h : Turned s w onset t) (same : ∀ j, w j ↔ w' j) : Turned s w' onset t :=
  ⟨h.zones, h.mode, fun j out => h.others j fun goes => out ((same j).1 goes), fun j goes => h.turned j ((same j).2 goes)⟩

/-- One more slot goes by its rule. -/
theorem Turned.turn {w : SlotId → Prop} (h : Turned s w onset t) (new : ¬w i) :
    Turned s (fun j => w j ∨ j = i) onset (t.proceed i onset) := by
  have still := h.others i new
  refine ⟨by simp [h.zones], by simp [h.mode], fun j out => ?_, fun j goes => ?_⟩
  · rw [not_or] at out
    exact (h.others j out.1).trans (t.proceed_other out.2 onset)
  · by_cases own : j = i
    · subst own
      exact (recomputed_proceed t j onset).congr still.1.symm still.2.symm h.mode.symm ⟨rfl, rfl⟩ rfl
    · exact (h.turned j (goes.resolve_right own)).congr rfl rfl rfl (t.proceed_other own onset) (by simp)

/-- A walk over the slots in which those of `w` go by their rules. -/
theorem turned_forSlots {f : SlotId → State → State} {w : SlotId → Prop}
    (goes : ∀ i u, w i → u.slot i = s.slot i → u.zones = s.zones → f i u = u.proceed i onset)
    (stays : ∀ i u, ¬w i → u.slot i = s.slot i → u.zones = s.zones → f i u = u) :
    Turned s w onset (s.forSlots allSlots f) := by
  have walk : ∀ (is : List SlotId) (done : SlotId → Prop) (u : State), is.Nodup → (∀ i ∈ is, ¬done i) →
      Turned s (fun j => w j ∧ done j) onset u →
      Turned s (fun j => w j ∧ (done j ∨ j ∈ is)) onset (u.forSlots is f) := by
    intro is
    induction is with
    | nil => exact fun done u _ _ h => h.congr fun j => by simp
    | cons i is ih =>
      intro done u once fresh h
      obtain ⟨apart, once⟩ := List.nodup_cons.1 once
      have new : ¬(w i ∧ done i) := fun both => fresh i (by simp) both.2
      have still := (h.others i new).1
      have next : Turned s (fun j => w j ∧ (done j ∨ j = i)) onset (f i u) := by
        by_cases own : w i
        · rw [goes i u own still h.zones]
          refine (h.turn new).congr fun j => ?_
          by_cases same : j = i
          · subst same; simp [own]
          · simp [same]
        · rw [stays i u own still h.zones]
          refine h.congr fun j => ?_
          by_cases same : j = i
          · subst same; simp [own]
          · simp [same]
      refine (ih _ (f i u) once (fun j m => ?_) next).congr fun j => ?_
      · rintro (before | rfl)
        · exact fresh j (by simp [m]) before
        · exact apart m
      · simp only [List.mem_cons, or_assoc]
  refine (walk allSlots (fun _ => False) s (List.nodup_finRange 24) (by simp) ?_).congr fun j => by simp [mem_allSlots]
  exact ⟨rfl, rfl, fun j _ => ⟨rfl, rfl⟩, fun j goes => absurd goes.2 id⟩

/-! ### Zone updates (R113, R114) -/

/-- A zone update moves the slots whose coverage it changes. -/
theorem updateZones_moves (s : State) (zs : Set4) (onset : Bool) (i : SlotId) :
    ((s.updateZones zs onset).covered i = s.covered i → Untouched s (s.updateZones zs onset) i) ∧
      ((s.updateZones zs onset).covered i ≠ s.covered i → Recomputed s (s.updateZones zs onset) i onset) := by
  have turned : Turned (s.recomputeZones zs) (fun j => (s.recomputeZones zs).covered j ≠ s.covered j) onset
      (s.updateZones zs onset) := by
    unfold State.updateZones State.reportCoverage
    refine turned_forSlots (fun j u goes slot zones => if_neg ?_) fun j u stays slot zones => if_pos ?_
    · simp only [slot, zones]
      exact fun same => goes same.symm
    · simp only [slot, zones]
      exact (not_ne_iff.1 stays).symm
  rw [turned.covered]
  refine ⟨fun same => ?_, fun changed => ?_⟩
  · obtain ⟨slot, lane⟩ := turned.others i (not_ne_iff.2 same)
    exact ⟨slot, lane⟩
  · exact (turned.turned i changed).congr rfl rfl rfl ⟨rfl, rfl⟩ rfl

end

end Sys2Proof.Machine
end

section
/-! PROOFS. The events of the hold unit: a sample, a silence, a class's expiry and a node configuration write (R94, R95, R106
to R115). -/

namespace Sys2Proof.Machine

section
variable {s t u o w : State} {i j : SlotId} {onset : Bool}

/-! ### What an event of the hold unit does to the slots before its conclusion -/

/-- The event has touched slots, lanes and spin queues by the moves of the slots whose coverage has changed, all one way. -/
structure HoldMoves (s o : State) (onset : Bool) : Prop where
  now : o.now = s.now
  trunk : o.trunk = s.trunk
  groups : o.groups = s.groups
  mode : o.mgmt.mode = s.mgmt.mode
  profile : ∀ j, o.profileOf j = s.profileOf j
  ceiling : o.ceilingInForce = s.ceilingInForce
  interval : o.arbiter.staggerInterval = s.arbiter.staggerInterval
  last : o.arbiter.lastGrant = s.arbiter.lastGrant
  account : AccountKept o
  reservation : ∀ j, (o.slot j).reservation = (s.slot j).reservation
  queues : TargetsServed s → o.arbiter.queues = s.arbiter.queues
  same : ∀ i, o.covered i = s.covered i → Untouched s o i
  moves : ∀ i, o.covered i ≠ s.covered i → Recomputed s o i onset
  direction : ∀ i, o.covered i ≠ s.covered i → o.covered i = onset

/-! #### Reservations, grants and queues -/

theorem lastGrant_zones (last : Option Nat) : ZonesReportKept fun u => u.arbiter.lastGrant = last where
  congr _ _ h _ _ _ arbiter _ _ _ _ _ := by rw [arbiter]; exact h
  zones s zs onset h := State.updateZones_induct (P := fun u => u.arbiter.lastGrant = last) s zs onset h fun u i hu =>
    (State.proceed_lastGrant ..).trans hu

theorem reservations_zones (w : State) :
    ZonesReportKept fun u => AccountKept u ∧ ∀ j, (u.slot j).reservation = (w.slot j).reservation where
  congr s t h slots lanes profiles arbiter zones trunk groups now mode := by
    refine ⟨accountKept_zones.congr s t h.1 slots lanes profiles arbiter zones trunk groups now mode, fun j => ?_⟩
    rw [← h.2 j]
    unfold State.slot
    rw [slots]
  zones s zs onset h := by
    refine State.updateZones_induct (P := fun u => AccountKept u ∧ ∀ j, (u.slot j).reservation = (w.slot j).reservation)
      s zs onset ⟨accountKept_congr h.1 rfl rfl rfl rfl, h.2⟩ fun u i ⟨account, same⟩ =>
      ⟨accountKept_proceed account i onset, fun j => ?_⟩
    rw [proceed_reservation (account.slots i), same]

/-- Coverage caps a target at PARKED, so it does not decide whether the target is STOPPED (R11). -/
theorem effectiveTarget_stopped (slot : t.slot i = s.slot i) :
    t.effectiveTarget i = .stopped ↔ s.effectiveTarget i = .stopped := by
  have capped : ∀ (a rest : Target) (c d : Bool), a.lower ((cap c .parked).lower rest) = .stopped ↔
      a.lower ((cap d .parked).lower rest) = .stopped := by
    intro a rest c d; cases a <;> cases rest <;> cases c <;> cases d <;> decide
  simp only [State.effectiveTarget, slot]
  exact capped ..

theorem targetsServed_of_slots (h : TargetsServed s) (slots : t.slots = s.slots) (mode : t.mgmt.mode = s.mgmt.mode) :
    TargetsServed t := fun i => by
  have slot : t.slot i = s.slot i := by unfold State.slot; rw [slots]
  rw [slot, mode, ne_eq, effectiveTarget_stopped slot]
  exact h i

/-- A slot that stands by its target in QUEUED or STOPPED neither joins nor leaves a queue. -/
theorem proceed_queues (h : TargetsServed s) (i : SlotId) (onset : Bool) :
    (s.proceed i onset).arbiter.queues = s.arbiter.queues := by
  obtain ⟨waits, rests⟩ := h i
  have taken := proceedStep s i onset
  generalize s.proceed i onset = t at taken ⊢
  cases taken with
  | stays => rfl
  | raised st up run => exact absurd (rests run st) up
  | withdrawn st down => exact absurd down (waits st)
  | spunDown kept => simp [State.spinDown]
  | loads => simp
  | unloads => simp [State.unloadHeads]

theorem targetsServed_proceed (h : TargetsServed s) (i : SlotId) (onset : Bool) : TargetsServed (s.proceed i onset) := by
  intro j
  by_cases own : j = i
  · subst own
    obtain ⟨-, waits, rests⟩ := settled_proceed True s j onset
    exact ⟨waits trivial, rests trivial⟩
  · have slot := (s.proceed_other own onset).1
    have target : (s.proceed i onset).effectiveTarget j = s.effectiveTarget j := effectiveTarget_congr slot (by simp)
    rw [slot, target, show (s.proceed i onset).mgmt = s.mgmt by simp]
    exact h j

theorem servedQueues_zones (w : State) :
    ZonesReportKept fun u => TargetsServed u ∧ u.arbiter.queues = w.arbiter.queues where
  congr s t h slots _ _ arbiter _ _ _ _ mode := ⟨targetsServed_of_slots h.1 slots mode, by rw [arbiter]; exact h.2⟩
  zones s zs onset h := by
    refine State.updateZones_induct (P := fun u => TargetsServed u ∧ u.arbiter.queues = w.arbiter.queues)
      s zs onset ⟨targetsServed_of_slots h.1 rfl rfl, h.2⟩ fun u i ⟨served, same⟩ =>
      ⟨targetsServed_proceed served i onset, ?_⟩
    rw [proceed_queues served, same]

/-! #### Coverage that begins -/

/-- The onsets of an event: coverage only begins, and each slot that it begins for has gone by its state's rule. -/
structure Onsets (s u : State) : Prop where
  mode : u.mgmt.mode = s.mgmt.mode
  grows : ∀ i, s.covered i = true → u.covered i = true
  same : ∀ i, u.covered i = s.covered i → Untouched s u i
  moves : ∀ i, u.covered i ≠ s.covered i → Recomputed s u i true

theorem Onsets.refl (s : State) : Onsets s s :=
  ⟨rfl, fun _ => id, fun _ _ => ⟨rfl, rfl⟩, fun _ changed => absurd rfl changed⟩

theorem covered_congr (slots : t.slots = s.slots) (zones : t.zones = s.zones) (i : SlotId) : t.covered i = s.covered i := by
  simp only [State.covered, State.standingOf, State.slot, slots, zones]

/-- An operation that leaves slots, lanes and zones. -/
theorem Onsets.congr (h : Onsets s u) (mode : t.mgmt.mode = u.mgmt.mode) (slots : t.slots = u.slots)
    (lanes : t.lanes = u.lanes) (zones : t.zones = u.zones) : Onsets s t := by
  have still : ∀ i, Untouched u t i := fun i => untouched_of_eq slots lanes
  have covered := covered_congr slots zones
  refine ⟨mode.trans h.mode, fun i => ?_, fun i same => ?_, fun i changed => ?_⟩
  · rw [covered]; exact h.grows i
  · exact (h.same i (by rw [← covered]; exact same)).trans (still i)
  · exact (h.moves i (by rw [← covered]; exact changed)).congr rfl rfl rfl (still i) (covered i)

/-- A zone update after which no slot has lost its coverage. -/
theorem Onsets.update (h : Onsets s u) (zs : Set4)
    (more : ∀ i, u.covered i = true → (u.updateZones zs true).covered i = true) : Onsets s (u.updateZones zs true) := by
  refine ⟨by rw [← h.mode]; simp, fun i before => more i (h.grows i before), fun i same => ?_, fun i changed => ?_⟩
  · obtain ⟨still, -⟩ := updateZones_moves u zs true i
    have unchanged : u.covered i = s.covered i := by
      cases before : s.covered i
      · cases now : u.covered i
        · rfl
        · rw [more i now, before] at same; cases same
      · exact h.grows i before
    exact (h.same i unchanged).trans (still (by rw [same, unchanged]))
  · obtain ⟨still, moved⟩ := updateZones_moves u zs true i
    by_cases earlier : u.covered i = s.covered i
    · have first := h.same i earlier
      exact (moved (by rw [earlier]; exact changed)).congr first.1.symm first.2.symm h.mode.symm ⟨rfl, rfl⟩ rfl
    · have later : (u.updateZones zs true).covered i = u.covered i := by
        cases now : u.covered i
        · cases before : s.covered i
          · rw [now, before] at earlier; exact absurd rfl earlier
          · rw [h.grows i before] at now; cases now
        · exact more i now
      exact (h.moves i earlier).congr rfl rfl rfl (still later) later

/-- The coverage of a slot after a zone update. -/
theorem updateZones_covered (s : State) (zs : Set4) (onset : Bool) (i : SlotId) :
    (s.updateZones zs onset).covered i =
      if zs[(s.slot i).zone] then (s.zoneStanding (s.slot i).zone).covered else s.covered i := by
  have zone : ((s.updateZones zs onset).slot i).zone = (s.slot i).zone := by simp
  simp only [State.covered, State.standingOf, zone, State.updateZones_zones, State.recomputeZones_zone]
  split <;> rfl

theorem zoneStanding_covered (s : State) (z : ZoneId) :
    (s.zoneStanding z).covered = true ↔ ∃ c, ((s.cls c).gives z).1 = true := by
  simp [State.zoneStanding, ClassRecord.gives]

/-- Standings that the classes give more of do not end by a zone update. -/
theorem covered_updateZones_more (stand : ZonesStand s) (slots : t.slots = s.slots) (zones : t.zones = s.zones)
    (more : ∀ c z, ((s.cls c).gives z).1 = true → ((t.cls c).gives z).1 = true) (zs : Set4) (onset : Bool) (i : SlotId)
    (before : s.covered i = true) : (t.updateZones zs onset).covered i = true := by
  rw [updateZones_covered, covered_congr slots zones]
  split
  · have slot : t.slot i = s.slot i := by unfold State.slot; rw [slots]
    simp only [State.covered, State.standingOf, stand (s.slot i).zone] at before
    rw [slot, zoneStanding_covered]
    obtain ⟨c, gives⟩ := (zoneStanding_covered s _).1 before
    exact ⟨c, more c _ gives⟩
  · exact before

/-- A class that becomes active takes no coverage away. -/
theorem Onsets.activate (stand : ZonesStand u) (h : Onsets s u) (c : ClassId) : Onsets s (u.activate c) := by
  unfold State.activate State.onset
  split
  · exact h
  · obtain ⟨w, active⟩ : ∃ w, w = (u.modifyClass c fun r => { r with active := true }).setFlag .holdChange := ⟨_, rfl⟩
    have more : ∀ d z, ((u.cls d).gives z).1 = true → ((w.cls d).gives z).1 = true := by
      intro d z gives
      by_cases own : d = c
      · subst own; simp [active, ClassRecord.gives] at gives ⊢; exact ⟨gives.1.2, gives.2⟩
      · simpa [active, own] using gives
    have slots : w.slots = u.slots := by rw [active]; rfl
    have zones : w.zones = u.zones := by rw [active]; rfl
    have raised : Onsets s w := h.congr (by rw [active]; rfl) slots (by rw [active]; rfl) zones
    rw [← active]
    exact raised.update _ fun i before =>
      covered_updateZones_more stand slots zones more _ true i (by rw [← covered_congr slots zones]; exact before)

/-- Fields of a class that give the zones nothing are written, and the class becomes active. -/
theorem Onsets.activate_modified (stand : ZonesStand u) (h : Onsets s u) (c : ClassId) (f : ClassRecord → ClassRecord)
    (gives : ∀ r z, (f r).gives z = r.gives z) : Onsets s ((u.modifyClass c f).activate c) := by
  have written : ZonesStand (u.modifyClass c f) := zonesStand_congr stand rfl fun d z => ?_
  · exact Onsets.activate written (h.congr rfl rfl rfl rfl) c
  by_cases own : d = c
  · subst own; simp [gives]
  · simp [own]

/-- The standings and the onsets of the hold unit's operations. -/
theorem onsets_unit (s : State) : HoldUnitKeeps fun u => ZonesStand u ∧ Onsets s u where
  node u n f h := ⟨zonesStand_congr h.1 rfl (by simp), h.2.congr rfl rfl rfl rfl⟩
  counters u k v h := ⟨zonesStand_congr h.1 rfl (by simp), h.2.congr (by simp) (by simp) (by simp) (by simp)⟩
  zero u n h := ⟨zonesStand_congr h.1 rfl (by simp), h.2.congr (by simp) (by simp) (by simp) (by simp)⟩
  flag u h := ⟨zonesStand_congr h.1 (by simp) (by simp), h.2.congr (by simp) (by simp) (by simp) (by simp)⟩
  fire u c h := ⟨zonesStand_fire h.1 c, h.2.activate_modified h.1 c _ fun _ _ => rfl⟩
  join u n c h := ⟨zonesStand_joinClass h.1 n c, h.2.activate_modified h.1 c _ fun _ _ => rfl⟩
  leave u n c h := ⟨zonesStand_leaveClass h.1 n c, h.2.congr rfl rfl rfl rfl⟩

/-! #### The events -/

/-- What an event of the hold unit leaves that neither slots nor classes decide. -/
structure UnitFrame (s o : State) : Prop where
  now : o.now = s.now
  trunk : o.trunk = s.trunk
  groups : o.groups = s.groups
  mode : o.mgmt.mode = s.mgmt.mode
  profile : ∀ j, o.profileOf j = s.profileOf j
  ceiling : o.ceilingInForce = s.ceilingInForce
  interval : o.arbiter.staggerInterval = s.arbiter.staggerInterval

theorem unitFrame_unit (s : State) : HoldUnitKeeps (UnitFrame s) where
  node u n f h := by obtain ⟨now, trunk, groups, mode, profile, ceiling, interval⟩ := h; constructor <;> simpa
  counters u k v h := by obtain ⟨now, trunk, groups, mode, profile, ceiling, interval⟩ := h; constructor <;> simpa
  zero u n h := by obtain ⟨now, trunk, groups, mode, profile, ceiling, interval⟩ := h; constructor <;> simpa
  flag u h := by obtain ⟨now, trunk, groups, mode, profile, ceiling, interval⟩ := h; constructor <;> simpa
  fire u c h := by obtain ⟨now, trunk, groups, mode, profile, ceiling, interval⟩ := h; constructor <;> simpa
  join u n c h := by obtain ⟨now, trunk, groups, mode, profile, ceiling, interval⟩ := h; constructor <;> simpa
  leave u n c h := by obtain ⟨now, trunk, groups, mode, profile, ceiling, interval⟩ := h; constructor <;> simpa

theorem unitFrame_clear (s : State) (c : ClassId) : UnitFrame s (s.clear c) := by constructor <;> simp

/-- Whatever the hold unit's operations keep holds after the event (its nodes and rules written, its classes fired, joined
and left). -/
def UnitEvent (s o : State) : Prop := ∀ P : State → Prop, HoldUnitKeeps P → P s → P o

theorem holdMoves_of_unit (h : UnitEvent s o) (account : AccountKept s) (stand : ZonesStand s) : HoldMoves s o true := by
  obtain ⟨now, trunk, groups, mode, profile, ceiling, interval⟩ :=
    h _ (unitFrame_unit s) ⟨rfl, rfl, rfl, rfl, fun _ => rfl, rfl, rfl⟩
  obtain ⟨-, onsets⟩ := h _ (onsets_unit s) ⟨stand, .refl s⟩
  obtain ⟨kept, reservation⟩ := h _ (reservations_zones s).unit ⟨account, fun _ => rfl⟩
  refine ⟨now, trunk, groups, mode, profile, ceiling, interval, h _ (lastGrant_zones s.arbiter.lastGrant).unit rfl, kept,
    reservation, fun served => (h _ (servedQueues_zones s).unit ⟨served, rfl⟩).2, onsets.same, onsets.moves,
    fun i changed => ?_⟩
  cases before : s.covered i
  · rw [before] at changed; simpa using changed
  · exact onsets.grows i before

/-- The end of a class takes coverage away, if it changes any. -/
theorem holdMoves_clear (account : AccountKept s) (stand : ZonesStand s) (c : ClassId) : HoldMoves s (s.clear c) false := by
  obtain ⟨now, trunk, groups, mode, profile, ceiling, interval⟩ := unitFrame_clear s c
  obtain ⟨kept, reservation⟩ := (reservations_zones s).clear ⟨account, fun _ => rfl⟩ c
  obtain ⟨w, ended⟩ : ∃ w, w = (s.modifyClass c fun r => { r with active := false, expiry := none }).setFlag .holdChange :=
    ⟨_, rfl⟩
  have cleared : s.clear c = w.updateZones (s.cls c).zones false := by rw [ended]; rfl
  have slots : w.slots = s.slots := by rw [ended]; rfl
  have lanes : w.lanes = s.lanes := by rw [ended]; rfl
  have before : ∀ i, w.covered i = s.covered i := covered_congr slots (by rw [ended]; rfl)
  have still : ∀ i, Untouched s w i := fun i => untouched_of_eq slots lanes
  refine ⟨now, trunk, groups, mode, profile, ceiling, interval, (lastGrant_zones s.arbiter.lastGrant).clear rfl c, kept,
    reservation, fun served => ((servedQueues_zones s).clear ⟨served, rfl⟩ c).2, ?_, ?_, ?_⟩
  all_goals
    rw [cleared]
    intro i change
    obtain ⟨same, moves⟩ := updateZones_moves w (s.cls c).zones false i
    rw [← before] at change
  · exact (still i).trans (same change)
  · exact (moves change).congr (still i).1.symm (still i).2.symm (by rw [ended]; rfl) ⟨rfl, rfl⟩ rfl
  · by_contra on
    refine change ?_
    rw [Bool.not_eq_false] at on
    rw [on, eq_comm, before, State.covered, State.standingOf, stand, zoneStanding_covered]
    rw [updateZones_covered] at on
    split at on
    · obtain ⟨d, gives⟩ := (zoneStanding_covered ..).1 on
      rw [(still i).1] at gives
      refine ⟨d, ?_⟩
      by_cases own : d = c
      · subst own; simp [ended, ClassRecord.gives] at gives
      · simpa [ended, own] using gives
    · rw [before, State.covered, State.standingOf, stand] at on
      exact (zoneStanding_covered ..).1 on

/-! ### The conclusion (R39 to R42, R114, R115) -/

/-- What HoldsMoveSlots says of the slots and the groups. -/
structure CoverageServed (s t : State) : Prop where
  groups : t.groups = s.groups
  moved : ∀ i, MovedFrom s t i (s.slot i)
  same : ∀ i, t.covered i = s.covered i → SparedOrGranted s t i
  changed : ∀ i, t.covered i ≠ s.covered i → Proceeded s t i (s.slot i).state ∧
    (LaneKept s i → (t.lane i).awaited = (t.slot i).state.waitsOn)
  emergency : ∀ i, (t.slot i).emergencyUnloads =
    if t.covered i && !s.covered i && decide ((s.slot i).state = .loaded ∨ (s.slot i).state = .loading)
    then min ((s.slot i).emergencyUnloads + 1) 65535 else (s.slot i).emergencyUnloads
  grants : TargetsServed s → ∀ z : ZoneId, s.zones[z].frozen = true → t.zones[z].frozen = false → ∀ i, NextGrant s t i →
    s.arbiter.reservationTotal + (s.profileOf i).spinUpDraw ≤ s.ceilingInForce → Granted s t i

theorem coverageServed_of_same (groups : t.groups = s.groups) (slots : t.slots = s.slots) (lanes : t.lanes = s.lanes)
    (zones : t.zones = s.zones) : CoverageServed s t := by
  have still : ∀ i, Untouched s t i := fun i => untouched_of_eq slots lanes
  have covered := covered_congr slots zones
  refine ⟨groups, fun i => ⟨?_, ?_⟩, fun i _ => .inl (still i), fun i changed => absurd (covered i) changed, fun i => ?_,
    fun _ z on off => ?_⟩
  · rw [(still i).1]
  · rw [(still i).2]
  · rw [(still i).1, covered]; simp
  · rw [zones, on] at off; cases off

theorem CoverageServed.answered {v : State} (h : CoverageServed s v) (only : OnlyTrunk v t) : CoverageServed s t := by
  have covered : ∀ i, t.covered i = v.covered i := covered_congr only.slots (by rw [only])
  have frozen : ∀ i, t.frozen i = v.frozen i := fun i => by rw [only]; rfl
  refine ⟨only.groups.trans h.groups, fun i => only.moved (h.moved i), fun i same => ?_, fun i changed => ?_, fun i => ?_,
    fun served z on off i next fits => ?_⟩
  · exact only.spared (h.same i (by rw [← covered]; exact same))
  · obtain ⟨proceeded, awaits⟩ := h.changed i (by rw [← covered]; exact changed)
    refine ⟨only.proceeded proceeded, ?_⟩
    rw [only.slot, only.lane]
    exact awaits
  · rw [only.slot, covered]
    exact h.emergency i
  · unfold NextGrant at next
    simp only [frozen] at next
    have granted := h.grants served z on (by rw [← off, only]) i next fits
    unfold Granted at granted ⊢
    rwa [only.slot, only.arbiter]

/-- An effective target under coverage lies below LOADED (R12). -/
theorem effectiveTarget_of_covered (on : s.covered i = true) : s.effectiveTarget i ≠ .loaded := by
  have capped : ∀ a rest : Target, a.lower ((cap true .parked).lower rest) ≠ .loaded := by
    intro a rest; cases a <;> cases rest <;> decide
  unfold State.effectiveTarget
  rw [on]
  exact capped _ _

theorem HoldMoves.concluded (h : HoldMoves s o onset) (account : AccountKept s) :
    CoverageServed s (concludeEvent s o) ∧ (concludeEvent s o).trunk = s.trunk := by
  have total := total_congr account h.account h.reservation
  have grants := concludeEvent_calm h.account (.inr ⟨total, h.ceiling⟩)
  have zones : (concludeEvent s o).zones = o.zones := by
    obtain ⟨-, -, -, -, -, -, zones, -⟩ := slotEvent_iff.1 grants.event
    exact zones
  have covered : ∀ i, (concludeEvent s o).covered i = o.covered i := fun i => by
    simp only [State.covered, State.standingOf, zones, (grants.configured i).2.1]
  have frozen : ∀ i, (concludeEvent s o).frozen i = o.frozen i := fun i => by
    simp only [State.frozen, State.standingOf, zones, (grants.configured i).2.1]
  refine ⟨⟨grants.groups.trans h.groups, fun i => ?_, fun i same => ?_, fun i changed => ?_, fun i => ?_,
    fun served z on off i next fits => ?_⟩, grants.trunk.trans h.trunk⟩
  · refine grants.moved ?_
    by_cases same : o.covered i = s.covered i
    · rw [MovedFrom, (h.same i same).1, (h.same i same).2]
      exact ⟨rfl, rfl⟩
    · exact (h.moves i same).moved
  · exact grants.spared (h.same i (by rw [← covered]; exact same))
  · have moves := h.moves i (by rw [← covered]; exact changed)
    refine ⟨?_, fun kept => (grants.laneKept (moves.lane kept)).awaited⟩
    unfold Proceeded
    rw [grants.effectiveTarget, ← moves.state]
    rcases grants.slots i with e | e
    · exact .inl (by rw [e.1])
    · exact .inr ⟨e.waited, by rw [e.slot], by rw [e.last, h.now]⟩
  · rw [grants.emergency, covered]
    by_cases same : o.covered i = s.covered i
    · rw [(h.same i same).1, same]; simp
    · rw [(h.moves i same).emergency, h.direction i same]
      have before : s.covered i = !onset := by
        rw [← h.direction i same]
        exact Bool.eq_not.2 (Ne.symm same)
      cases onset with
      | false => simp
      | true =>
        have low := effectiveTarget_of_covered (h.direction i same)
        simp [before, low, countUp, Config.counterMax, or_comm]
  · refine concludeEvent_grants h.account ?_ h.now h.mode (h.queues served) h.last h.interval (fun j => (frozen j).symm)
      (h.profile i) next (by rw [total, h.ceiling]; exact fits)
    rw [zones] at off
    simp only [grantOpportunity, Bool.or_eq_true, List.any_eq_true, Bool.and_eq_true]
    exact .inr ⟨z, List.mem_finRange z, on, by rw [off]; rfl⟩

/-- A table write answers a state that its owning block has stored, or the state it found. -/
theorem tableWrite_stored (s : State) (tb : Table) (tag index : Byte) (entry : List Byte) (write : State → Written) :
    ∃ v, OnlyTrunk v (s.tableWrite tb tag index entry write) ∧
      (v = s ∨ index.toNat < tb.entries ∧ write s = .stored v) := by
  unfold State.tableWrite State.manage
  rcases s.withRoom_cases _ with ⟨-, e⟩ | ⟨-, e⟩ <;> rw [e]
  · exact ⟨s, rfl, .inl rfl⟩
  split
  · exact ⟨s, (State.refuse_answeredOnly ..).1, .inl rfl⟩
  dsimp only
  split
  · rename_i low
    split
    · exact ⟨s, (State.refuse_answeredOnly ..).1, .inl rfl⟩
    · rename_i v stored
      exact ⟨v, (State.done_answeredOnly ..).1, .inr ⟨low, stored⟩⟩
  · exact ⟨s, (State.refuse_answeredOnly ..).1, .inl rfl⟩

/-- A node configuration write that is stored is an event of the hold unit. -/
theorem writeNode_stored {n : NodeId} {entry : List Byte} (h : s.writeNode n entry = .stored t) :
    ∃ c, t = concludeEvent s (s.configureNode n c) := by
  unfold State.writeNode at h
  split at h
  · cases h
  · split at h
    · cases h
    · cases h; exact ⟨_, rfl⟩

/-- Settles O47: an event of the hold unit moves the slots whose coverage it changes, all one way, and concludes. -/
theorem holdsMoveSlots : Obligations.HoldsMoveSlots := by
  intro s cmd named account _ holds
  have stand := (holdsKept_iff.1 holds).2
  have unit : ∀ {o : State}, UnitEvent s o → CoverageServed s (concludeEvent s o) ∧ (concludeEvent s o).trunk = s.trunk :=
    fun event => (holdMoves_of_unit event account stand).concluded account
  have still : CoverageServed s s := coverageServed_of_same rfl rfl rfl rfl
  suffices served : ∃ t, exec cmd s = .next t ∧ CoverageServed s t ∧
      ((∀ tag index entry, cmd ≠ .nodeConfigurationWrite tag index entry) → t.trunk = s.trunk) by
    obtain ⟨t, run, ⟨groups, moved, same, changed, emergency, grants⟩, trunk⟩ := served
    exact ⟨t, run, groups, trunk, fun i => ⟨moved i, same i, changed i, emergency i⟩, grants⟩
  rcases named with ⟨n, node, seq, x, y, z, rfl⟩ | ⟨n, rfl⟩ | ⟨c, rfl⟩ | ⟨tag, index, entry, rfl⟩
  · obtain ⟨served, trunk⟩ := unit fun P K h => K.takeSample n node seq x.toInt y.toInt z.toInt h
    exact ⟨_, rfl, served, fun _ => trunk⟩
  · change ∃ t, execSilenceTimerExpiry n s = _ ∧ _
    unfold execSilenceTimerExpiry
    split
    · obtain ⟨served, trunk⟩ := unit fun P K h => K.silence n h
      exact ⟨_, rfl, served, fun _ => trunk⟩
    · exact ⟨s, rfl, still, fun _ => rfl⟩
  · change ∃ t, execClassExpiry c s = _ ∧ _
    unfold execClassExpiry
    split
    · split
      · obtain ⟨served, trunk⟩ := (holdMoves_clear account stand c).concluded account
        exact ⟨_, rfl, served, fun _ => trunk⟩
      · exact ⟨_, rfl, coverageServed_of_same rfl rfl rfl rfl, fun _ => rfl⟩
    · exact ⟨s, rfl, still, fun _ => rfl⟩
  · refine ⟨_, writeCommand_run .nodeConfiguration tag index entry s, ?_, fun other => absurd rfl (other tag index entry)⟩
    obtain ⟨v, only, rfl | ⟨low, stored⟩⟩ :=
      tableWrite_stored s .nodeConfiguration tag index entry fun t => t.written .nodeConfiguration index entry
    · exact still.answered only
    · rw [written_nodeConfiguration (n := ⟨index.toNat, low⟩) rfl] at stored
      obtain ⟨cfg, rfl⟩ := writeNode_stored stored
      exact (unit fun P K h => K.configureNode _ cfg h).1.answered only

end

end Sys2Proof.Machine
end

section
/-! PROOFS. Configuration writes of the sensor nodes and the classes (R70, R93 to R95, R116, R117). -/

namespace Sys2Proof.Machine

section
variable {s t u o : State} {n : NodeId} {c : NodeConfig}

/-! ### A node's configuration (R70, R84, R93 to R95) -/

/-- The class of which the node is a blind holder. -/
def State.blindOf (s : State) (n : NodeId) : Option ClassId :=
  if (s.node n).status.blind then (s.node n).config.blindClass else none

/-- The node record after a configuration write, and the rules' counters of the node where it is disabled. -/
def State.supervised (s : State) (n : NodeId) (c : NodeConfig) : State :=
  let t := s.modifyNode n fun r => r.configured c
  match (s.node n).config.enabled, c.enabled with
  | true, false => (t.modifyNode n NodeRecord.disabled).zeroCounters n
  | false, true => t.modifyNode n fun r => r.enabledAt s.now
  | _, _ => t

/-- The record of a node whose configuration is written. -/
def NodeRecord.rewritten (r : NodeRecord) (now : Nat) (c : NodeConfig) : NodeRecord :=
  match r.config.enabled, c.enabled with
  | true, false => (r.configured c).disabled
  | false, true => (r.configured c).enabledAt now
  | _, _ => r.configured c

theorem supervised_node (s : State) (n : NodeId) (c : NodeConfig) (m : NodeId) :
    (s.supervised n c).node m = if m = n then (s.node n).rewritten s.now c else s.node m := by
  unfold State.supervised NodeRecord.rewritten
  by_cases own : m = n
  · subst own
    cases (s.node m).config.enabled <;> cases c.enabled <;> simp
  · cases (s.node n).config.enabled <;> cases c.enabled <;> simp [own]

theorem supervised_rule (s : State) (n : NodeId) (c : NodeConfig) (k : Fin 16) : (s.supervised n c).rule k =
    if (s.node n).config.enabled = true ∧ c.enabled = false
    then { s.rule k with counters := (s.rule k).counters.set n.val 0 n.isLt } else s.rule k := by
  unfold State.supervised
  cases (s.node n).config.enabled <;> cases c.enabled <;> simp [State.zeroCounters_rule]

/-- Nothing but the node's record and the rules changes before the classes do. -/
theorem supervised_frame (s : State) (n : NodeId) (c : NodeConfig) :
    (s.supervised n c).now = s.now ∧ (s.supervised n c).mgmt = s.mgmt ∧ ∀ d, (s.supervised n c).cls d = s.cls d := by
  unfold State.supervised
  cases (s.node n).config.enabled <;> cases c.enabled <;> simp

theorem blindOf_supervised (s : State) (n : NodeId) (c : NodeConfig) : (s.supervised n c).blindOf n =
    if (s.node n).config.enabled = c.enabled then (if (s.node n).status.blind then c.blindClass else none)
    else if c.enabled then c.blindClass else none := by
  rw [State.blindOf, supervised_node, if_pos rfl, NodeRecord.rewritten]
  cases (s.node n).config.enabled <;> cases c.enabled <;> rfl

theorem holders_eq (kept : NodeKept s n) (d : ClassId) : (s.cls d).holders[n] = decide (s.blindOf n = some d) := by
  rw [Bool.eq_iff_iff, kept.holder, decide_eq_true_eq, State.blindOf]
  split <;> simp [*]

/-- A configuration write writes the node's record, and the node leaves the class it held for the class it then holds. -/
theorem configureNode_eq (kept : NodeKept s n) (c : NodeConfig) : s.configureNode n c =
    if s.blindOf n = (s.supervised n c).blindOf n then s.supervised n c
    else ((s.supervised n c).leaveBlind n (s.blindOf n)).joinBlind n ((s.supervised n c).blindOf n) := by
  have off := kept.enabled
  rw [blindOf_supervised]
  unfold State.configureNode State.blindOf State.supervised
  have unheld : ∀ (u : State), u.leaveBlind n none = u := fun _ => rfl
  have unjoined : ∀ (u : State), u.joinBlind n none = u := fun _ => rfl
  cases was : (s.node n).config.enabled <;> cases is : c.enabled <;> dsimp only
  case true.false => cases (s.node n).status.blind <;> cases (s.node n).config.blindClass <;> simp [was, unheld, unjoined]
  case false.true =>
    rw [off.2 was]
    cases c.blindClass <;> simp [was, NodeStatus.blind, unheld, unjoined]
  all_goals cases (s.node n).status.blind <;> by_cases same : (s.node n).config.blindClass = c.blindClass <;> simp [was, same]

/-- The classes after a configuration write: the node leaves one and joins another, or none changes. -/
theorem configureNode_cls (kept : NodeKept s n) (c : NodeConfig) (d : ClassId) : (s.configureNode n c).cls d =
    let held : Bool := (s.cls d).holders[n]
    let holds : Bool := decide ((s.supervised n c).blindOf n = some d)
    if held = holds then s.cls d
    else if holds then { s.cls d with active := true, holders := (s.cls d).holders.set n.val true n.isLt }
    else (s.cls d).leftBy s.now n := by
  obtain ⟨now, -, cls⟩ := supervised_frame s n c
  dsimp only
  rw [configureNode_eq kept, holders_eq kept]
  generalize (s.supervised n c).blindOf n = b at *
  split
  · rename_i same
    rw [same, if_pos rfl, cls]
  · rename_i differ
    rw [State.joinBlind_cls, State.leaveBlind_cls, cls, now]
    by_cases before : s.blindOf n = some d
    · have after : b ≠ some d := fun e => differ (before.trans e.symm)
      simp [before, after]
    · by_cases after : b = some d <;> simp [before, after]

theorem configureNode_node (kept : NodeKept s n) (c : NodeConfig) (m : NodeId) :
    (s.configureNode n c).node m = if m = n then (s.node n).rewritten s.now c else s.node m := by
  rw [configureNode_eq kept, ← supervised_node]
  split <;> simp

theorem configureNode_rule (kept : NodeKept s n) (c : NodeConfig) (k : Fin 16) : (s.configureNode n c).rule k =
    if (s.node n).config.enabled = true ∧ c.enabled = false
    then { s.rule k with counters := (s.rule k).counters.set n.val 0 n.isLt } else s.rule k := by
  rw [configureNode_eq kept, ← supervised_rule]
  split <;> simp

theorem configureNode_nodeSilent (kept : NodeKept s n) (c : NodeConfig) :
    (s.configureNode n c).mgmt.flags.nodeSilent = s.mgmt.flags.nodeSilent := by
  obtain ⟨-, mgmt, -⟩ := supervised_frame s n c
  have joins : ∀ (u : State) b, (u.joinBlind n b).mgmt.flags.get .nodeSilent = u.mgmt.flags.get .nodeSilent := fun u b => by
    cases b with
    | none => rfl
    | some d => exact activate_flag _ d (by decide)
  rw [configureNode_eq kept, ← mgmt]
  split
  · rfl
  · refine (joins _ _).trans ?_
    simp [EventFlags.get]

/-- A class that the node joins while it is inactive has an onset (R106). -/
theorem configureNode_onset (kept : NodeKept s n) (c : NodeConfig) {d : ClassId} (joins : (s.supervised n c).blindOf n = some d)
    (fresh : (s.cls d).holders[n] = false) (idle : (s.cls d).active = false) :
    (s.configureNode n c).mgmt.flags.holdChange = true := by
  rw [holders_eq kept, decide_eq_false_iff_not] at fresh
  rw [configureNode_eq kept, if_neg (by rw [joins]; exact fresh), joins]
  refine State.activate_holdChange _ d ?_
  simp [State.leaveBlind_cls, fresh, supervised_frame, idle]

/-- In CONFIG an event that leaves total and ceiling concludes with nothing more. -/
theorem concludeEvent_of_config (config : o.mgmt.mode = .config) (total : o.arbiter.reservationTotal = s.arbiter.reservationTotal)
    (ceiling : o.ceilingInForce = s.ceilingInForce) : concludeEvent s o = o := by
  unfold concludeEvent
  rw [look_of_config config, ite_self]
  exact testIfChanged_of_same total ceiling

/-- The entry of a node configuration write, read. -/
theorem nodeEntry_fields (e : Bool) (d : Direction) (gw : Word16) (kb sl rc : Byte) (blind : Option ClassId) :
    nodeEntry ([if e then 1 else 0, byte d.code, highByte gw, lowByte gw, kb, sl, rc] ++ optOne (blind.map (·.val))) =
      some ⟨e, d, max 500 (min 2000 gw.toNat), max 1 (min 6 kb.toNat), max 2 sl.toNat, max 1 (min 15 rc.toNat), blind⟩ := by
  have silence : clampNat 2 255 sl.toNat = max 2 sl.toNat := by
    have := sl.isLt
    unfold clampNat; omega
  simp only [optOne, one, List.cons_append, List.nil_append, nodeEntry, yesNo_byte, directionOf_code, blindClassOf_byte,
    Option.bind_eq_bind, Option.bind_some, Option.pure_def, wordNat, wordOf_bytes, silence]
  rfl

/-- Settles O25: in CONFIG the write is the node's rewritten record and the move of its blind hold, and nothing follows. -/
theorem nodeConfigurationWriteActs : Obligations.NodeConfigurationWriteActs := by
  intro s tag index kb sl rc gw e d blind n room at_ config account nodes old cfg
  have kept := nodes n
  obtain ⟨o, ho⟩ : ∃ o, o = s.configureNode n cfg := ⟨_, rfl⟩
  have concluded : concludeEvent s o = o := by
    obtain ⟨after, reservation⟩ := (reservations_zones s).unit.configureNode n cfg ⟨account, fun _ => rfl⟩
    rw [ho]
    exact concludeEvent_of_config (by simp [config]) (total_congr account after reservation) (by simp)
  have read : nodeEntry ([if e then 1 else 0, byte d.code, highByte gw, lowByte gw, kb, sl, rc] ++
      optOne (blind.map (·.val))) = some cfg := nodeEntry_fields ..
  have stored : s.written .nodeConfiguration index ([if e then 1 else 0, byte d.code, highByte gw, lowByte gw, kb, sl, rc] ++
      optOne (blind.map (·.val))) = .stored o := by
    rw [written_nodeConfiguration at_, State.writeNode, if_neg (by simp [config]), read]
    dsimp only
    rw [← ho, concluded]
  have node : ∀ m, o.node m = if m = n then old.rewritten s.now cfg else s.node m := fun m => by
    rw [ho, configureNode_node kept]
  have entered : o.entryBytes .nodeConfiguration index.toNat = cfg.bytes := by
    rw [← at_, entryBytes_nodeConfiguration, node, if_pos rfl, NodeRecord.rewritten]
    cases old.config.enabled <;> cases cfg.enabled <;> rfl
  obtain ⟨t, run, only, queue, -, -⟩ := write_answered room rfl (at_ ▸ n.isLt) stored entered tag
  have nodeT : ∀ m, t.node m = o.node m := fun m => by rw [only]; rfl
  have mgmt : t.mgmt = o.mgmt := only.mgmt
  refine ⟨t, run, ?_, ?_, fun m other => ?_, ?_, fun k m => ?_, fun c => ?_⟩
  · rw [queue, show o.trunk = s.trunk by rw [ho]; simp]
    simp [NodeConfig.bytes, flagByte_bit, one, two, cfg, Table.code, byte]
  · rw [nodeT, node, if_pos rfl, NodeRecord.rewritten]
    cases was : old.config.enabled <;> cases is : e <;>
      simp [cfg, is, NodeRecord.configured, NodeRecord.disabled, NodeRecord.enabledAt]
  · rw [nodeT, node, if_neg other]
  · rw [mgmt, ho, configureNode_nodeSilent kept]
  · rw [show t.rule k = o.rule k by rw [only]; rfl, ho, configureNode_rule kept]
    by_cases own : m = n
    · subst own
      simp only [true_and]
      split <;> simp
    · simp only [own, false_and, if_false]
      split <;> simp [Fin.val_inj, Ne.symm own]
  · intro held holds
    have after : holds = decide ((s.supervised n cfg).blindOf n = some c) := by
      have class_ : (old.rewritten s.now cfg).config.blindClass = blind := by
        rw [NodeRecord.rewritten]; cases old.config.enabled <;> cases cfg.enabled <;> rfl
      simp only [holds, nodeT, node, State.blindOf, supervised_node, if_true, old] at class_ ⊢
      rw [class_]
      cases ((s.node n).rewritten s.now cfg).status.blind <;> simp
    have cls : t.cls c = (s.configureNode n cfg).cls c := by rw [only, ← ho]; rfl
    have later := laterExpiry_eq (s.cls c).expiry s.now (s.cls c).holdTime
    refine ⟨?_, fun fresh joins idle => ?_⟩
    · rw [cls, configureNode_cls kept, ← after, ClassRecord.leftBy, later]
      have here : (s.cls c).holders[n] = held := rfl
      clear_value held holds
      simp only [here]
      cases held <;> cases holds <;> simp
    · rw [mgmt, ho]
      exact configureNode_onset kept cfg (by simpa [after] using joins) fresh idle

/-! ### A class's fields (R116, R117) -/

/-- The class record with its four fields written. -/
def ClassRecord.withFields (r : ClassRecord) (zs : Set4) (unload freeze : Bool) (hold : Nat) : ClassRecord :=
  { r with zones := zs, unload := unload, freeze := freeze, holdTime := hold }

/-- The entry of a class write, read. -/
theorem classEntry_fields (zs : Set4) (unload freeze : Bool) (w : Word16) :
    classEntry (set4Byte zs ++ [byte ((if unload then 1 else 0) + (if freeze then 2 else 0)), highByte w, lowByte w]) =
      some (zs, unload, freeze, max 1 (min 6000 w.toNat)) := by
  have effects : (if unload then 1 else 0) + (if freeze then 2 else 0) = bitOf unload 0 + bitOf freeze 1 := by
    cases unload <;> cases freeze <;> rfl
  simp only [effects, set4Byte, one, List.cons_append, List.nil_append, classEntry, set4Of_byte, effectsOf_byte,
    Option.bind_eq_bind, Option.bind_some, Option.pure_def, wordNat, wordOf_bytes]
  rfl

theorem Set4.getElem_union (a b : Set4) (z : Fin 4) : (Set4.union a b)[z] = (a[z] || b[z]) := by
  simp [Set4.union]

/-- Settles O26: an inactive class is stored alone; in CONFIG the zones an active one names before or after are updated, and
nothing follows. -/
theorem classWriteActs : Obligations.ClassWriteActs := by
  intro s tag index zs u fr w c room at_ account holds stored entry
  have read : classEntry entry = some (zs, u, fr, max 1 (min 6000 w.toNat)) := classEntry_fields ..
  obtain ⟨v, hv⟩ : ∃ v, v = s.modifyClass c fun _ => stored := ⟨_, rfl⟩
  have classes : v.classes = s.classes.set c.val stored := by rw [hv]; rfl
  have own : v.cls c = stored := by rw [hv]; simp
  have form : entryLength Table.classes.code = some entry.length := rfl
  have low : index.toNat < Table.classes.entries := at_ ▸ c.isLt
  have written : s.written .classes index entry = if s.mgmt.mode = .run ∧ (s.cls c).active then .refused .classActive
      else .stored (if (s.cls c).active then concludeEvent s (v.updateZones (Set4.union (s.cls c).zones zs) false) else v) := by
    rw [written_classes at_, State.writeClass, read, hv]
    rfl
  have entered : ∀ o : State, o.cls c = stored → o.now = s.now → o.entryBytes .classes index.toNat = stored.fieldBytes ++
      (flagByte (s.cls c).active ++ optTwo (remaining s.now stored.expiry) ++ set4Byte stored.holders ++ two stored.fireCount) :=
    fun o record now => by rw [← at_, entryBytes_classes, record, now]
  refine ⟨fun idle => ?_, fun active config => ?_⟩
  · have calm : s.written .classes index entry = .stored v := by rw [written, idle]; simp
    obtain ⟨t, run, answered⟩ := write_answered room form low calm (entered v own (by simp [hv])) tag
    have named : v = { s with classes := s.classes.set c.val stored } := by rw [hv]; rfl
    rw [named, idle] at answered
    exact ⟨t, run, by simpa [flagByte_bit, Table.code, byte] using answered⟩
  · obtain ⟨o, ho⟩ : ∃ o, o = v.updateZones (Set4.union (s.cls c).zones zs) false := ⟨_, rfl⟩
    have still : ∀ i, Untouched s v i := fun i => by rw [hv]; exact ⟨rfl, rfl⟩
    have mgmt : o.mgmt = s.mgmt := by rw [ho, hv]; simp
    have ceiling : o.ceilingInForce = s.ceilingInForce := by rw [ho, hv]; simp
    have concluded : concludeEvent s o = o := by
      obtain ⟨after, reservation⟩ := (reservations_zones s).zones v (Set4.union (s.cls c).zones zs) false
        ⟨accountKept_congr account (by rw [hv]; rfl) (by rw [hv]; rfl) (by rw [hv]; rfl) (by rw [hv]; rfl),
          fun i => by rw [(still i).1]⟩
      rw [← ho] at after reservation
      exact concludeEvent_of_config (by rw [mgmt, config]) (total_congr account after reservation) ceiling
    have acts : s.written .classes index entry = .stored o := by
      rw [written, active, ← ho, concluded]; simp [config]
    obtain ⟨t, run, only, queue, -, -⟩ := write_answered room form low acts
      (entered o (by rw [ho]; simpa using own) (by rw [ho, hv]; simp)) tag
    have zone : ∀ z : ZoneId, t.zones[z] = if (Set4.union (s.cls c).zones zs)[z] then v.zoneStanding z else s.zones[z] := by
      intro z
      rw [show t.zones = o.zones by rw [only], ho, State.updateZones_zones, State.recomputeZones_zone, hv]
      rfl
    have gives : ∀ z : ZoneId, (v.cls c).gives z = (u && zs[z], fr && zs[z]) := fun z => by
      rw [own]; simp only [ClassRecord.gives, stored, active, Bool.true_and]
    refine ⟨t, run, ?_, ?_, only.mgmt.trans mgmt, fun z before after => ?_, fun z named => ⟨fun unloads => ?_, fun freezes => ?_⟩,
      fun i => ?_⟩
    · rw [show t.classes = o.classes by rw [only], ho, ← classes]; simp
    · rw [queue, show o.trunk = s.trunk by rw [ho, hv]; simp, active]
      simp [flagByte_bit, Table.code, byte]
    · rw [zone, if_neg (by rw [Set4.getElem_union, before, after]; decide)]
    · rw [zone, if_pos (by rw [Set4.getElem_union, named, Bool.or_true]), zoneStanding_covered]
      exact ⟨c, by rw [gives, unloads, named]; rfl⟩
    · rw [zone, if_pos (by rw [Set4.getElem_union, named, Bool.or_true])]
      simp only [State.zoneStanding, List.any_eq_true]
      have on := congrArg Prod.snd (gives z)
      exact ⟨c, List.mem_finRange c, on.trans (by rw [freezes, named]; rfl)⟩
    · have covered : t.covered i = o.covered i := covered_congr only.slots (by rw [only]) i
      have before : v.covered i = s.covered i := covered_congr (by rw [hv]; rfl) (by rw [hv]; rfl) i
      obtain ⟨same, moves⟩ := updateZones_moves v (Set4.union (s.cls c).zones zs) false i
      rw [← ho, before] at same moves
      rw [covered]
      by_cases changed : o.covered i = s.covered i
      · have calm := ((still i).trans (same changed)).trans (only.untouched i)
        exact ⟨by rw [calm.1], fun _ => calm, fun differs => absurd changed differs⟩
      · have moved := (moves changed).congr (still i).1.symm (still i).2.symm (by rw [hv]; rfl) (only.untouched i) covered
        exact ⟨by rw [moved.emergency]; simp, fun stays => absurd stays changed, fun _ => .inl moved.state⟩

end

end Sys2Proof.Machine
end

section
/-! PROOFS. SET_MODE (R25, R31, R32, R190). -/

namespace Sys2Proof.Machine

section
variable {s t u : State} {i j : SlotId}

/-! ### The mode becoming RUN (R25) -/

/-- The slot is STOPPED below its effective target. -/
abbrev State.rises (s : State) (i : SlotId) : Prop := (s.slot i).state = .stopped ∧ s.effectiveTarget i ≠ .stopped

/-- The state in RUN in which every STOPPED slot has gone by its rule, before the arbiter looks. -/
def State.raised (s : State) : State :=
  (s.setMode .run).forSlots allSlots fun i t => if (t.slot i).state = .stopped then t.proceed i false else t

theorem enterRun_eq (s : State) : s.enterRun = testIfChanged s s.raised.look := rfl

theorem proceed_rests (stopped : (s.slot i).state = .stopped) (down : s.effectiveTarget i = .stopped) (onset : Bool) :
    s.proceed i onset = s := by
  simp [State.proceed, stopped, down]

theorem afterRecompute_raised {target : Target} (up : target ≠ .stopped) : afterRecompute true .stopped target = .queued := by
  cases target
  · exact absurd rfl up
  · rfl
  · rfl

theorem raised_turned (s : State) : Turned (s.setMode .run) s.rises false s.raised := by
  have target : ∀ (i : SlotId) (u : State), u.slot i = (s.setMode .run).slot i → u.zones = (s.setMode .run).zones →
      u.effectiveTarget i = s.effectiveTarget i := fun i u slot zones => by
    refine effectiveTarget_congr slot ?_
    simp only [State.covered, State.standingOf, slot, zones]
    rfl
  refine turned_forSlots (fun i u waits slot zones => if_pos (by rw [slot]; exact waits.1)) fun i u stays slot zones => ?_
  split
  · rename_i stopped
    refine proceed_rests stopped ?_ false
    by_contra up
    exact stays ⟨by rw [slot] at stopped; exact stopped, by rw [← target i u slot zones]; exact up⟩
  · rfl

theorem raised_reservation (account : AccountKept s) (j : SlotId) : (s.raised.slot j).reservation = (s.slot j).reservation := by
  refine (State.forSlots_induct (P := fun u => AccountKept u ∧ ∀ j, (u.slot j).reservation = (s.slot j).reservation)
    allSlots (t := s.setMode .run) ⟨accountKept_congr account rfl rfl rfl rfl, fun _ => rfl⟩ fun i _ u ⟨kept, same⟩ => ?_).2 j
  split
  · exact ⟨accountKept_proceed kept i false, fun j => (proceed_reservation (kept.slots i) j false).trans (same j)⟩
  · exact ⟨kept, same⟩

/-- What no raised slot changes. -/
theorem raised_frame (s : State) : s.raised.mgmt = { s.mgmt with mode := .run } ∧ s.raised.trunk = s.trunk ∧
    s.raised.now = s.now ∧ s.raised.ceilingInForce = s.ceilingInForce ∧ s.raised.arbiter.lastGrant = s.arbiter.lastGrant := by
  unfold State.raised
  refine State.forSlots_induct (P := fun u => u.mgmt = { s.mgmt with mode := .run } ∧ u.trunk = s.trunk ∧
    u.now = s.now ∧ u.ceilingInForce = s.ceilingInForce ∧ u.arbiter.lastGrant = s.arbiter.lastGrant)
    allSlots (t := s.setMode .run) ⟨rfl, rfl, rfl, rfl, rfl⟩ fun i _ u ⟨mgmt, trunk, now, ceiling, last⟩ => ?_
  split
  · exact ⟨by simp [mgmt], by simp [trunk], by simp [now], by simp [ceiling], (State.proceed_lastGrant ..).trans last⟩
  · exact ⟨mgmt, trunk, now, ceiling, last⟩

/-! #### The order in the queues (R31, R32) -/

/-- The queue that a slot without an active request takes (R31). -/
def State.lastQueue (s : State) (i : SlotId) : Fin 4 :=
  ((s.slot i).lastPriority.map fun p => s.arbiter.priorityMap[p]).getD 0

theorem queueChoice_last (quiet : (s.slot i).active = none) :
    s.queueChoice i = (s.lastQueue i, (s.slot i).lastPriority) := by
  unfold State.queueChoice State.lastQueue
  rw [quiet]
  cases (s.slot i).lastPriority <;> rfl

/-- Raised slots that have no request join the queues of their last priorities in the order of the walk. -/
theorem forSlots_raised_queues (is : List SlotId) (once : is.Nodup) (slots : ∀ i ∈ is, u.slot i = s.slot i)
    (zones : u.zones = s.zones) (run : u.mgmt.mode = .run) (priorities : u.arbiter.priorityMap = s.arbiter.priorityMap)
    (quiet : ∀ i ∈ is, s.rises i → (s.slot i).active = none) (q : Fin 4) :
    (u.forSlots is fun i t => if (t.slot i).state = .stopped then t.proceed i false else t).arbiter.queues[q] =
      u.arbiter.queues[q] ++
        (is.filter fun i => decide ((s.slot i).state = .stopped ∧ s.effectiveTarget i ≠ .stopped) &&
          decide (q = s.lastQueue i)).map fun i => ⟨i, (s.slot i).lastPriority⟩ := by
  induction is generalizing u with
  | nil => simp [State.forSlots]
  | cons i is ih =>
    obtain ⟨fresh, once⟩ := List.nodup_cons.1 once
    have slot := slots i (by simp)
    have target : u.effectiveTarget i = s.effectiveTarget i :=
      effectiveTarget_congr slot (by simp only [State.covered, State.standingOf, slot, zones])
    have quiet' : ∀ j ∈ is, s.rises j → (s.slot j).active = none := fun j m => quiet j (by simp [m])
    change (State.forSlots (if (u.slot i).state = .stopped then u.proceed i false else u) is _).arbiter.queues[q] = _
    by_cases up : s.rises i
    · have others : ∀ j ∈ is, (u.proceed i false).slot j = s.slot j := fun j m => by
        have other : j ≠ i := fun e => fresh (by rw [← e]; exact m)
        rw [(u.proceed_other other false).1]
        exact slots j (by simp [m])
      rw [if_pos (by rw [slot]; exact up.1), ih once others (by simp [zones]) (by simp [run]) (by simp [priorities]) quiet',
        proceed_raised u i (by rw [slot]; exact up.1) run (by rw [target]; exact up.2), raised_queues,
        queueChoice_last (by rw [slot]; exact quiet i (by simp) up)]
      have same : u.lastQueue i = s.lastQueue i := by simp only [State.lastQueue, slot, priorities]
      rw [List.filter_cons, same, slot]
      by_cases own : q = s.lastQueue i
      · simp [own, show (s.slot i).state = .stopped from up.1, show s.effectiveTarget i ≠ .stopped from up.2]
      · simp [own]
    · have still : (if (u.slot i).state = .stopped then u.proceed i false else u) = u := by
        split
        · rename_i stopped
          refine proceed_rests stopped ?_ false
          by_contra high
          exact up ⟨by rw [← slot]; exact stopped, by rw [← target]; exact high⟩
        · rfl
      rw [still, ih once (fun j m => slots j (by simp [m])) zones run priorities quiet', List.filter_cons,
        if_neg (by rw [Bool.and_eq_true, decide_eq_true_eq]; exact fun both => up both.1)]

/-! ### The requests (R190) -/

theorem quiet_iff : s.quiet = true ↔
    (∀ i, (s.slot i).state = .empty ∨ (s.slot i).state = .stopped ∨ (s.slot i).state = .fault) ∧ ∀ g, s.group g = none := by
  have rest : ∀ st : SlotState, st.atRest = true ↔ st = .empty ∨ st = .stopped ∨ st = .fault := by
    intro st; cases st <;> decide
  simp [State.quiet, rest, allSlots]

theorem exec_setModeRun (room : s.freeEntries ≠ 0) (tag : Byte) : exec (.setModeRun tag) s =
    .next ((if s.mgmt.mode = .run then s else s.enterRun).done 5 tag [1]) := by
  change execSetModeRun tag s = _
  rw [execSetModeRun, manage_taken room rfl]
  cases s.mgmt.mode
  · simp [Mode.code, byte]
  · simp [Mode.code, byte]

theorem exec_setModeConfig (room : s.freeEntries ≠ 0) (tag : Byte) : exec (.setModeConfig tag) s =
    .next (if s.mgmt.mode = .config then s.done 5 tag [0]
      else if s.quiet then (s.setMode .config).done 5 tag [0] else s.refuse 5 tag .inUse) := by
  change execSetModeConfig tag s = _
  rw [execSetModeConfig, manage_taken room rfl]
  cases s.mgmt.mode
  · simp [Mode.code, byte]
  · simp [Mode.code, byte]

/-- Settles O27: the refusals by the quiet test, and the raised slots, the look and their queues where RUN is entered. -/
theorem modeRequests : Obligations.ModeRequests := by
  intro s tag room
  have differ : s.mgmt.mode = .run → s.mgmt.mode ≠ .config := fun run config => by rw [run] at config; cases config
  refine ⟨fun run => ?_, fun config => ?_, fun run rests closed => ?_, fun run busy => ?_, fun config account => ?_⟩
  · exact ⟨_, exec_setModeRun room tag, by rw [if_pos run]; exact State.done_answeredOnly ..⟩
  · exact ⟨_, exec_setModeConfig room tag, by rw [if_pos config]; exact State.done_answeredOnly ..⟩
  · refine ⟨_, exec_setModeConfig room tag, ?_⟩
    rw [if_neg (differ run), if_pos (quiet_iff.2 ⟨rests, closed⟩)]
    exact State.done_answeredOnly ..
  · refine ⟨_, exec_setModeConfig room tag, ?_⟩
    rw [if_neg (differ run), if_neg]
    · exact State.refuse_answeredOnly ..
    · rintro quiet
      obtain ⟨rests, closed⟩ := quiet_iff.1 quiet
      rcases busy with ⟨i, up, stopped, fault⟩ | ⟨g, open_⟩
      · rcases rests i with e | e | e
        · exact up e
        · exact stopped e
        · exact fault e
      · rw [closed g] at open_; cases open_
  · intro raised
    obtain ⟨mgmt, trunk, now, ceiling, last⟩ := raised_frame s
    have turned := raised_turned s
    have kept : AccountKept s.raised := accountKept_enterRun account
    have grants := (GrantsOnly.refl kept).look
    have calm := testIfChanged_calm (before := s) grants
      (.inr ⟨total_congr account kept (raised_reservation account), ceiling⟩)
    have concluded : GrantsOnly s.raised s.enterRun := by
      rw [enterRun_eq]
      rcases calm with e | e <;> rw [e]
      · exact grants
      · exact grants.overCeiling false
    obtain ⟨only, queue, -⟩ := s.enterRun.done_answeredOnly 5 tag [1]
    refine ⟨_, by rw [exec_setModeRun room, if_neg (by rw [config]; decide)], ?_, ?_, fun i up => ?_, fun i down => ?_, ?_⟩
    · rw [only.mgmt, concluded.mgmt, mgmt]
    · rw [queue, concluded.trunk, trunk]; rfl
    · have rises : s.rises i := of_decide_eq_true up
      obtain ⟨moved, state, -, -⟩ := turned.turned i rises
      have own : MovedFrom s s.raised i (s.slot i) := moved
      refine ⟨?_, only.moved (concluded.moved own)⟩
      have target : s.raised.effectiveTarget i = s.effectiveTarget i := by
        have covered := turned.covered i
        simp only [State.effectiveTarget, covered]
        rw [own.1]
        rfl
      have queued : (s.raised.slot i).state = .queued := by
        rw [state, target, show ((s.setMode .run).slot i).state = .stopped from rises.1]
        exact afterRecompute_raised rises.2
      rw [only.slot]
      rcases concluded.slots i with e | e
      · exact .inl (by rw [e.1, queued])
      · exact .inr (by rw [e.slot])
    · have stays : ¬s.rises i := of_decide_eq_false down
      exact only.spared (concluded.spared (turned.others i stays))
    · intro same none_ each q
      have still : ∀ j, (s.enterRun.slot j).state = (s.raised.slot j).state := fun j => by
        rcases concluded.slots j with e | e
        · rw [e.1]
        · exfalso
          by_cases up : raised j = true
          · have waits := (each j up).2
            rw [only.slot, e.slot] at waits
            cases waits
          · have stays : ¬s.rises j := fun rises => up (decide_eq_true rises)
            exact none_ j (by rw [show s.slot j = s.raised.slot j from (turned.others j stays).1.symm]; exact e.waited)
      rw [only.arbiter, (concluded.queues still).1]
      unfold State.raised
      rw [forSlots_raised_queues (s := s) (u := s.setMode .run) allSlots (List.nodup_finRange 24) (fun _ _ => rfl) rfl rfl rfl
        (fun i _ up => (each i (decide_eq_true up)).1) q]
      rfl

end

end Sys2Proof.Machine
end

section
/-! PROOFS. Group frames: the record opened, and the frame whose every member is refused (R140 to R144, R150, R153). -/

namespace Sys2Proof.Machine

section
variable {s t u : State} {i : SlotId} {g : GroupId} {d : GroupDest} {f : FrameBody} {k : Fin 16}

/-! ### The record opened (R140, R142) -/

theorem freeRecord_isSome (free : ∃ g, s.group g = none) : ∃ g, s.freeRecord = some g ∧ s.group g = none := by
  obtain ⟨h, none_⟩ := free
  cases found : s.freeRecord with
  | none =>
    rw [State.freeRecord, List.find?_eq_none] at found
    exact absurd (by rw [none_]; rfl) (found h (List.mem_finRange h))
  | some g => exact ⟨g, rfl, by simpa using List.find?_some found⟩

/-- A group frame of a governed or a BLOCK kind opens the lowest free record. -/
theorem takeGroupFrame_opens (form : f.wf = true) (kind : k.val = f.kind.toNat) (action : s.kindMap[k].plain = false)
    (free : s.freeRecord = some g) : s.takeGroupFrame d f = s.openGroup g (s.openedRecord d f s.kindMap[k]) := by
  unfold State.takeGroupFrame
  simp only [frameKind_eq kind, refusedField_eq (groupSource_le d), form, action, free, Bool.not_true, Bool.false_eq_true,
    if_false]

theorem frameKind_byte (kind : k.val = f.kind.toNat) : byte k.val = f.kind := by
  have := f.kind.isLt
  rw [kind]
  exact BitVec.eq_of_toNat_eq (by simp [byte])

theorem members_nodup (s : State) (d : GroupDest) : (s.members d).Nodup := by
  cases d with
  | all => exact List.nodup_finRange 24
  | zone z => exact List.Nodup.filter (fun i => decide ((s.slot i).zone = z)) (List.nodup_finRange 24)

/-! ### A frame whose every member is refused (R144, R153) -/

theorem setGroup_setGroup (s : State) (g : GroupId) (x y : Option GroupRecord) :
    (s.setGroup g x).setGroup g y = s.setGroup g y := by
  simp [State.setGroup]

theorem setGroup_self {x : Option GroupRecord} (h : s.group g = x) : s.setGroup g x = s := by
  rw [State.setGroup, ← h, State.group]
  simp

theorem OnlyTrunk.trans (h : OnlyTrunk s t) (k : OnlyTrunk t u) : OnlyTrunk s u := by
  unfold OnlyTrunk at h k ⊢
  rw [k, h]

theorem refreshFlow_setGroup (s : State) (g : GroupId) (x : Option GroupRecord) :
    (s.setGroup g x).refreshFlow = s.refreshFlow.setGroup g x := by
  have free : (s.setGroup g x).freeEntries = s.freeEntries := rfl
  have trunk : (s.setGroup g x).trunk = s.trunk := rfl
  unfold State.refreshFlow State.dueSymbol
  rw [free, trunk]
  by_cases low : s.freeEntries < Config.holdMargin <;> cases hold : s.trunk.hold <;>
    cases running : s.trunk.transmitting <;> simp [low, running] <;> rfl

/-- An answer and a group record do not touch. -/
theorem answerOwed_setGroup (s : State) (g : GroupId) (x : Option GroupRecord) (a : AnswerFrame) :
    (s.setGroup g x).answerOwed a = (s.answerOwed a).setGroup g x :=
  refreshFlow_setGroup ({ s with trunk := { s.trunk with
    reservations := s.trunk.reservations - 1, queue := s.trunk.queue ++ [a] } }) g x

/-- The last member's outcome closes the record, an earlier one leaves it open. -/
theorem recordOutcome_of_head {r : GroupRecord} {is : List SlotId} (open_ : s.group g = some r)
    (remaining : r.remaining = i :: is) (code : AnswerCode) : s.recordOutcome g i code =
      if is = [] then (s.answerOwed (r.withOutcome i code).answer).setGroup g none
      else s.setGroup g (some (r.withOutcome i code)) := by
  have left : (r.withOutcome i code).remaining = is := by
    unfold GroupRecord.withOutcome
    split <;> simp [remaining]
  unfold State.recordOutcome
  rw [open_]
  dsimp only
  rw [if_pos (by simp [remaining]), State.closeIfEmpty, State.group_setGroup_self]
  dsimp only
  rw [left]
  split
  · rw [answerOwed_setGroup, setGroup_setGroup]
  · rfl

theorem forSlots_refused (r₀ : GroupRecord) (codes : SlotId → AnswerCode) (is : List SlotId) (some_ : is ≠ [])
    {r : GroupRecord} (open_ : u.group g = some r) (remaining : r.remaining = is)
    (refuses : ∀ i ∈ is, codes i ≠ .done ∧
      ∀ v : State, v.slots = u.slots → v.mgmt = u.mgmt → v.memberRefusal i r₀.action = some (codes i)) :
    u.forSlots is (fun i t => t.takeMember g r₀ i) =
      (u.answerOwed { r with remaining := [], results := r.results ++ is.map fun i => (i, codes i) }.answer).setGroup g none := by
  induction is generalizing u r with
  | nil => exact absurd rfl some_
  | cons i is ih =>
    obtain ⟨other, refuse⟩ := refuses i (by simp)
    have outcome : r.withOutcome i (codes i) = { r with remaining := is, results := r.results ++ [(i, codes i)] } := by
      simp [GroupRecord.withOutcome, other, remaining]
    change (State.forSlots (u.takeMember g r₀ i) is _) = _
    rw [State.takeMember, refuse u rfl rfl]
    dsimp only
    rw [recordOutcome_of_head open_ remaining, outcome]
    split
    · rename_i last
      subst last
      rfl
    · rename_i more
      rw [ih more (State.group_setGroup_self ..) rfl fun j m => refuses j (by simp [m]), answerOwed_setGroup,
        setGroup_setGroup]
      simp

/-- A record that opens and closes in its event leaves its answer and nothing else. -/
theorem answeredOnly_setGroup (free : s.group g = none) (x : Option GroupRecord) (a : AnswerFrame) :
    AnsweredOnly s (((s.takeReservation.setGroup g x).answerOwed a).setGroup g none) a := by
  have reserved : OnlyTrunk s s.takeReservation := by
    unfold OnlyTrunk State.takeReservation State.refreshFlow State.dueSymbol State.sendSymbols
    simp only []
    (repeat' split) <;> rfl
  have answered : OnlyTrunk s.takeReservation (s.takeReservation.answerOwed a) := (State.answer_answeredOnly _ a).1
  refine ⟨?_, by simp, by simp, by simp⟩
  rw [answerOwed_setGroup, setGroup_setGroup, setGroup_self (by simpa using free)]
  exact reserved.trans answered

/-- The check that refuses a member of a BLOCK frame, or of a governed frame in CONFIG (R144). -/
theorem memberRefusal_of_cause {a : Action} {code : AnswerCode} (slot : t.slot i = s.slot i) (mode : t.mgmt.mode = s.mgmt.mode)
    (cause : (a = .block ∧ code = .blocked) ∨ (Governed a ∧ s.mgmt.mode = .config ∧ code = .configMode)) :
    t.memberRefusal i a = some (if (s.slot i).present then code else .absent) := by
  unfold State.memberRefusal State.governedRefusal
  rw [slot, mode]
  cases (s.slot i).present with
  | false => rfl
  | true =>
    rcases cause with ⟨rfl, rfl⟩ | ⟨governed, config, rfl⟩
    · rfl
    · have other : a ≠ .block := by rcases governed with e | e | e | e <;> rw [e] <;> decide
      simp [other, config]

/-- Settles O15: no member is accepted, so the record answers at once and leaves nothing. -/
theorem groupAnsweredAtOnce : Obligations.GroupAnsweredAtOnce := by
  intro s d f k code room form kind free cause
  obtain ⟨g, lowest, none_⟩ := freeRecord_isSome free
  have action : s.kindMap[k].plain = false := by
    rcases cause with ⟨block, -⟩ | ⟨e | e | e | e, -⟩
    · rw [block]; rfl
    all_goals rw [e]; rfl
  obtain ⟨r, hr⟩ : ∃ r, r = s.openedRecord d f s.kindMap[k] := ⟨_, rfl⟩
  obtain ⟨codes, hcodes⟩ : ∃ codes : SlotId → AnswerCode, codes = fun i => if (s.slot i).present then code else .absent :=
    ⟨_, rfl⟩
  have opened : s.takeGroupFrame d f = ((s.takeReservation.setGroup g (some r)).answerOwed
      { r with remaining := [], results := (s.members d).map fun i => (i, codes i) }.answer).setGroup g none := by
    rw [takeGroupFrame_opens form kind action lowest, ← hr, State.openGroup, show r.remaining = s.members d by rw [hr]; rfl]
    by_cases empty : s.members d = []
    · have none_left : r.remaining = [] := by rw [hr]; exact empty
      have results : r.results = [] := by rw [hr]; rfl
      rw [empty]
      change (s.takeReservation.setGroup g (some r)).closeIfEmpty g = _
      rw [State.closeIfEmpty, State.group_setGroup_self]
      dsimp only
      rw [if_pos none_left, List.map_nil, ← none_left, ← results]
    · rw [forSlots_refused r codes (s.members d) empty (State.group_setGroup_self ..) (by rw [hr]; rfl) fun i _ => ⟨?_, ?_⟩]
      · rw [State.closeIfEmpty, State.group_setGroup_self]
        rw [hr]
        rfl
      · rw [hcodes]
        rcases cause with ⟨-, e⟩ | ⟨-, -, e⟩ <;> rw [e] <;> dsimp only <;> split <;> decide
      · intro v slots mgmt
        have slot : v.slot i = s.slot i := by
          unfold State.slot; rw [slots]; simp
        have mode : v.mgmt.mode = s.mgmt.mode := by rw [mgmt]; simp
        rw [hcodes, show r.action = s.kindMap[k] by rw [hr]; rfl]
        exact memberRefusal_of_cause slot mode cause
  have answered := answeredOnly_setGroup none_ (some r)
    { r with remaining := [], results := (s.members d).map fun i => (i, codes i) }.answer
  rw [← opened] at answered
  refine ⟨_, groupFrame_exec d f room, ?_⟩
  rw [OnlyTrunk.concludeEvent answered.1]
  have frame : { r with remaining := [], results := (s.members d).map fun i => (i, codes i) }.answer =
      ⟨groupSource d, f.kind, f.tag, .done, byte (s.members d).length :: 0 :: byte (s.members d).length ::
        (s.members d).flatMap fun i => [byte i.val, byte (codes i).code]⟩ := by
    rw [hr]
    simp [GroupRecord.answer, GroupRecord.payload, State.openedRecord, frameKind_eq kind, frameKind_byte kind, List.flatMap_map]
  rw [frame, hcodes] at answered
  exact answered

end

end Sys2Proof.Machine
end

section
/-! PROOFS. The change of source: the shed selector's run (R157 to R163). -/

namespace Sys2Proof.Machine

section
variable {s t u w : State} {i j : SlotId} {is : List SlotId}

/-! ### The order of the candidates (R160) -/

/-- Slot `i` is shed before slot `j`: by ascending shed class, within one class by descending slot number. -/
def State.shedsBefore (s : State) (i j : SlotId) : Prop :=
  (s.slot i).shedClass < (s.slot j).shedClass ∨ ((s.slot i).shedClass = (s.slot j).shedClass ∧ j < i)

theorem shedOrder_sorted (s : State) : s.shedOrder.Pairwise s.shedsBefore := by
  have descending : (allSlots.reverse).Pairwise fun i j : SlotId => j < i :=
    List.pairwise_reverse.2 (List.pairwise_lt_finRange 24)
  have classes : ([0, 1, 2] : List (Fin 4)).Pairwise (· < ·) := by decide
  refine List.pairwise_flatMap.2 ⟨fun c _ => ?_, classes.imp fun {c d} below x mx y my => ?_⟩
  · refine (descending.filter _).imp_of_mem fun {x y} mx my below => .inr ⟨?_, below⟩
    simp only [List.mem_filter, Bool.and_eq_true, decide_eq_true_eq] at mx my
    exact mx.2.1.trans my.2.1.symm
  · simp only [List.mem_filter, Bool.and_eq_true, decide_eq_true_eq] at mx my
    exact .inl (by rw [mx.2.1, my.2.1]; exact below)

theorem nodup_of_shedsBefore {order : List SlotId} (sorted : order.Pairwise s.shedsBefore) : order.Nodup := by
  refine sorted.imp fun {i j} before same => ?_
  subst same
  rcases before with below | ⟨-, below⟩
  · exact lt_irrefl _ below
  · exact lt_irrefl _ below

/-- The candidates have one such order. -/
theorem eq_shedOrder {order : List SlotId} (sorted : order.Pairwise s.shedsBefore)
    (members : ∀ i, i ∈ order ↔ i ∈ s.shedOrder) : order = s.shedOrder := by
  have perm : order.Perm s.shedOrder :=
    (List.perm_ext_iff_of_nodup (nodup_of_shedsBefore sorted) (nodup_of_shedsBefore (shedOrder_sorted s))).2 members
  refine List.Perm.eq_of_pairwise (fun i j _ _ before after => ?_) sorted (shedOrder_sorted s) perm
  rcases before with below | ⟨same, below⟩ <;> rcases after with above | ⟨equal, above⟩
  · exact absurd above below.asymm
  · exact absurd equal below.ne'
  · exact absurd same above.ne'
  · exact absurd above below.asymm

/-! ### The run of the selector (R161, R162) -/

/-- The slots of a list have been marked in turn (R162). -/
structure Shed (w : State) (is : List SlotId) (u : State) : Prop where
  event : SlotEvent w u
  supply : u.supply = w.supply
  mgmt : u.mgmt = w.mgmt
  account : AccountKept u
  outcomes : OutcomesGiven w is .shed u
  others : ∀ j, j ∉ is → Untouched w u j
  marked : ∀ j ∈ is, (u.slot j).shedMark = true ∧ (u.slot j).standing = .stopped ∧ (u.slot j).active = none ∧
    (u.slot j).state = afterRecompute true (w.slot j).state .stopped ∧ (u.slot j).reservation = (w.slot j).reservation ∧
    (u.slot j).emergencyUnloads = (w.slot j).emergencyUnloads

theorem Shed.refl (account : AccountKept w) (groups : GroupsKept w) : Shed w [] w :=
  ⟨.refl w, rfl, rfl, account, .refl groups .shed, fun _ _ => ⟨rfl, rfl⟩, fun _ m => absurd m (by simp)⟩

theorem Shed.reservation (h : Shed w is u) (j : SlotId) : (u.slot j).reservation = (w.slot j).reservation := by
  by_cases m : j ∈ is
  · obtain ⟨-, -, -, -, same, -⟩ := h.marked j m
    exact same
  · rw [(h.others j m).1]

/-- One more slot is marked. -/
theorem Shed.mark (h : Shed w is u) (groups : GroupsKept w) (new : i ∉ is) : Shed w (is ++ [i]) (u.shedMarkSlot i) := by
  obtain ⟨slot, -⟩ := h.others i new
  obtain ⟨o, ho⟩ : ∃ o, o = (u.modifySlot i fun r => { r with shedMark := true, standing := .stopped }).giveOutcome i .shed :=
    ⟨_, rfl⟩
  have taken : u.shedMarkSlot i = o.proceed i false := by rw [ho]; rfl
  have record : o.slot i = { u.slot i with shedMark := true, standing := .stopped, active := none } := by
    rw [ho]; simp [State.giveOutcome_slot]
  obtain ⟨marked, reservation, emergency⟩ := shedMarkSlot_unmarked h.account i
  have moved := (o.proceed_moved i false).1
  refine ⟨h.event.trans (slotEvent_shedMarkSlot u i), by rw [← h.supply]; simp, by rw [← h.mgmt]; simp,
    accountKept_mark h.account i, ?_, fun j out => ?_,
    fun j m => ?_⟩
  · have given := (h.outcomes.congr (t := u.modifySlot i fun r => { r with shedMark := true, standing := .stopped }) rfl rfl).give
      groups new (by simp [slot])
    rw [← ho] at given
    rw [taken]
    exact given.congr (by simp) (by simp)
  · rw [List.mem_append, List.mem_singleton, not_or] at out
    exact (h.others j out.1).trans (State.shedMarkSlot_other u out.2)
  · by_cases own : j = i
    · subst own
      refine ⟨marked, ?_, ?_, ?_, by rw [reservation, slot], by rw [emergency, slot]⟩
      · rw [taken, moved, record]
      · rw [taken, moved, record]
      · rw [taken, State.proceed_state, effectiveTarget_of_standing (by rw [record]), afterRecompute_down, record, slot]
    · have before := h.marked j (by simpa [own] using m)
      rw [(State.shedMarkSlot_other u own).1]
      exact before

theorem Shed.total (h : Shed w is u) (account : AccountKept w) : u.arbiter.reservationTotal = w.arbiter.reservationTotal :=
  total_congr account h.account h.reservation

/-- The draws of the first `n` slots of a list. -/
def State.drawsOf (s : State) (is : List SlotId) (n : Nat) : Nat := ((is.take n).map fun i => (s.slot i).reservation).sum

theorem drawsOf_zero (s : State) (is : List SlotId) : s.drawsOf is 0 = 0 := by simp [State.drawsOf]

theorem drawsOf_succ (s : State) (i : SlotId) (is : List SlotId) (n : Nat) :
    s.drawsOf (i :: is) (n + 1) = (s.slot i).reservation + s.drawsOf is n := by simp [State.drawsOf]

/-- The run marks the shortest run of candidates that, with the relief before it, covers the shortfall. -/
theorem shedRun_shed (account : AccountKept w) (groups : GroupsKept w) (rest : List SlotId) (once : (is ++ rest).Nodup)
    (h : Shed w is u) (relief : Nat) (short : w.ceilingInForce + relief < w.arbiter.reservationTotal) :
    ∃ n ≤ rest.length, Shed w (is ++ rest.take n) (u.shedRun rest relief) ∧
      (w.arbiter.reservationTotal ≤ w.ceilingInForce + (relief + w.drawsOf rest n) ∨ n = rest.length) ∧
      ∀ m < n, w.ceilingInForce + (relief + w.drawsOf rest m) < w.arbiter.reservationTotal := by
  induction rest generalizing is u relief with
  | nil => exact ⟨0, le_rfl, by simpa [State.shedRun] using h, .inr rfl, by simp⟩
  | cons i rest ih =>
    have new : i ∉ is := fun m => by
      have := List.disjoint_of_nodup_append once m
      simp at this
    have next := h.mark groups new
    rw [State.shedRun, h.reservation]
    rw [next.total account, next.event.ceiling]
    by_cases covers : w.arbiter.reservationTotal - (relief + (w.slot i).reservation) ≤ w.ceilingInForce
    · rw [if_pos covers]
      refine ⟨1, by simp, by simpa using next, .inl ?_, fun m below => ?_⟩
      · rw [drawsOf_succ, drawsOf_zero]
        omega
      · obtain rfl : m = 0 := by omega
        rw [drawsOf_zero]
        omega
    · rw [if_neg covers]
      obtain ⟨n, within, shed, stops, earlier⟩ := ih (is := is ++ [i]) (by simpa using once) next
        (relief + (w.slot i).reservation) (by omega)
      refine ⟨n + 1, by simpa using within, by simpa using shed, ?_, fun m below => ?_⟩
      · rw [drawsOf_succ]
        refine stops.imp (fun _ => by omega) fun e => by simp [e]
      · cases m with
        | zero => rw [drawsOf_zero]; omega
        | succ m =>
          have := earlier m (by omega)
          rw [drawsOf_succ]
          omega

/-! ### The change of source (R156 to R159) -/

/-- The source of the line in force, its debounce ended. -/
def State.sourced (s : State) : State :=
  { s with supply := { s.supply with source := sourceOf s.supply.line, debounceExpiry := none } }

theorem exec_sourceDebounceExpiry {e : Nat} (expiry : s.supply.debounceExpiry = some e) (due : e ≤ s.now) :
    exec .sourceDebounceExpiry s = .next s.sourced.look.overCeilingTest := by
  change execSourceDebounceExpiry s = _
  rw [execSourceDebounceExpiry, if_pos (by simpa [reached, expiry] using due)]
  rfl

theorem sourced_ceiling (s : State) : s.sourced.ceilingInForce = ceilingOf s (sourceOf s.supply.line) := by
  unfold State.ceilingInForce ceilingOf State.sourced
  cases sourceOf s.supply.line <;> rfl

/-- The over-ceiling condition begun or found, before the selector is considered (R158). -/
def State.exceeded (s : State) : State := if s.supply.overCeiling then s else (s.setOverCeiling true).setFlag .overCeiling

/-- What the condition leaves: everything but the supply monitor and the management unit. -/
theorem exceeded_frame (s : State) : s.exceeded.slots = s.slots ∧ s.exceeded.lanes = s.lanes ∧
    s.exceeded.arbiter = s.arbiter ∧ s.exceeded.groups = s.groups ∧ s.exceeded.trunk = s.trunk ∧
    s.exceeded.profiles = s.profiles ∧ s.exceeded.supply = { s.supply with overCeiling := true } ∧
    (s.supply.overCeiling = false → s.exceeded.mgmt.flags.overCeiling = true) := by
  unfold State.exceeded
  cases was : s.supply.overCeiling
  · exact ⟨rfl, rfl, rfl, rfl, rfl, rfl, rfl, fun _ => rfl⟩
  · refine ⟨rfl, rfl, rfl, rfl, rfl, rfl, ?_, fun e => by cases e⟩
    rw [if_pos rfl, ← was]

theorem overCeilingTest_of_lt (above : s.ceilingInForce < s.arbiter.reservationTotal) :
    s.overCeilingTest = s.exceeded.considerShed := by
  rw [State.overCeilingTest, if_pos above, State.exceeded]
  split <;> rfl

/-- The selector marks the shortest run of candidates that covers the shortfall with the slots marked before, if any. -/
theorem considerShed_shed (account : AccountKept w) (groups : GroupsKept w) :
    ∃ n ≤ w.shedOrder.length, Shed w (w.shedOrder.take n) w.considerShed ∧
      (w.arbiter.reservationTotal ≤ w.ceilingInForce + (w.markedRelief + w.drawsOf w.shedOrder n) ∨ n = w.shedOrder.length) ∧
      ∀ m < n, w.ceilingInForce + (w.markedRelief + w.drawsOf w.shedOrder m) < w.arbiter.reservationTotal := by
  unfold State.considerShed
  split
  · obtain ⟨n, within, shed, stops⟩ := shedRun_shed account groups w.shedOrder
      (by simpa using nodup_of_shedsBefore (shedOrder_sorted w)) (.refl account groups) w.markedRelief (by omega)
    exact ⟨n, within, by simpa using shed, stops⟩
  · refine ⟨0, Nat.zero_le _, by simpa using Shed.refl account groups, .inl ?_, by simp⟩
    rw [drawsOf_zero]
    omega

/-- Settles O31: the look where the new ceiling covers the total, else the selector's run over the candidates in order. -/
theorem sourceChangeSheds : Obligations.SourceChangeSheds := by
  intro s e order expiry due account groups members sorted src relief sumOf
  have candidates : order = s.shedOrder :=
    eq_shedOrder sorted fun i => by rw [State.mem_shedOrder]; exact members i
  have kept : AccountKept s.sourced := accountKept_congr account rfl rfl rfl rfl
  have ceiling : s.sourced.ceilingInForce = ceilingOf s src := sourced_ceiling s
  refine ⟨_, exec_sourceDebounceExpiry expiry due, ?_⟩
  rcases Nat.lt_or_ge (ceilingOf s src) s.arbiter.reservationTotal with above | within
  · have looked : s.sourced.look = s.sourced := look_of_over (by rw [ceiling]; exact above)
    have above' : s.sourced.ceilingInForce < s.sourced.arbiter.reservationTotal := by rw [ceiling]; exact above
    rw [looked, overCeilingTest_of_lt above']
    obtain ⟨w, hw⟩ : ∃ w, w = s.sourced.exceeded := ⟨_, rfl⟩
    obtain ⟨slots, lanes, arbiter, records, trunk, profiles, supply, flag⟩ := exceeded_frame s.sourced
    rw [← hw] at slots lanes arbiter records trunk profiles supply flag ⊢
    have slot : ∀ j, w.slot j = s.slot j := fun j => by unfold State.slot; rw [slots]; rfl
    replace records : w.groups = s.groups := records
    have total : w.arbiter.reservationTotal = s.arbiter.reservationTotal := by rw [arbiter]; rfl
    have ceiling' : w.ceilingInForce = ceilingOf s src := by
      rw [← ceiling]; unfold State.ceilingInForce; rw [arbiter, supply]
    have list : w.shedOrder = order := by
      rw [candidates]
      simp only [State.shedOrder, State.shedCandidate, slot]
    have account' : AccountKept w := accountKept_congr kept slots profiles (by rw [arbiter]) (by rw [arbiter])
    have groups' : GroupsKept w := groupsKept_of_active groups records fun j => by rw [slot]
    obtain ⟨n, short, shed, stops, earlier⟩ := considerShed_shed account' groups'
    rw [list, ceiling', total] at stops
    rw [list] at short shed earlier
    have draws : ∀ m, w.markedRelief + w.drawsOf order m = sumOf m := fun m => by
      simp only [sumOf, relief, State.markedRelief, State.drawsOf, slot]
    rw [draws] at stops
    have few : order.length < 25 := by
      have := (nodup_of_shedsBefore sorted).length_le_card
      simpa using Nat.lt_succ_of_le this
    have given : ∀ is, outcomeAnswers w is .shed = outcomeAnswers s is .shed := fun is =>
      answersFrom_congr records (fun j => by rw [slot]) .shed [] is
    have untouched : ∀ j, Untouched s w j := fun j => ⟨slot j, by unfold State.lane; rw [lanes]; rfl⟩
    refine ⟨?_, fun low => absurd above (Nat.not_lt.2 low), fun _ => ⟨(shed.total account').trans total, fun idle => ?_,
      ⟨n, by omega⟩, short, stops, fun m below => ?_, ?_, fun g => ?_, fun i out => ?_, fun i m => ?_⟩⟩
    · rw [shed.supply, supply, decide_eq_true above]
      rfl
    · rw [shed.mgmt]; exact flag idle
    · rw [← draws, ← total, ← ceiling']; exact earlier m.val below
    · rw [shed.outcomes.queue, trunk, given]; rfl
    · rw [shed.outcomes.group, groupAfter_congr records fun j => by rw [slot]]
    · exact (untouched i).trans (shed.others i out)
    · have marked := shed.marked i m
      rw [slot] at marked
      exact marked
  · have grants := (GrantsOnly.refl kept).look
    have low : s.sourced.look.arbiter.reservationTotal ≤ s.sourced.look.ceilingInForce := by
      rw [grants.event.ceiling, ceiling]
      rcases grants.fits with same | fits
      · rw [same]; exact within
      · rwa [ceiling] at fits
    rw [s.sourced.look.overCeilingTest_of_le low]
    obtain ⟨-, -, -, -, -, -, -, -, -, -, -, -, -, -, line, source, debounce, -⟩ := slotEvent_iff.1 grants.event
    refine ⟨?_, fun _ => ⟨fun i => ?_, grants.groups, fun i next fits => ?_⟩, fun above => absurd within (Nat.not_le.2 above)⟩
    · rw [decide_eq_false (Nat.not_lt.2 within)]
      have whole : ∀ x : SupplyMonitor, { x with overCeiling := false } = ⟨x.line, x.source, x.debounceExpiry, false⟩ :=
        fun _ => rfl
      exact (whole _).trans (by rw [line, source, debounce]; rfl)
    · exact (grants.overCeiling false).spared ⟨rfl, rfl⟩
    · have candidate : s.sourced.candidate = some i := candidate_of_next rfl (fun j => rfl) next
      obtain ⟨run, passed, -⟩ := next
      exact granted_of_look kept run candidate ((State.drawFits_iff _ i).2 (by rw [ceiling]; exact fits))
        ((State.staggerPassed_iff _).2 fun x l => by rw [Nat.mul_comm]; exact passed x l)

end

end Sys2Proof.Machine
end

section
/-! PROOFS. The fan-out of a group frame in RUN, member by member (R142 to R147, R150). -/

namespace Sys2Proof.Machine

section
variable {s t u v : State} {i j : SlotId} {g : GroupId} {a : ActiveRequest}

/-! ### The queue that an accepted member joins or leaves (R31 to R33) -/

/-- The queue of a member's request (R31). -/
def State.groupChoice (s : State) (p : Fin 8) : Fin 4 :=
  if s.arbiter.groupByPriority then s.arbiter.priorityMap[p] else s.arbiter.groupQueue

theorem queueChoice_group (active : (s.slot i).active = some a) (origin : a.origin = .group g) (high : a.target ≠ .stopped) :
    s.queueChoice i = (s.groupChoice a.priority, some a.priority) := by
  unfold State.queueChoice State.groupChoice
  rw [active]
  dsimp only
  rw [if_neg high, origin]
  dsimp only
  split <;> rfl

/-- No entry of a slot that does not wait stands in a queue (R29). -/
theorem filter_of_no_entry (none_ : s.entriesOf i = 0) (q : Fin 4) (b : Bool) :
    s.arbiter.queues[q].filter (fun e => !(decide (e.slot = i) && b)) = s.arbiter.queues[q] := by
  rw [List.filter_eq_self]
  intro e m
  have within : e ∈ s.examined := by
    unfold State.examined
    match q with
    | 0 => simp [show e ∈ s.arbiter.queues[0] from m]
    | 1 => simp [show e ∈ s.arbiter.queues[1] from m]
    | 2 => simp [show e ∈ s.arbiter.queues[2] from m]
    | 3 => simp [show e ∈ s.arbiter.queues[3] from m]
  have other := List.countP_eq_zero.1 none_ e within
  simp [show ¬e.slot = i by simpa using other]

/-- What an acceptance for a group makes of the queues: a slot sent down leaves, a slot raised joins the group's queue. -/
theorem accept_queues (account : AccountKept s) (run : s.mgmt.mode = .run)
    (serves : (s.slot i).inService = true) (marked : (s.slot i).shedMark = true → a.target = .stopped)
    (origin : a.origin = .group g) (q : Fin 4) : (s.accept i a).arbiter.queues[q] =
      s.arbiter.queues[q].filter (fun e => !(decide (e.slot = i) && decide (a.target = .stopped))) ++
        if q = s.groupChoice a.priority ∧ (s.slot i).state = .stopped ∧ a.target ≠ .stopped then [⟨i, some a.priority⟩] else [] := by
  obtain ⟨x, hx⟩ : ∃ x, x = s.posed i a := ⟨_, rfl⟩
  have record := posed_slot s i i a
  rw [if_pos rfl, ← hx] at record
  have queues : x.arbiter = s.arbiter := by rw [hx]; simp [State.posed]
  have entries : x.entriesOf i = s.entriesOf i := by simp [State.entriesOf, State.examined, queues]
  have accepted : (s.accept i a).arbiter = (x.proceed i false).arbiter := by rw [State.accept_eq, ← hx]; simp
  have low : x.effectiveTarget i = .stopped ↔ a.target = .stopped := by
    rcases posed_target (a := a) serves marked with same | ⟨top, below, -⟩
    · rw [hx, same]
    · rw [hx, top, below]; simp
  have still : (s.slot i).state ≠ .queued → s.arbiter.queues[q].filter
      (fun e => !(decide (e.slot = i) && decide (a.target = .stopped))) = s.arbiter.queues[q] := fun out =>
    filter_of_no_entry (by rw [(account.slots i).queued, if_neg out]) q _
  have all : a.target ≠ .stopped → s.arbiter.queues[q].filter
      (fun e => !(decide (e.slot = i) && decide (a.target = .stopped))) = s.arbiter.queues[q] := fun high => by
    simp [high]
  have state : (x.slot i).state = (s.slot i).state := by rw [record]
  have rest : (s.slot i).state ≠ .queued → (s.slot i).state ≠ .stopped → s.arbiter.queues[q] =
      s.arbiter.queues[q].filter (fun e => !(decide (e.slot = i) && decide (a.target = .stopped))) ++
        if q = s.groupChoice a.priority ∧ (s.slot i).state = .stopped ∧ a.target ≠ .stopped then [⟨i, some a.priority⟩] else [] :=
    fun out up => by rw [still out, if_neg fun h => up h.2.1, List.append_nil]
  rw [accepted]
  have taken := proceedStep x i false
  generalize x.proceed i false = y at taken ⊢
  cases taken with
  | stays same =>
    have mode : x.mgmt.mode = .run := by rw [hx, ← run]; simp [State.posed]
    rw [state, mode] at same
    rw [queues]
    have calm : ¬((s.slot i).state = .stopped ∧ a.target ≠ .stopped) := fun ⟨st, high⟩ => by
      rw [st] at same
      exact absurd ((afterRecompute_raised (mt low.1 high)).symm.trans same) (by decide)
    rw [if_neg fun h => calm h.2, List.append_nil]
    by_cases waits : (s.slot i).state = .queued
    · refine (all fun down => ?_).symm
      rw [waits, low.2 down] at same
      cases same
    · exact (still waits).symm
  | raised st up =>
    rw [state] at st
    have high := mt low.2 up
    rw [raised_queues, queueChoice_group (by rw [record]) origin high, still (by rw [st]; decide), queues]
    have choice : x.groupChoice a.priority = s.groupChoice a.priority := by unfold State.groupChoice; rw [queues]
    dsimp only
    rw [choice]
    by_cases own : q = s.groupChoice a.priority
    · rw [if_pos own, if_pos ⟨own, st, high⟩]
    · rw [if_neg own, if_neg fun h => own h.1, List.append_nil]
  | withdrawn st down =>
    rw [state] at st
    rw [if_neg fun h => h.2.2 (low.1 down), List.append_nil]
    simp [State.dequeue, queues, low.1 down]
  | spunDown kept st =>
    rw [state] at st
    refine Eq.trans ?_ (rest ?_ ?_)
    · simp [State.spinDown, queues]
    · rcases st with ⟨st, -⟩ | ⟨st, -⟩ <;> rw [st] <;> decide
    · rcases st with ⟨st, -⟩ | ⟨st, -⟩ <;> rw [st] <;> decide
  | loads st =>
    rw [state] at st
    refine Eq.trans ?_ (rest ?_ ?_)
    · simp [queues]
    · rw [st]; decide
    · rw [st]; decide
  | unloads st =>
    rw [state] at st
    refine Eq.trans ?_ (rest ?_ ?_)
    · simp [State.unloadHeads, queues]
    · rcases st with st | st <;> rw [st] <;> decide
    · rcases st with st | st <;> rw [st] <;> decide

end

/-! ### The fan-out -/

/-- What a group frame asks of its members: the frame's fields, the record that it opens and the target of each slot. -/
structure GroupAsked where
  dest : GroupDest
  frame : FrameBody
  kind : Fin 16
  priority : Fin 8
  group : GroupId
  target : SlotId → Target

namespace GroupAsked

/-- The members accepted among the slots of a list. -/
def taken (G : GroupAsked) (s : State) (is : List SlotId) : List SlotId :=
  is.filter fun i => (memberCode s i (G.target i)).isNone

/-- The accepted members that do not stand at their targets. -/
def left (G : GroupAsked) (s : State) (is : List SlotId) : List SlotId :=
  (G.taken s is).filter fun i => !atTarget (s.slot i).state (G.target i)

/-- The members refused, with their outcomes. -/
def refused (G : GroupAsked) (s : State) (is : List SlotId) : List (SlotId × AnswerCode) :=
  is.filterMap fun i => (memberCode s i (G.target i)).map fun c => (i, c)

/-- The request that an accepted member becomes (R145). -/
def request (G : GroupAsked) (s : State) (i : SlotId) : ActiveRequest :=
  ⟨.group G.group, G.frame.tag, G.kind, G.target i, deadlineOf s G.frame, G.priority⟩

/-- The group's record when the members `is` have been taken and the members `rest` have not. -/
def record (G : GroupAsked) (s : State) (is rest : List SlotId) : GroupRecord :=
  ⟨G.dest, G.frame.tag, G.kind, s.kindMap[G.kind], G.priority, G.frame.waitLimit, (s.members G.dest).length,
    G.left s is ++ rest, (G.taken s is).length - (G.left s is).length, G.refused s is⟩

/-- The accepted members that are raised. -/
def raised (G : GroupAsked) (s : State) (is : List SlotId) : List SlotId :=
  (G.taken s is).filter fun i => decide ((s.slot i).state = .stopped ∧ G.target i ≠ .stopped)

/-- The frame passes its checks, in RUN, and opens the lowest free record. -/
structure Sound (G : GroupAsked) (s : State) : Prop where
  form : G.frame.wf = true
  kind : G.kind.val = G.frame.kind.toNat
  priority : G.priority.val = G.frame.priority.toNat
  run : s.mgmt.mode = .run
  free : s.group G.group = none
  targets : ∀ i, targetTable s.kindMap[G.kind] (s.slot i).standing = some (G.target i)
  account : AccountKept s
  heads : HeadsAllowed s
  groups : GroupsKept s

end GroupAsked

/-- An accepted member has taken its request and gone by the rule of its state. -/
structure MemberTaken (s u : State) (i : SlotId) (a : ActiveRequest) : Prop where
  moved : MovedFrom s u i { s.slot i with
    standing := a.target, lastPriority := some a.priority
    active := if atTarget (s.slot i).state a.target then none else some a }
  state : (u.slot i).state = afterRecompute (decide (s.mgmt.mode = .run)) (s.slot i).state (u.effectiveTarget i)
  lane : LaneKept s i → LaneKept u i
  emergency : (u.slot i).emergencyUnloads = (s.slot i).emergencyUnloads

/-- The members `is` have been taken, those of `rest` not yet; the record is not closed before its last look. -/
structure FanOut (G : GroupAsked) (s : State) (is rest : List SlotId) (u : State) : Prop where
  event : SlotEvent s u
  mgmt : u.mgmt = s.mgmt
  account : AccountKept u
  reservation : ∀ j, (u.slot j).reservation = (s.slot j).reservation
  last : u.arbiter.lastGrant = s.arbiter.lastGrant
  others : ∀ j, j ∉ G.taken s is → Untouched s u j
  members : ∀ j ∈ G.taken s is, MemberTaken s u j (G.request s j)
  record : u.group G.group = some (G.record s is rest)
  outcomes : OutcomesFrom s (· ≠ G.group) s.trunk.queue (s.trunk.reservations + 1) (G.taken s is) .superseded u
  queues : ∀ q : Fin 4, u.arbiter.queues[q] =
    s.arbiter.queues[q].filter (fun e => !(decide (e.slot ∈ G.taken s is) && decide (G.target e.slot = .stopped))) ++
      if q = s.groupChoice G.priority then (G.raised s is).map fun i => ⟨i, some G.priority⟩ else []

section
variable {G : GroupAsked} {s t u v : State} {is rest : List SlotId} {i j : SlotId}

theorem MemberTaken.congr {a : ActiveRequest} (h : MemberTaken s u i a) (event : SlotEvent u t) (after : Untouched u t i) :
    MemberTaken s t i a := by
  obtain ⟨⟨record, issued⟩, state, kept, emergency⟩ := h
  have target : t.effectiveTarget i = u.effectiveTarget i :=
    effectiveTarget_congr after.1 (by rw [State.covered, event.standingOf (by rw [after.1])]; rfl)
  refine ⟨⟨?_, ?_⟩, ?_, fun before => laneKept_congr (kept before) after.2 (by rw [after.1]), ?_⟩
  · rw [after.1]; exact record
  · rw [after.2]; exact issued
  · rw [after.1, target]; exact state
  · rw [after.1]; exact emergency

/-! #### The checks of a member (R125, R144) -/

theorem memberRefusal_eq (h : G.Sound s) (slot : u.slot i = s.slot i) (mode : u.mgmt = s.mgmt) :
    u.memberRefusal i s.kindMap[G.kind] = memberCode s i (G.target i) := by
  obtain ⟨governed, target⟩ := targetTable_eq_some.1 (h.targets i)
  have other : s.kindMap[G.kind] ≠ .block := by rcases governed with e | e | e | e <;> rw [e] <;> decide
  have run : u.mgmt.mode = .run := by rw [mode]; exact h.run
  unfold State.memberRefusal State.governedRefusal memberCode
  dsimp only
  rw [slot, target, if_neg other, run]
  cases (s.slot i).present <;> cases (s.slot i).inService <;> simp

theorem memberCode_not_done {tgt : Target} {code : AnswerCode} (h : memberCode s i tgt = some code) : code ≠ .done := by
  unfold memberCode at h
  split at h
  · cases h; decide
  · split at h
    · cases h; decide
    · split at h
      · cases h; decide
      · split at h
        · cases h; decide
        · cases h

theorem acceptable_of_memberCode {tgt : Target} (h : memberCode s i tgt = none) : (s.slot i).present = true ∧
    (s.slot i).inService = true ∧ (s.slot i).state ≠ .fault ∧ ((s.slot i).shedMark = true → tgt = .stopped) := by
  unfold memberCode at h
  split at h
  · cases h
  · split at h
    · cases h
    · split at h
      · cases h
      · split at h
        · cases h
        · rename_i present serves sound marked
          exact ⟨by simpa using present, by simpa using serves, sound, fun m => by
            by_contra high; exact marked ⟨m, high⟩⟩

theorem memberRequest_eq (h : G.Sound s) (slot : u.slot i = s.slot i) (now : u.now = s.now) :
    u.memberRequest G.group (s.openedRecord G.dest G.frame s.kindMap[G.kind]) i = G.request s i := by
  obtain ⟨-, target⟩ := targetTable_eq_some.1 (h.targets i)
  simp only [State.memberRequest, State.openedRecord, slot, now, target, frameKind_eq h.kind, framePriority_eq h.priority]
  rfl

/-! #### The lists and the record, one member further (R141, R148) -/

theorem taken_append_refused {code : AnswerCode} (refused : memberCode s i (G.target i) = some code) :
    G.taken s (is ++ [i]) = G.taken s is := by
  simp [GroupAsked.taken, List.filter_append, refused]

theorem taken_append_accepted (accepted : memberCode s i (G.target i) = none) :
    G.taken s (is ++ [i]) = G.taken s is ++ [i] := by
  simp [GroupAsked.taken, List.filter_append, accepted]

theorem refused_append_refused {code : AnswerCode} (refused : memberCode s i (G.target i) = some code) :
    G.refused s (is ++ [i]) = G.refused s is ++ [(i, code)] := by
  simp [GroupAsked.refused, List.filterMap_append, refused]

theorem refused_append_accepted (accepted : memberCode s i (G.target i) = none) :
    G.refused s (is ++ [i]) = G.refused s is := by
  simp [GroupAsked.refused, List.filterMap_append, accepted]

theorem not_mem_left (new : i ∉ is) : i ∉ G.left s is := fun m =>
  new (List.mem_of_mem_filter (List.mem_of_mem_filter m))

theorem not_mem_taken (new : i ∉ is) : i ∉ G.taken s is := fun m => new (List.mem_of_mem_filter m)

theorem left_length_le (G : GroupAsked) (s : State) (is : List SlotId) : (G.left s is).length ≤ (G.taken s is).length :=
  List.length_filter_le ..

theorem record_refused {code : AnswerCode} (new : i ∉ is) (refused : memberCode s i (G.target i) = some code) :
    (G.record s is (i :: rest)).withOutcome i code = G.record s (is ++ [i]) rest := by
  have same : G.left s (is ++ [i]) = G.left s is := by unfold GroupAsked.left; rw [taken_append_refused refused]
  simp only [GroupRecord.withOutcome, if_neg (memberCode_not_done refused), GroupAsked.record, same,
    taken_append_refused refused, refused_append_refused refused, List.erase_append_right _ (not_mem_left new),
    List.erase_cons_head]

theorem record_done (new : i ∉ is) (accepted : memberCode s i (G.target i) = none)
    (stands : atTarget (s.slot i).state (G.target i) = true) :
    (G.record s is (i :: rest)).withOutcome i .done = G.record s (is ++ [i]) rest := by
  have same : G.left s (is ++ [i]) = G.left s is := by
    simp [GroupAsked.left, taken_append_accepted accepted, List.filter_append, stands]
  have count : (G.taken s is ++ [i]).length - (G.left s is).length = (G.taken s is).length - (G.left s is).length + 1 := by
    have := left_length_le G s is
    rw [List.length_append, List.length_singleton]; omega
  simp only [GroupRecord.withOutcome, if_true, GroupAsked.record, same, taken_append_accepted accepted, count,
    refused_append_accepted accepted, List.erase_append_right _ (not_mem_left new), List.erase_cons_head]

theorem record_waits (accepted : memberCode s i (G.target i) = none)
    (moves : atTarget (s.slot i).state (G.target i) = false) :
    G.record s is (i :: rest) = G.record s (is ++ [i]) rest := by
  have more : G.left s (is ++ [i]) = G.left s is ++ [i] := by
    simp [GroupAsked.left, taken_append_accepted accepted, List.filter_append, moves]
  simp only [GroupAsked.record, more, taken_append_accepted accepted, refused_append_accepted accepted, List.append_assoc,
    List.singleton_append, List.length_append, List.length_singleton, Nat.add_sub_add_right]

/-! #### One member (R144, R145) -/

/-- A refused member's outcome joins the record, and nothing else changes. -/
theorem FanOut.refuse {code : AnswerCode} (h : FanOut G s is (i :: rest) u) (new : i ∉ is)
    (refused : memberCode s i (G.target i) = some code) :
    FanOut G s (is ++ [i]) rest (u.setGroup G.group (some (G.record s (is ++ [i]) rest))) ∧
      u.recordOutcome G.group i code =
        (u.setGroup G.group (some (G.record s (is ++ [i]) rest))).closeIfEmpty G.group := by
  have same := taken_append_refused (is := is) refused
  refine ⟨⟨h.event.trans (slotEvent_iff.2 (by simp)), h.mgmt, accountKept_congr h.account rfl rfl rfl rfl, h.reservation,
    h.last, ?_, ?_, State.group_setGroup_self .., ?_, ?_⟩, ?_⟩
  · rw [same]; exact h.others
  · rw [same]
    exact fun j m => (h.members j m).congr (slotEvent_iff.2 (by simp)) ⟨rfl, rfl⟩
  · obtain ⟨group, queue, spent⟩ := h.outcomes
    rw [same]
    exact ⟨fun k other => (u.group_setGroup_of_ne other _).trans (group k other), queue, spent⟩
  · rw [same]
    have raised : G.raised s (is ++ [i]) = G.raised s is := by unfold GroupAsked.raised; rw [same]
    rw [raised]
    exact h.queues
  · rw [State.recordOutcome, h.record]
    dsimp only
    rw [if_pos (by simp [GroupAsked.record]), record_refused new refused]

theorem OutcomesFrom.congr {old : GroupId → Prop} {queue : List AnswerFrame} {n : Nat} {c : AnswerCode}
    (h : OutcomesFrom s old queue n is c u) (trunk : t.trunk = u.trunk) (groups : ∀ k, old k → t.group k = u.group k) :
    OutcomesFrom s old queue n is c t :=
  ⟨fun k there => (groups k there).trans (h.group k there), by rw [trunk]; exact h.queue, by rw [trunk]; exact h.spent⟩

/-- An outcome leaves the records of other groups. -/
theorem giveOutcome_group_other {k : GroupId} (other : ∀ b ∈ (s.slot i).active, b.origin ≠ .group k) (c : AnswerCode) :
    (s.giveOutcome i c).group k = s.group k := by
  cases request : (s.slot i).active with
  | none => rw [s.giveOutcome_of_none request]
  | some b =>
    have apart := other b request
    cases origin : b.origin with
    | controller => exact State.group_congr (s.giveOutcome_controller request origin c).2.2 k
    | group l =>
      have ne : k ≠ l := fun e => apart (by rw [origin, e])
      rw [s.giveOutcome_group request origin]
      unfold State.recordOutcome State.closeIfEmpty
      split
      · split
        · rw [State.group_setGroup_self]
          dsimp only
          split <;> simp [ne]
        · simp
      · simp

theorem closeIfEmpty_of_open {r : GroupRecord} {g : GroupId} (open_ : s.group g = some r) (some_ : r.remaining ≠ []) :
    s.closeIfEmpty g = s := by
  rw [State.closeIfEmpty, open_]
  dsimp only
  rw [if_neg some_]

/-- An accepted member reaches its target in the event where it stands at it already. -/
theorem FanOut.reaches (h : FanOut G s is (i :: rest) u) (sound : G.Sound s) (new : i ∉ is)
    (accepted : memberCode s i (G.target i) = none) :
    (((u.posed i (G.request s i)).proceed i false).slot i).state.asTarget = some (G.request s i).target ↔
      atTarget (s.slot i).state (G.target i) = true := by
  obtain ⟨slot, -⟩ := h.others i (not_mem_taken new)
  obtain ⟨present, serves, fit, marked⟩ := acceptable_of_memberCode accepted
  have target : u.effectiveTarget i = s.effectiveTarget i :=
    effectiveTarget_congr slot (by rw [State.covered, h.event.standingOf (by rw [slot])]; rfl)
  have reaches := posed_reached (a := G.request s i) h.account (by rw [slot]; exact present) (by rw [h.mgmt]; exact sound.run)
    (by rw [slot]; exact serves) (by rw [slot]; exact fit) (by rw [slot]; exact marked)
    (by rw [slot, target]; exact sound.heads i)
  rwa [slot] at reaches

/-- Up to the last look at the record, an accepted member's request replaces its former one and its slot moves. -/
theorem accept_closes (h : FanOut G s is (i :: rest) u) (sound : G.Sound s) (new : i ∉ is)
    (accepted : memberCode s i (G.target i) = none) : ∃ w, u.accept i (G.request s i) = w.closeIfEmpty G.group ∧
      w.group G.group = some (G.record s (is ++ [i]) rest) ∧
      OutcomesFrom s (· ≠ G.group) s.trunk.queue (s.trunk.reservations + 1) (G.taken s (is ++ [i])) .superseded w := by
  obtain ⟨slot, -⟩ := h.others i (not_mem_taken new)
  obtain ⟨y, hy⟩ : ∃ y, y = (u.posed i (G.request s i)).proceed i false := ⟨_, rfl⟩
  have former : ∀ b ∈ (s.slot i).active, b.origin ≠ .group G.group := fun b m origin => by
    obtain ⟨r, open_, -⟩ := (sound.groups.members G.group i).2 ⟨b, m, origin⟩
    rw [sound.free] at open_
    cases open_
  have groups : y.groups = (u.giveOutcome i .superseded).groups := by
    rw [hy]; simp [State.posed, GroupAsked.request, State.reserveFor]
  have trunk : y.trunk = (u.giveOutcome i .superseded).trunk := by
    rw [hy]; simp [State.posed, GroupAsked.request, State.reserveFor]
  have here : y.group G.group = some (G.record s is (i :: rest)) := by
    rw [State.group_congr groups, giveOutcome_group_other (by rw [slot]; exact former), h.record]
  have given : OutcomesFrom s (· ≠ G.group) s.trunk.queue (s.trunk.reservations + 1) (G.taken s (is ++ [i])) .superseded y := by
    rw [taken_append_accepted accepted]
    refine (h.outcomes.give sound.groups (not_mem_taken new) (by rw [slot]) fun k member same => ?_).congr trunk
      fun k _ => State.group_congr groups k
    subst same
    obtain ⟨b, m, origin⟩ : ∃ b ∈ (s.slot i).active, b.origin = .group G.group := by
      cases request : (s.slot i).active with
      | none => simp [memberOf, request] at member
      | some b => exact ⟨b, rfl, by simpa [memberOf, request] using member⟩
    exact former b m origin
  have active : (y.slot i).active = some (G.request s i) := by
    rw [hy, (State.proceed_moved _ i false).1, posed_slot, if_pos rfl]
  have reaches := h.reaches sound new accepted
  rw [← hy] at reaches
  rw [State.accept_eq, ← hy, State.completeIfReached, active]
  dsimp only
  cases stands : atTarget (s.slot i).state (G.target i) with
  | true =>
    rw [if_pos (reaches.2 stands)]
    refine ⟨(y.modifySlot i fun r => { r with active := none }).setGroup G.group (some (G.record s (is ++ [i]) rest)), ?_,
      State.group_setGroup_self .., given.congr rfl fun k other => ?_⟩
    · have record : (y.modifySlot i fun r => { r with active := none }).group G.group = some (G.record s is (i :: rest)) := here
      rw [y.giveOutcome_group active rfl, State.recordOutcome, record]
      dsimp only
      rw [if_pos (by simp [GroupAsked.record]), record_done new accepted stands]
    · exact State.group_setGroup_of_ne _ other _
  | false =>
    have stays : (y.slot i).state.asTarget ≠ some (G.request s i).target := fun e => by
      rw [show atTarget (s.slot i).state (G.target i) = true from reaches.1 e] at stands
      cases stands
    rw [if_neg stays]
    refine ⟨y, (closeIfEmpty_of_open here (by simp [GroupAsked.record])).symm, ?_, given⟩
    rw [← record_waits accepted stands]
    exact here

theorem raised_append (accepted : memberCode s i (G.target i) = none) : G.raised s (is ++ [i]) = G.raised s is ++
    if (s.slot i).state = .stopped ∧ G.target i ≠ .stopped then [i] else [] := by
  rw [GroupAsked.raised, taken_append_accepted accepted, List.filter_append]
  congr 1
  rw [List.filter_cons, List.filter_nil]
  simp only [decide_eq_true_eq]

/-- The queues, one accepted member further. -/
theorem queues_append (new : i ∉ is) (accepted : memberCode s i (G.target i) = none) (q : Fin 4) :
    (s.arbiter.queues[q].filter (fun e => !(decide (e.slot ∈ G.taken s is) && decide (G.target e.slot = .stopped))) ++
        if q = s.groupChoice G.priority then (G.raised s is).map fun i => (⟨i, some G.priority⟩ : QueueEntry) else []).filter
      (fun e => !(decide (e.slot = i) && decide (G.target i = .stopped))) ++
      (if q = s.groupChoice G.priority ∧ (s.slot i).state = .stopped ∧ G.target i ≠ .stopped
        then [⟨i, some G.priority⟩] else []) =
    s.arbiter.queues[q].filter
        (fun e => !(decide (e.slot ∈ G.taken s (is ++ [i])) && decide (G.target e.slot = .stopped))) ++
      if q = s.groupChoice G.priority then (G.raised s (is ++ [i])).map fun i => ⟨i, some G.priority⟩ else [] := by
  have former : ∀ e ∈ (G.raised s is).map fun i => (⟨i, some G.priority⟩ : QueueEntry),
      (!(decide (e.slot = i) && decide (G.target i = .stopped))) = true := fun e m => by
    obtain ⟨j, there, rfl⟩ := List.mem_map.1 m
    have other : j ≠ i := fun own => new (own ▸ List.mem_of_mem_filter (List.mem_of_mem_filter there))
    simp [other]
  have leave : ∀ e : QueueEntry, (!(decide (e.slot = i) && decide (G.target i = .stopped)) &&
      !(decide (e.slot ∈ G.taken s is) && decide (G.target e.slot = .stopped))) =
        !(decide (e.slot ∈ G.taken s (is ++ [i])) && decide (G.target e.slot = .stopped)) := fun e => by
    rw [taken_append_accepted accepted]
    by_cases own : e.slot = i
    · simp [own, not_mem_taken new]
    · simp [own]
  rw [List.filter_append, List.filter_filter, List.filter_congr fun e _ => leave e, raised_append accepted, List.append_assoc]
  congr 1
  by_cases here : q = s.groupChoice G.priority
  · rw [if_pos here, List.filter_eq_self.2 former, if_pos here, List.map_append]
    by_cases up : (s.slot i).state = .stopped ∧ G.target i ≠ .stopped
    · rw [if_pos ⟨here, up⟩, if_pos up]; rfl
    · rw [if_neg fun h => up h.2, if_neg up]; rfl
  · rw [if_neg here, if_neg here, if_neg fun h => here h.1]; rfl

theorem accept_lastGrant (s : State) (i : SlotId) (a : ActiveRequest) :
    (s.accept i a).arbiter.lastGrant = s.arbiter.lastGrant := by
  have completed : (s.accept i a).arbiter = ((s.posed i a).proceed i false).arbiter := by rw [State.accept_eq]; simp
  rw [completed, State.proceed_lastGrant]
  simp [State.posed]

/-- What an acceptance makes of its own member. -/
theorem FanOut.accepted_member (h : FanOut G s is (i :: rest) u) (sound : G.Sound s) (new : i ∉ is)
    (accepted : memberCode s i (G.target i) = none) : MemberTaken s (u.accept i (G.request s i)) i (G.request s i) := by
  obtain ⟨slot, lane⟩ := h.others i (not_mem_taken new)
  obtain ⟨-, moved, state, -, kept, -⟩ := accept_rewritten u i (G.request s i)
  rw [filter_reached (h.reaches sound new accepted)] at moved
  obtain ⟨record, issued⟩ := moved
  refine ⟨⟨?_, ?_⟩, ?_, fun before => kept (laneKept_congr before lane (by rw [slot])) rfl, ?_⟩
  · rw [slot] at record; exact record
  · rw [lane] at issued; exact issued
  · rw [h.mgmt, slot] at state; exact state
  · rw [accept_emergency, slot]

/-- An accepted member has taken its request and gone by its rule. -/
theorem FanOut.accept (h : FanOut G s is (i :: rest) u) (sound : G.Sound s) (new : i ∉ is)
    (accepted : memberCode s i (G.target i) = none) :
    ∃ w, FanOut G s (is ++ [i]) rest w ∧ u.accept i (G.request s i) = w.closeIfEmpty G.group := by
  obtain ⟨w, closes, record, outcomes⟩ := accept_closes h sound new accepted
  obtain ⟨present, serves, fit, marked⟩ := acceptable_of_memberCode accepted
  obtain ⟨slot, -⟩ := h.others i (not_mem_taken new)
  have member := h.accepted_member sound new accepted
  have written := accept_rewritten u i (G.request s i)
  have reservation := accept_reservation h.account (by rw [slot]; exact present) (by rw [slot]; exact fit) (G.request s i)
  have account := accountKept_accept h.account (G.request s i) (by rw [slot]; exact present) (by rw [slot]; exact fit)
  have queues := accept_queues (a := G.request s i) h.account (by rw [h.mgmt]; exact sound.run) (by rw [slot]; exact serves)
    (by rw [slot]; exact marked) rfl
  have last := accept_lastGrant u i (G.request s i)
  have mgmt : (u.accept i (G.request s i)).mgmt = u.mgmt := by simp
  refine ⟨w, ?_, closes⟩
  obtain ⟨x, hx⟩ : ∃ x, x = u.accept i (G.request s i) := ⟨_, rfl⟩
  rw [← hx] at closes member written reservation account queues last mgmt
  have event : SlotEvent x w := slotEvent_iff.2 (by rw [closes]; simp)
  have still : ∀ j, Untouched x w j := fun j => untouched_of_eq (by rw [closes]; simp) (by rw [closes]; simp)
  have arbiter : w.arbiter = x.arbiter := by rw [closes]; simp
  have after : SlotEvent u w := written.event.trans event
  refine ⟨h.event.trans after, ?_, ?_, fun j => ?_, ?_, fun j out => ?_, fun j m => ?_, record, outcomes, fun q => ?_⟩
  · rw [← h.mgmt, ← mgmt, closes]; simp
  · exact accountKept_congr account (by rw [closes]; simp) (by rw [closes]; simp) (by rw [arbiter]) (by rw [arbiter])
  · rw [(still j).1, reservation, h.reservation]
  · rw [arbiter, last, h.last]
  · rw [taken_append_accepted accepted, List.mem_append, List.mem_singleton, not_or] at out
    exact ((h.others j out.1).trans (written.others j out.2)).trans (still j)
  · rw [taken_append_accepted accepted, List.mem_append, List.mem_singleton] at m
    by_cases own : j = i
    · subst own
      exact member.congr event (still j)
    · exact (h.members j (m.resolve_right own)).congr after ((written.others j own).trans (still j))
  · obtain ⟨-, -, -, -, -, -, -, -, priorities, groupQueue, byPriority, -⟩ := slotEvent_iff.1 h.event
    have choice : u.groupChoice G.priority = s.groupChoice G.priority := by
      unfold State.groupChoice; rw [priorities, groupQueue, byPriority]
    rw [arbiter, queues, h.queues, slot, show (G.request s i).priority = G.priority from rfl, choice]
    exact queues_append new accepted q

/-! #### The walk, and the record's last look (R146, R150) -/

theorem closeIfEmpty_twice (s : State) (g : GroupId) : (s.closeIfEmpty g).closeIfEmpty g = s.closeIfEmpty g := by
  cases open_ : s.group g with
  | none =>
    have same : s.closeIfEmpty g = s := by rw [State.closeIfEmpty, open_]
    rw [same, same]
  | some r =>
    by_cases empty : r.remaining = []
    · have closed : s.closeIfEmpty g = (s.answerOwed r.answer).setGroup g none := by
        rw [State.closeIfEmpty, open_]; exact if_pos empty
      rw [closed]
      conv_lhs => rw [State.closeIfEmpty, State.group_setGroup_self]
    · rw [closeIfEmpty_of_open open_ empty, closeIfEmpty_of_open open_ empty]

/-- One member's step, up to the last look at the record. -/
theorem FanOut.member (h : FanOut G s is (i :: rest) u) (sound : G.Sound s) (new : i ∉ is) :
    ∃ w, FanOut G s (is ++ [i]) rest w ∧
      u.takeMember G.group (s.openedRecord G.dest G.frame s.kindMap[G.kind]) i = w.closeIfEmpty G.group := by
  obtain ⟨slot, -⟩ := h.others i (not_mem_taken new)
  have refusal := memberRefusal_eq sound slot h.mgmt
  have now : u.now = s.now := (slotEvent_iff.1 h.event).1
  rw [State.takeMember, show (s.openedRecord G.dest G.frame s.kindMap[G.kind]).action = s.kindMap[G.kind] from rfl, refusal,
    memberRequest_eq sound slot now]
  cases code : memberCode s i (G.target i) with
  | some c =>
    obtain ⟨taken, closes⟩ := h.refuse new code
    exact ⟨_, taken, closes⟩
  | none => exact h.accept sound new code

theorem FanOut.walk (sound : G.Sound s) (rest : List SlotId) (once : (is ++ rest).Nodup) (h : FanOut G s is rest u) :
    ∃ w, FanOut G s (is ++ rest) [] w ∧ (u.forSlots rest fun i t =>
      t.takeMember G.group (s.openedRecord G.dest G.frame s.kindMap[G.kind]) i).closeIfEmpty G.group =
        w.closeIfEmpty G.group := by
  induction rest generalizing is u with
  | nil => exact ⟨u, by simpa using h, rfl⟩
  | cons i rest ih =>
    have new : i ∉ is := fun m => by
      have := List.disjoint_of_nodup_append once m
      simp at this
    obtain ⟨w, taken, closes⟩ := h.member sound new
    change ∃ v, _ ∧ (State.forSlots (u.takeMember G.group _ i) rest _).closeIfEmpty G.group = _
    rw [closes]
    cases rest with
    | nil => exact ⟨w, taken, closeIfEmpty_twice w G.group⟩
    | cons j rest =>
      rw [closeIfEmpty_of_open taken.record (by simp [GroupAsked.record])]
      obtain ⟨v, whole, last⟩ := ih (is := is ++ [i]) (by simpa using once) taken
      exact ⟨v, by simpa using whole, last⟩

/-- The record opened, no member taken yet. -/
theorem fanOut_opened (sound : G.Sound s) : FanOut G s [] (s.members G.dest)
    (s.takeReservation.setGroup G.group (some (s.openedRecord G.dest G.frame s.kindMap[G.kind]))) := by
  refine ⟨slotEvent_iff.2 (by simp), by simp, accountKept_congr sound.account (by simp) (by simp) (by simp) (by simp),
    fun j => by simp, by simp, fun j _ => untouched_of_eq (by simp) (by simp),
    fun j m => absurd m (by simp [GroupAsked.taken]), ?_, ⟨fun k other => ?_, ?_, ?_⟩,
    fun q => ?_⟩
  · rw [State.group_setGroup_self]
    simp only [State.openedRecord, frameKind_eq sound.kind, framePriority_eq sound.priority]
    rfl
  · rw [State.group_setGroup_of_ne _ other, show G.taken s [] = [] from rfl, groupAfter_nil sound.groups]
    simp
  · simp [GroupAsked.taken, outcomeAnswers, answersFrom]
  · simp [GroupAsked.taken, outcomeAnswers, answersFrom]
  · simp [GroupAsked.taken, GroupAsked.raised]

theorem freeRecord_eq_some {g : GroupId} (free : s.group g = none) (lowest : ∀ h, h < g → (s.group h).isSome = true) :
    s.freeRecord = some g := by
  rw [State.freeRecord, List.find?_eq_some_iff_getElem]
  refine ⟨by rw [free]; rfl, g.val, by simp, by simp, fun j below => ?_⟩
  have earlier := lowest ⟨j, below.trans g.isLt⟩ below
  simpa using earlier

/-- A sound group frame is the fan-out over all its members, and the record's last look. -/
theorem takeGroupFrame_fanOut (sound : G.Sound s) (lowest : ∀ h, h < G.group → (s.group h).isSome = true) :
    ∃ w, FanOut G s (s.members G.dest) [] w ∧ s.takeGroupFrame G.dest G.frame = w.closeIfEmpty G.group := by
  have action : s.kindMap[G.kind].plain = false := by
    obtain ⟨governed, -⟩ := targetTable_eq_some.1 (sound.targets 0)
    rcases governed with e | e | e | e <;> rw [e] <;> rfl
  rw [takeGroupFrame_opens sound.form sound.kind action (freeRecord_eq_some sound.free lowest)]
  obtain ⟨w, whole, last⟩ := (fanOut_opened sound).walk sound (s.members G.dest) (members_nodup s G.dest)
  exact ⟨w, whole, last⟩

/-- The record's last look answers and frees a record in which nothing remains. -/
theorem FanOut.closed (h : FanOut G s is [] u) :
    (u.closeIfEmpty G.group).group G.group = (if G.left s is = [] then none else some (G.record s is [])) ∧
    (∀ k, k ≠ G.group → (u.closeIfEmpty G.group).group k = u.group k) ∧
    (u.closeIfEmpty G.group).trunk.queue =
      u.trunk.queue ++ if G.left s is = [] then [(G.record s is []).answer] else [] := by
  have remaining : (G.record s is []).remaining = G.left s is := by simp [GroupAsked.record]
  by_cases empty : G.left s is = []
  · have closes : u.closeIfEmpty G.group = (u.answerOwed (G.record s is []).answer).setGroup G.group none := by
      rw [State.closeIfEmpty, h.record]
      exact if_pos (remaining.trans empty)
    rw [closes, if_pos empty, if_pos empty]
    exact ⟨State.group_setGroup_self .., fun k other => by simp [other], by simp⟩
  · rw [closeIfEmpty_of_open h.record (by rw [remaining]; exact empty), if_neg empty, if_neg empty]
    exact ⟨h.record, fun _ _ => rfl, by simp⟩

/-- Settles O16: the record opened, its members taken one by one, and the record closed where nothing remains in it. -/
theorem groupMembersAccepted : Obligations.GroupMembersAccepted := by
  intro s d f k p g target room form kind priority run free lowest targets account heads groups refused taken left record
  obtain ⟨G, hG⟩ : ∃ G : GroupAsked, G = ⟨d, f, k, p, g, target⟩ := ⟨_, rfl⟩
  have sound : G.Sound s := by rw [hG]; exact ⟨form, kind, priority, run, free, targets, account, heads, groups⟩
  obtain ⟨w, fan, closes⟩ := takeGroupFrame_fanOut sound (by rw [hG]; exact lowest)
  obtain ⟨own, others, queue⟩ := fan.closed
  obtain ⟨x, hx⟩ : ∃ x, x = w.closeIfEmpty G.group := ⟨_, rfl⟩
  rw [← hx] at closes own others queue
  have event : SlotEvent w x := slotEvent_iff.2 (by rw [hx]; simp)
  have still : ∀ j, Untouched w x j := fun j => untouched_of_eq (by rw [hx]; simp) (by rw [hx]; simp)
  have arbiter : x.arbiter = w.arbiter := by rw [hx]; simp
  have after : AccountKept x :=
    accountKept_congr fan.account (by rw [hx]; simp) (by rw [hx]; simp) (by rw [arbiter]) (by rw [arbiter])
  have whole : SlotEvent s x := fan.event.trans event
  have reservation : ∀ j, (x.slot j).reservation = (s.slot j).reservation := fun j => by
    rw [(still j).1, fan.reservation]
  have grants := calm_of_reservations account after whole reservation
  have members : ∀ i ∈ taken, MemberTaken s x i (G.request s i) := fun i m =>
    (fan.members i (by rw [hG]; exact m)).congr event (still i)
  subst hG
  have same : GroupAsked.record ⟨d, f, k, p, g, target⟩ s (s.members d) [] = record := by
    unfold GroupAsked.record
    rw [List.append_nil]
    rfl
  refine ⟨_, by rw [groupFrame_exec d f room, closes], whole.trans grants.event, ?_, fun i out => ?_, fun i m => ⟨?_, ?_, ?_, ?_⟩,
    ?_, fun h other => ?_, ?_, fun last granted early q => ?_⟩
  · rw [grants.mgmt, hx, ← fan.mgmt]; simp
  · exact grants.spared ((fan.others i out).trans (still i))
  · exact grants.moved (members i m).moved
  · exact grants.proceeded whole (members i m).state
  · exact fun kept => (grants.laneKept ((members i m).lane kept)).awaited
  · rw [grants.emergency]; exact (members i m).emergency
  · rw [State.group_congr grants.groups]
    exact own.trans (by rw [same]; rfl)
  · rw [State.group_congr grants.groups]
    exact (others h other).trans (fan.outcomes.group h other)
  · rw [grants.trunk, queue, fan.outcomes.queue, same]
    refine congrArg (s.trunk.queue ++ outcomeAnswers s taken .superseded ++ ·) ?_
    change (if left = [] then [record.answer] else []) = _
    by_cases empty : left = []
    · rw [if_pos empty, if_pos empty]
      simp [record, empty, GroupRecord.answer, GroupRecord.payload, frameKind_byte kind]
    · rw [if_neg empty, if_neg empty]
  · obtain ⟨e, concluded⟩ := concludeEvent_of_early (s := s) (o := x) (staggerPassed_early (by rw [arbiter, fan.last]; exact granted) (by
      obtain ⟨now, -, -, -, -, -, -, -, -, -, -, -, -, interval, -⟩ := slotEvent_iff.1 whole
      rw [now, interval]; exact early)) (total_congr account after reservation) whole.ceiling
    rw [concluded]
    change x.arbiter.queues[q] = _
    rw [arbiter]
    exact fan.queues q

end

end Sys2Proof.Machine
end
